-- ==== Sys2Proof/Word.lean ====
section
/-! DEFINITION. The widths of the block: bytes and 64-bit register words (R23). -/
namespace Sys2Proof

/-- A byte of memory. -/
abbrev Byte := BitVec 8
/-- A 64-bit word: a register, a request-table word, an instruction word. -/
abbrev Word := BitVec 64

end Sys2Proof
end

