-- ==== Sys2Proof/Syntax.lean ====
section
/-! DEFINITION. The commands the block takes from outside, and the data they carry. -/
namespace Sys2Proof

/-- An executor of NSI (R338): a sequencer, a Pip or a Picker. -/
inductive ExecId where
  | seq (n : Fin 8)
  | pip (c : Fin 64) (k : Fin 32)
  | pkr (c : Fin 64) (k : Fin 2)
deriving DecidableEq, Repr

/-- Bits [63:10] of an NSI instruction word (R340). CLASS and OP, bits [9:0], are the constructor's. -/
abbrev NsiBody := BitVec 54

/-- The far side's answer to one read the block makes outside its own memories: `code` 0 and the bytes,
or an error code of R399. A far read with no answer listed completes with TIMEOUT. -/
structure FarRead where
  addr : Nat
  code : Nat
  data : List Byte
deriving DecidableEq, Repr

/-- Who makes a register access (R379, R414): a management port, an executor (EXEC key), a Stem port or a link. -/
inductive RegSrc where
  | portA
  | portB
  | exec (x : Nat)
  | stem (p : Nat)
  | link (l : Nat)
deriving DecidableEq, Repr

/-- A packet of R409 as received: its header fields, its payload, and what the parity checks gave.
KIND is the constructor's, or the kind operand's on a link. `port` is not used on a link. -/
structure Pkt where
  port : Nat
  flags : Nat
  tag : Nat
  length : Nat
  addr : BitVec 64
  value : BitVec 64
  compare : BitVec 64
  data : List Byte
  headerOk : Bool
  payloadOk : Bool
deriving DecidableEq, Repr

/-- A received flit of R432, its payload left out (packets arrive whole, as LINK_REQUEST_PACKET and
LINK_RESPONSE_PACKET). `expect` is the expected SEQ of a NAK. -/
structure Flit where
  crcOk : Bool
  vc : Nat
  seq : Nat
  ackValid : Bool
  ack : Nat
  crdReq : Nat
  crdRsp : Nat
  len : Nat
  expect : Nat
deriving DecidableEq, Repr

/-- The payload of a training CTRL flit (R437). -/
structure Ctrl where
  crcOk : Bool
  kind : Nat
  lanes : BitVec 4
  node : Nat
  link : Nat
  seq : Nat
  grantReq : Nat
  grantRsp : Nat
  fresh : Bool
deriving DecidableEq, Repr

/-- One proposal of a draft pass (R215, R366): a child token of a parent (0xFF is the root) of an entry's tree,
with its draft log-probability as binary32. `failed` marks the entry's part of the pass as failed (R265). -/
structure Proposal where
  entry : Nat
  failed : Bool
  parent : Nat
  token : Nat
  logp : BitVec 32
deriving DecidableEq, Repr

/-- An uncorrectable node store read of an Orchard job (R310): the vector and thread group, and whether the
second read of the same step failed too. -/
structure ReadFault where
  vector : Nat
  group : Nat
  again : Bool
deriving DecidableEq, Repr

/-- The instruments of the IEEE 1687 network (R524). -/
inductive Instrument where
  | thermal | monitors | margin | selfTest | seqDump
deriving DecidableEq, Repr

/-- The 18 bursts of a gang line as one read returns them (R447, R451): the positions whose memNN_ecc_sev is inner-uncorrectable, the bytes that
differ from what the line holds as (position, byte of the burst, difference), and the bursts the inner code corrected. -/
structure BurstRead where
  sev : List Nat
  flips : List (Nat × Nat × BitVec 8)
  innerCorrected : Nat
deriving DecidableEq, Repr

/-- A gang line read (R451): the first read, and the one that follows it where a codeword fails. -/
structure LineRead where
  first : BurstRead
  second : BurstRead
deriving DecidableEq, Repr

/-- One power sample (R469): the core estimate E and the interface estimate X in mW, each segment's answer
(voltage in mV, current in mA), the AVSBus frames that failed twice, and the rail select of a failing Voltage write. -/
structure Sample where
  e : Nat
  x : Nat
  segs : List (Option (Nat × Nat))
  framesFailed : Nat
  voltageFail : Option Nat
deriving DecidableEq, Repr

/-- What a start attempt meets outside the block's rules: the stacks that train, the capacity of a stack in
lines of a gang, the far reads of the image, the first domain not stable in time, a sensor at 95 degrees or
more, the banks that fail the bond test, the stack that fails training twice in LOAD, and links that do not train. -/
structure StartEnv where
  trained : List Nat
  lines : Nat
  image : List FarRead
  unstable : Option Nat
  hotSensor : Option Nat
  bondFailed : BitVec 64
  loadTrainFail : Option Nat
deriving DecidableEq, Repr

/-- The kinds of image whose load runs a check (R159, R188, R202, R300, R316). -/
inductive LoadKind where
  | vocab | grammar | stopset | matcherSet | ensemble
deriving DecidableEq, Repr

/-- The commands of the block: one constructor for each row of the specification's table of operations and events.
The operands are what the outside supplies with the command. -/
inductive Instr where
  /-- TICK_IN_EDGE (R48): A rising edge on tick_in is accepted as a tick boundary two cycles later, or is ignored and counted as early. -/
  | tickInEdge (cycle : Nat)
  /-- INTERNAL_TICK (R50): The internal generator makes a tick boundary every period P on the time base. -/
  | internalTick
  /-- TICK_SOURCE_MISSED (R49): No tick_in edge has been accepted by P times (1 + tolerance), so the block makes the boundary itself; after 8 such boundaries it switches to the internal source. -/
  | tickSourceMissed
  /-- INTAKE_CLOSE (R58): At intake close the block reads every pool's completion counter once and takes in the results shown. -/
  | intakeClose (far : List FarRead)
  /-- ACCEPT_PHASE (R199): Once its intake is complete, the owning sequencer runs Accept for an entry: it applies results, ends, cancellations, deadlines and verdicts. -/
  | acceptPhase (entry : Nat)
  /-- DRAFT_CUTOFF (R60): At the draft cut-off no further draft pass may begin. -/
  | draftCutoff
  /-- MASK_TARGET (R61): At D - U, nodes with incomplete masks are pruned, and streams whose root mask is incomplete skip their step. -/
  | maskTarget
  /-- MASK_DEADLINE (R64): At the mask deadline, publish counter writes that have not completed are flagged MASK_LATE. -/
  | maskDeadline
  /-- PUBLISH_PHASE (R36): Once its masks are complete, a stream's trees, masks, orders and Punnet records are written, and the publish counters follow. -/
  | publishPhase
  /-- TURN_WINDOW_END (R69): At the end of the turn window the main window begins, and the cluster split is set. -/
  | turnWindowEnd
  /-- MONITOR_EVAL (R84): The deadline monitor projects item finishes and moves clusters, substitutes Sloe models or marks overruns. -/
  | monitorEval
  /-- SCHEDULE_FRAME (R82): At a cyclic table frame boundary, clusters take their frame's class and lent clusters return. -/
  | scheduleFrame
  /-- VERDICT_RELEASE (R73): At a request's input release time its verdict is posted, or INDETERMINATE if none exists. -/
  | verdictRelease (entry : Nat)
  /-- ITEM_DONE (R365): A Pip work item ends, writes its result and raises its DONE counter. -/
  | itemDone (item : Nat) (status : Nat) (outs : List (BitVec 32))
  /-- ADM_DOORBELL (R94): The surroundings raise RQT_ADM_DB.POSTED with an atomic add. -/
  | admDoorbell (count : Nat)
  /-- ADMISSION_CLAIM (R98): A sequencer claims an admission descriptor in ring order and posts its result. -/
  | admissionClaim
  /-- CTL_DOORBELL (R94): The surroundings raise RQT_CTL_DB.POSTED with an atomic add. -/
  | ctlDoorbell (count : Nat)
  /-- CONTROL_CLAIM (R97): A control record of kind CANCEL or PAUSE is claimed and passed to the owning sequencer. -/
  | controlClaim
  /-- PUNNET_TAKEN (R181): The surroundings raise TOK_PUN_TAKEN as they consume the Punnet ring. -/
  | punnetTaken (count : Nat)
  /-- LOG_TAKEN (R334): The surroundings raise VRD_LOG_TAKEN as they consume the verdict log. -/
  | logTaken (count : Nat)
  /-- REPORT_TAKEN (R424): The surroundings raise MGT_RPT_TAKEN as they consume report records. -/
  | reportTaken (count : Nat)
  /-- LATTICE_JOB_DONE (R361): A lattice engine job ends, writes its result and raises DONE. -/
  | latticeJobDone (unit : Nat) (fault : Bool) (far : List FarRead)
  /-- MATCH_JOB_DONE (R319): A matcher job ends, writes its result and raises DONE. -/
  | matchJobDone (unit : Nat) (fault : Bool) (far : List FarRead)
  /-- MASK_JOB_DONE (R362): A mask engine job writes its mask and result, then raises DONE. -/
  | maskJobDone (unit : Nat) (fault : Bool) (far : List FarRead)
  /-- TREE_JOB_DONE (R308): An Orchard job writes all its vector results and leaf indices, then raises DONE. -/
  | treeJobDone (unit : Nat) (bad : List ReadFault) (far : List FarRead)
  /-- DPASS_DONE (R366): A draft pass or warm-up completes and raises its DONE counter. -/
  | dpassDone (proposals : List Proposal)
  /-- FETCH_DATA_ARRIVE (R260): A fetch's data are in place, and a token is pushed into each destination queue. -/
  | fetchDataArrive (cluster : Nat) (picker : Nat) (slot : Nat) (far : List FarRead)
  /-- REMOTE_OP_COMPLETE (R401): A posted remote operation completes, and a failure records its code in RM_ERR. -/
  | remoteOpComplete (x : ExecId)
  /-- WAIT_CONDITION_MET (R358): A WAIT observes its counter at or above the target and completes. -/
  | waitConditionMet (x : ExecId)
  /-- REMOTE_TIMEOUT (R399): A far-side operation gets no response within TIMEOUT_US and completes with TIMEOUT. -/
  | remoteTimeout (op : Nat)
  /-- MODEL_LOAD_COMPLETE (R276): A load into the warm region completes, with its digest and CRC checked. -/
  | modelLoadComplete (adapter : Bool) (number : Nat) (far : List FarRead)
  /-- HOT_FILL_COMPLETE (R281): The last granule of a fill is written, and the context becomes resident. -/
  | hotFillComplete (adapter : Bool) (number : Nat)
  /-- FILL_RETRY (R288): A waiting fill is tried again when granules are freed, evicting contexts if enough room can be made. -/
  | fillRetry
  /-- NOP (R349): No operation. -/
  | nsiNop (x : ExecId) (w : NsiBody) (ext : BitVec 64)
  /-- ADD (R349): Scalar addition, wrapping modulo 2^64. -/
  | nsiAdd (x : ExecId) (w : NsiBody) (ext : BitVec 64)
  /-- SUB (R349): Scalar subtraction. -/
  | nsiSub (x : ExecId) (w : NsiBody) (ext : BitVec 64)
  /-- AND (R349): Bitwise AND. -/
  | nsiAnd (x : ExecId) (w : NsiBody) (ext : BitVec 64)
  /-- OR (R349): Bitwise OR. -/
  | nsiOr (x : ExecId) (w : NsiBody) (ext : BitVec 64)
  /-- XOR (R349): Bitwise XOR. -/
  | nsiXor (x : ExecId) (w : NsiBody) (ext : BitVec 64)
  /-- SHL (R349): Shift left. -/
  | nsiShl (x : ExecId) (w : NsiBody) (ext : BitVec 64)
  /-- SHR (R349): Logical shift right. -/
  | nsiShr (x : ExecId) (w : NsiBody) (ext : BitVec 64)
  /-- SRA (R349): Arithmetic shift right. -/
  | nsiSra (x : ExecId) (w : NsiBody) (ext : BitVec 64)
  /-- MUL (R349): Low 64 bits of the product. -/
  | nsiMul (x : ExecId) (w : NsiBody) (ext : BitVec 64)
  /-- MULHU (R349): High 64 bits of the unsigned product. -/
  | nsiMulhu (x : ExecId) (w : NsiBody) (ext : BitVec 64)
  /-- MIN (R349): Signed minimum. -/
  | nsiMin (x : ExecId) (w : NsiBody) (ext : BitVec 64)
  /-- MAX (R349): Signed maximum. -/
  | nsiMax (x : ExecId) (w : NsiBody) (ext : BitVec 64)
  /-- MINU (R349): Unsigned minimum. -/
  | nsiMinu (x : ExecId) (w : NsiBody) (ext : BitVec 64)
  /-- MAXU (R349): Unsigned maximum. -/
  | nsiMaxu (x : ExecId) (w : NsiBody) (ext : BitVec 64)
  /-- BEXT (R349): Bit field extract. -/
  | nsiBext (x : ExecId) (w : NsiBody) (ext : BitVec 64)
  /-- LI (R349): Load an immediate value or extension word. -/
  | nsiLi (x : ExecId) (w : NsiBody) (ext : BitVec 64)
  /-- CEQ (R349): Set a predicate on equality. -/
  | nsiCeq (x : ExecId) (w : NsiBody) (ext : BitVec 64)
  /-- CNE (R349): Set a predicate on inequality. -/
  | nsiCne (x : ExecId) (w : NsiBody) (ext : BitVec 64)
  /-- CLT (R349): Set a predicate on signed less-than. -/
  | nsiClt (x : ExecId) (w : NsiBody) (ext : BitVec 64)
  /-- CLTU (R349): Set a predicate on unsigned less-than. -/
  | nsiCltu (x : ExecId) (w : NsiBody) (ext : BitVec 64)
  /-- CLE (R349): Set a predicate on signed less-or-equal. -/
  | nsiCle (x : ExecId) (w : NsiBody) (ext : BitVec 64)
  /-- CLEU (R349): Set a predicate on unsigned less-or-equal. -/
  | nsiCleu (x : ExecId) (w : NsiBody) (ext : BitVec 64)
  /-- PAND (R349): Predicate AND. -/
  | nsiPand (x : ExecId) (w : NsiBody) (ext : BitVec 64)
  /-- POR (R349): Predicate OR. -/
  | nsiPor (x : ExecId) (w : NsiBody) (ext : BitVec 64)
  /-- PNOT (R349): Predicate NOT. -/
  | nsiPnot (x : ExecId) (w : NsiBody) (ext : BitVec 64)
  /-- BR (R349): Relative branch. -/
  | nsiBr (x : ExecId) (w : NsiBody) (ext : BitVec 64)
  /-- BRR (R349): Branch to the address in a register. -/
  | nsiBrr (x : ExecId) (w : NsiBody) (ext : BitVec 64)
  /-- CALL (R349): Relative call, with the return address written to s31. -/
  | nsiCall (x : ExecId) (w : NsiBody) (ext : BitVec 64)
  /-- RET (R349): Return to the address in s31. -/
  | nsiRet (x : ExecId) (w : NsiBody) (ext : BitVec 64)
  /-- TRAP (R349): Raise SWTRAP with the immediate as detail. -/
  | nsiTrap (x : ExecId) (w : NsiBody) (ext : BitVec 64)
  /-- RFT (R346): Return from trap: clears TRAP_ACTIVE and resumes after the faulting instruction. -/
  | nsiRft (x : ExecId) (w : NsiBody) (ext : BitVec 64)
  /-- END (R349): Ends a Pip's or Picker's part of an item. -/
  | nsiEnd (x : ExecId) (w : NsiBody) (ext : BitVec 64)
  /-- CSRR (R350): Read a CSR. -/
  | nsiCsrr (x : ExecId) (w : NsiBody) (ext : BitVec 64)
  /-- CSRW (R350): Write a CSR. -/
  | nsiCsrw (x : ExecId) (w : NsiBody) (ext : BitVec 64)
  /-- TLD (R352): Load a tile descriptor. -/
  | nsiTld (x : ExecId) (w : NsiBody) (ext : BitVec 64)
  /-- TMV (R352): Move a tile descriptor to a scalar register. -/
  | nsiTmv (x : ExecId) (w : NsiBody) (ext : BitVec 64)
  /-- QPOP (R352): Pop the head token of a queue, waiting while it is empty; this is an acquire. -/
  | nsiQpop (x : ExecId) (w : NsiBody) (ext : BitVec 64)
  /-- QREL (R352): Release the oldest popped token of a queue. -/
  | nsiQrel (x : ExecId) (w : NsiBody) (ext : BitVec 64)
  /-- MMA (R245): Matrix multiply-accumulate of blocks into an accumulator. -/
  | nsiMma (x : ExecId) (w : NsiBody) (ext : BitVec 64) (fault : Bool)
  /-- ACCST (R352): Store an accumulator to a tile, with conversion. -/
  | nsiAccst (x : ExecId) (w : NsiBody) (ext : BitVec 64)
  /-- ACCLD (R352): Load an accumulator from an FP32 or BF16 tile. -/
  | nsiAccld (x : ExecId) (w : NsiBody) (ext : BitVec 64)
  /-- ACCZ (R352): Zero an accumulator. -/
  | nsiAccz (x : ExecId) (w : NsiBody) (ext : BitVec 64)
  /-- VADD (R354): Vector add. -/
  | nsiVadd (x : ExecId) (w : NsiBody) (ext : BitVec 64)
  /-- VSUB (R354): Vector subtract. -/
  | nsiVsub (x : ExecId) (w : NsiBody) (ext : BitVec 64)
  /-- VMUL (R354): Vector multiply. -/
  | nsiVmul (x : ExecId) (w : NsiBody) (ext : BitVec 64)
  /-- VFMA (R354): Vector fused multiply-add. -/
  | nsiVfma (x : ExecId) (w : NsiBody) (ext : BitVec 64)
  /-- VDIV (R354): Vector divide. -/
  | nsiVdiv (x : ExecId) (w : NsiBody) (ext : BitVec 64)
  /-- VMAX (R354): Vector maximum. -/
  | nsiVmax (x : ExecId) (w : NsiBody) (ext : BitVec 64)
  /-- VMIN (R354): Vector minimum. -/
  | nsiVmin (x : ExecId) (w : NsiBody) (ext : BitVec 64)
  /-- VSQRT (R354): Vector square root. -/
  | nsiVsqrt (x : ExecId) (w : NsiBody) (ext : BitVec 64)
  /-- VEXP (R354): Vector exp. -/
  | nsiVexp (x : ExecId) (w : NsiBody) (ext : BitVec 64)
  /-- VLOG (R354): Vector log. -/
  | nsiVlog (x : ExecId) (w : NsiBody) (ext : BitVec 64)
  /-- VRSQRT (R354): Vector reciprocal square root. -/
  | nsiVrsqrt (x : ExecId) (w : NsiBody) (ext : BitVec 64)
  /-- VTANH (R354): Vector tanh. -/
  | nsiVtanh (x : ExecId) (w : NsiBody) (ext : BitVec 64)
  /-- VSIG (R354): Vector sigmoid. -/
  | nsiVsig (x : ExecId) (w : NsiBody) (ext : BitVec 64)
  /-- VERF (R354): Vector erf. -/
  | nsiVerf (x : ExecId) (w : NsiBody) (ext : BitVec 64)
  /-- VADDS (R354): Vector add of a scalar. -/
  | nsiVadds (x : ExecId) (w : NsiBody) (ext : BitVec 64)
  /-- VMULS (R354): Vector multiply by a scalar. -/
  | nsiVmuls (x : ExecId) (w : NsiBody) (ext : BitVec 64)
  /-- VSUM (R354): Row sum reduction. -/
  | nsiVsum (x : ExecId) (w : NsiBody) (ext : BitVec 64)
  /-- VDOT (R354): Row dot-product reduction. -/
  | nsiVdot (x : ExecId) (w : NsiBody) (ext : BitVec 64)
  /-- VRMAX (R354): Row maximum. -/
  | nsiVrmax (x : ExecId) (w : NsiBody) (ext : BitVec 64)
  /-- VCVT (R354): Format conversion. -/
  | nsiVcvt (x : ExecId) (w : NsiBody) (ext : BitVec 64)
  /-- VCOPY (R354): Byte copy of a tile. -/
  | nsiVcopy (x : ExecId) (w : NsiBody) (ext : BitVec 64)
  /-- FETCH (R356): Picker fetch of a tile into the slices of the masked Pips. -/
  | nsiFetch (x : ExecId) (w : NsiBody) (ext : BitVec 64)
  /-- FETCHG (R356): Picker gather fetch by row ids. -/
  | nsiFetchg (x : ExecId) (w : NsiBody) (ext : BitVec 64)
  /-- PUT (R358): Posted bulk copy to a global address. -/
  | nsiPut (x : ExecId) (w : NsiBody) (ext : BitVec 64)
  /-- GET (R358): Posted bulk copy from a global address. -/
  | nsiGet (x : ExecId) (w : NsiBody) (ext : BitVec 64)
  /-- PUTS (R358): Posted scalar write. -/
  | nsiPuts (x : ExecId) (w : NsiBody) (ext : BitVec 64)
  /-- GETS (R358): Blocking scalar read. -/
  | nsiGets (x : ExecId) (w : NsiBody) (ext : BitVec 64)
  /-- AADD (R358): Posted atomic add. -/
  | nsiAadd (x : ExecId) (w : NsiBody) (ext : BitVec 64)
  /-- FADD (R358): Blocking fetch-and-add. -/
  | nsiFadd (x : ExecId) (w : NsiBody) (ext : BitVec 64)
  /-- CAS (R358): Blocking compare-and-swap. -/
  | nsiCas (x : ExecId) (w : NsiBody) (ext : BitVec 64)
  /-- WAIT (R358): Block until a counter reaches a target or the time limit passes. -/
  | nsiWait (x : ExecId) (w : NsiBody) (ext : BitVec 64)
  /-- FENCE (R358): Wait for earlier posted operations and report and clear RM_ERR. -/
  | nsiFence (x : ExecId) (w : NsiBody) (ext : BitVec 64)
  /-- TFENCE (R393): Tick fence over the sequencer's operations, jobs and agent writes of the tick. -/
  | nsiTfence (x : ExecId) (w : NsiBody) (ext : BitVec 64)
  /-- LATTICE (R359): Invoke a lattice engine job. -/
  | nsiLattice (x : ExecId) (w : NsiBody) (ext : BitVec 64)
  /-- MATCH (R359): Invoke a matcher job. -/
  | nsiMatch (x : ExecId) (w : NsiBody) (ext : BitVec 64)
  /-- MASK (R359): Invoke a mask engine job. -/
  | nsiMask (x : ExecId) (w : NsiBody) (ext : BitVec 64)
  /-- TREE (R359): Invoke an Orchard job. -/
  | nsiTree (x : ExecId) (w : NsiBody) (ext : BitVec 64)
  /-- TWAIT (R363): Wait for the next occurrence of a tick point. -/
  | nsiTwait (x : ExecId) (w : NsiBody) (ext : BitVec 64)
  /-- ENQ (R364): Queue a Pip work item. -/
  | nsiEnq (x : ExecId) (w : NsiBody) (ext : BitVec 64)
  /-- DPASS (R366): Queue a draft pass or warm-up on every enabled cluster. -/
  | nsiDpass (x : ExecId) (w : NsiBody) (ext : BitVec 64)
  /-- LPG (R367): Report a page move to the ledger counters. -/
  | nsiLpg (x : ExecId) (w : NsiBody) (ext : BitVec 64)
  /-- LPHASE (R368): Mark the sequencer's Accept or Publish work complete, which triggers the per-request identity checks. -/
  | nsiLphase (x : ExecId) (w : NsiBody) (ext : BitVec 64)
  /-- STEM_READ (R411): An inbound READ packet is performed and answered. -/
  | stemRead (pkt : Pkt)
  /-- STEM_WRITE (R411): An inbound WRITE packet is performed and acknowledged. -/
  | stemWrite (pkt : Pkt)
  /-- STEM_AADD (R411): An inbound atomic add is performed and acknowledged. -/
  | stemAadd (pkt : Pkt)
  /-- STEM_FADD (R411): An inbound fetch-and-add is performed and answered with data. -/
  | stemFadd (pkt : Pkt)
  /-- STEM_CAS (R411): An inbound compare-and-swap is performed and answered. -/
  | stemCas (pkt : Pkt)
  /-- STEM_RSP_DATA (R410): An RSP_DATA packet completes the block's outstanding operation. -/
  | stemRspData (pkt : Pkt)
  /-- STEM_RSP_ACK (R410): An RSP_ACK packet completes the block's outstanding operation. -/
  | stemRspAck (pkt : Pkt)
  /-- STEM_RSP_ERR (R412): An RSP_ERR packet completes the operation with FAR_ERROR. -/
  | stemRspErr (pkt : Pkt)
  /-- STEM_CREDIT_RETURN (R406): The surroundings return tx credits for a virtual channel. -/
  | stemCreditReturn (port : Nat) (vc : Nat) (count : Nat)
  /-- STEM_PORT_UP (R408): Both enables are high, and the port comes up with its initial grants. -/
  | stemPortUp (port : Nat)
  /-- STEM_PORT_DOWN (R408): The port goes down: credits are zeroed and outstanding operations time out. -/
  | stemPortDown (port : Nat)
  /-- STEM_TX_STALL (R407): tx_ready stays low for 65,536 cycles, and a stall is counted as a fault. -/
  | stemTxStall (port : Nat)
  /-- REGISTER_WRITE (R417): A register write with no row of its own is performed whole or refused whole under the access classes. -/
  | registerWrite (src : RegSrc) (offset : Nat) (value : BitVec 64) (parityOk : Bool)
  /-- MGT_COMMIT_GROUP (R418): Commit a group after its consistency check, or refuse it and write diagnostics. -/
  | mgtCommitGroup (src : RegSrc) (group : Nat) (parityOk : Bool)
  /-- MGT_ABORT_GROUP (R418): Discard the staged values of a group. -/
  | mgtAbortGroup (src : RegSrc) (group : Nat) (parityOk : Bool)
  /-- SEM_ACQUIRE (R421): Acquire a semaphore with a lease. -/
  | semAcquire (src : RegSrc) (sem : Nat) (lease : Nat)
  /-- SEM_RENEW (R421): Renew a held semaphore's lease. -/
  | semRenew (src : RegSrc) (sem : Nat) (lease : Nat)
  /-- SEM_RELEASE (R421): Release a held semaphore and abort its group. -/
  | semRelease (src : RegSrc) (sem : Nat)
  /-- SEM_LEASE_EXPIRE (R421): A lease expires: the semaphore is freed, its group is aborted and the expiry is reported. -/
  | semLeaseExpire (sem : Nat)
  /-- STA_START (R493): Start an attempt from the image at STA_IMG. -/
  | staStart (src : RegSrc) (env : StartEnv)
  /-- STA_CLEAR (R496): Write a CLEARED record and reset the failure count. -/
  | staClear (src : RegSrc)
  /-- STA_TAKE_OVER (R509): A command makes a standby begin takeover, or a waiting block become active alone. -/
  | staTakeOver (src : RegSrc)
  /-- START_RETRY (R495): 100 ms after a failed attempt, the next attempt begins at the KEEP stage. -/
  | startRetry (env : StartEnv)
  /-- START_LIMIT (R493): LOAD has not completed within the limit, and the attempt fails with LIMIT. -/
  | startLimit
  /-- RESET_ASSERT (R484): tick_rst_n low holds the block in reset with every domain off. -/
  | resetAssert
  /-- RESET_RELEASE (R486): tick_rst_n rises: TIME_US starts from 0 and the key store values load. -/
  | resetRelease
  /-- TOD_FRAME (R485): A time-of-day frame is received and compared with the calendar. -/
  | todFrame (frame : BitVec 112)
  /-- CAL_SYNC_TIMEOUT (R486): No two valid frames arrive in 3 s, so the calendar continues from the checkpoint and CAL_UNSYNC is set. -/
  | calSyncTimeout
  /-- LIF_RESTORE (R514): Restore the lifetime counters from a checkpoint record. -/
  | lifRestore (src : RegSrc)
  /-- CHECKPOINT (R513): A checkpoint is written to every stack in service on its timer. -/
  | checkpoint
  /-- PAIR_HELLO (R504): A pair hello from the peer decides this block's role. -/
  | pairHello (imageId : Nat) (node : Nat) (active : Bool)
  /-- PAIR_HELLO_TIMEOUT (R504): No peer answers within 1 s: the lower node goes active alone. -/
  | pairHelloTimeout
  /-- PAIR_SYNC (R506): The active writes a sync record and raises the standby's epoch. -/
  | pairSync
  /-- PAIR_EPOCH_RAISE (R506): The standby applies journal records up to the epoch's sync record and acknowledges. -/
  | pairEpochRaise (count : Nat)
  /-- PAIR_ACK_RAISE (R507): An acknowledgement releases the held outward writes of the active. -/
  | pairAckRaise (count : Nat)
  /-- PAIR_STANDBY_TIMEOUT (R509): No new epoch has arrived for TIMEOUT_US, so the standby begins takeover. -/
  | pairStandbyTimeout
  /-- PAIR_FENCE (R509): The active's acknowledgement is missing for TIMEOUT_US, so it fences itself. -/
  | pairFence
  /-- TAKEOVER_EFFECT (R510): At the boundary after takeover begins, the standby becomes active and rewrites its outbound records. -/
  | takeoverEffect (far : List FarRead)
  /-- TOK_SLOT_LOAD (R159): Check and load a vocabulary image into a slot. -/
  | tokSlotLoad (src : RegSrc) (slot : Nat)
  /-- TOK_SLOT_UNLOAD (R160): Unload a vocabulary slot. -/
  | tokSlotUnload (src : RegSrc) (slot : Nat)
  /-- GRAMMAR_LOAD (R188): Check and load a grammar image. -/
  | grammarLoad (src : RegSrc) (number : Nat)
  /-- GRAMMAR_UNLOAD (R188): Unload a grammar. -/
  | grammarUnload (src : RegSrc) (number : Nat)
  /-- STOPSET_LOAD (R202): Check and load a stop set. -/
  | stopsetLoad (src : RegSrc) (number : Nat)
  /-- STOPSET_UNLOAD (R202): Unload a stop set. -/
  | stopsetUnload (src : RegSrc) (number : Nat)
  /-- PG_CMD_RETIRE (R147): Retire a page at the next Publish, or set RETIRE_PEND on it. -/
  | pgCmdRetire (src : RegSrc) (page : Nat)
  /-- PG_CMD_RELEASE (R147): Release a retired page to FREE. -/
  | pgCmdRelease (src : RegSrc) (page : Nat)
  /-- PIP_RELEASE (R267): Release a retired Pip at the next boundary. -/
  | pipRelease (src : RegSrc) (cluster : Nat) (pip : Nat)
  /-- CLUSTER_RELEASE (R267): Release a retired cluster and its Pips. -/
  | clusterRelease (src : RegSrc) (cluster : Nat)
  /-- SEQ_RESTART_CMD (R371): Restart a halted sequencer at the next boundary. -/
  | seqRestartCmd (src : RegSrc) (number : Nat)
  /-- MODEL_REGISTER (R275): Register a model as COLD, or load it at once. -/
  | modelRegister (src : RegSrc) (number : Nat)
  /-- MODEL_FETCH (R277): Start a load of a COLD model into the warm region. -/
  | modelFetch (src : RegSrc) (number : Nat)
  /-- MODEL_UNLOAD (R278): Return a model to COLD or make its record EMPTY. -/
  | modelUnload (src : RegSrc) (number : Nat)
  /-- MODEL_PIN (R283): Take firmware's pin on a WARM model. -/
  | modelPin (src : RegSrc) (number : Nat)
  /-- MODEL_UNPIN (R283): Clear firmware's pin. -/
  | modelUnpin (src : RegSrc) (number : Nat)
  /-- ADAPTER_REGISTER (R289): Register a tenant adapter. -/
  | adapterRegister (src : RegSrc) (number : Nat)
  /-- ADAPTER_UNREGISTER (R292): Unregister an adapter and free its copies. -/
  | adapterUnregister (src : RegSrc) (number : Nat)
  /-- ADAPTER_FETCH (R293): Bring an adapter to WARM ahead of need. -/
  | adapterFetch (src : RegSrc) (number : Nat)
  /-- ENSEMBLE_LOAD (R300): Check and load a tree ensemble image. -/
  | ensembleLoad (src : RegSrc) (number : Nat)
  /-- ENSEMBLE_UNLOAD (R301): Unload an ensemble. -/
  | ensembleUnload (src : RegSrc) (number : Nat)
  /-- THREAD_GROUP_RELEASE (R311): Release a retired Orchard thread group. -/
  | threadGroupRelease (src : RegSrc) (number : Nat)
  /-- MATCHER_SET_LOAD (R316): Check and load a matcher set. -/
  | matcherSetLoad (src : RegSrc) (number : Nat)
  /-- MATCHER_SET_UNLOAD (R316): Unload a matcher set. -/
  | matcherSetUnload (src : RegSrc) (number : Nat)
  /-- MATCHER_RELEASE (R320): Release a retired matcher. -/
  | matcherRelease (src : RegSrc) (number : Nat)
  /-- PROFILE_DEFINE (R323): Check and define a screening profile. -/
  | profileDefine (src : RegSrc) (number : Nat)
  /-- PROFILE_UNDEFINE (R323): Undefine a profile and release its Sloe pins. -/
  | profileUndefine (src : RegSrc) (number : Nat)
  /-- LNK_CMD_RELEASE (R445): Release a retired link, lane, Stem port, lattice engine or mask engine. -/
  | lnkCmdRelease (src : RegSrc) (unit : Nat) (number : Nat) (lane : Nat)
  /-- LNK_CMD_RETIRE (R457): Retire a link, lane, Stem port, lattice engine or mask engine by command. -/
  | lnkCmdRetire (src : RegSrc) (unit : Nat) (number : Nat) (lane : Nat)
  /-- MEM_CMD_RELEASE (R454): Release a spared pseudo-channel, a retired gang or a retired stack. -/
  | memCmdRelease (src : RegSrc) (unit : Nat) (stack : Nat) (pch : Nat)
  /-- MEM_CMD_RETIRE (R459): Retire a pseudo-channel or stack by command. -/
  | memCmdRetire (src : RegSrc) (unit : Nat) (stack : Nat) (pch : Nat)
  /-- LINK_DATA_FLIT (R436): A DATA flit is taken in order or discarded with a NAK; its ACK and credits are applied. -/
  | linkDataFlit (link : Nat) (flit : Flit)
  /-- LINK_NAK_FLIT (R436): A NAK makes the sender replay from the named SEQ. -/
  | linkNakFlit (link : Nat) (flit : Flit)
  /-- LINK_CTRL_FLIT (R437): A training CTRL flit is exchanged. -/
  | linkCtrlFlit (link : Nat) (ctrl : Ctrl)
  /-- LINK_IDLE_FLIT (R432): An IDLE flit delivers cumulative ACK and credit returns. -/
  | linkIdleFlit (link : Nat) (flit : Flit)
  /-- LINK_ACK_TIMEOUT (R436): ACK makes no progress for 4 us, so the sender replays from the oldest flit. -/
  | linkAckTimeout (link : Nat)
  /-- LINK_REQUEST_PACKET (R433): An inbound request packet on a link is performed and answered. -/
  | linkRequestPacket (link : Nat) (kind : Nat) (pkt : Pkt)
  /-- LINK_RESPONSE_PACKET (R433): A response packet on a link completes the block's operation. -/
  | linkResponsePacket (link : Nat) (kind : Nat) (pkt : Pkt)
  /-- LINK_LOS_CHANGE (R437): A change of lnkNN_los on a lane starts a retraining or a test training. -/
  | linkLosChange (link : Nat) (los : BitVec 4)
  /-- OE_FAULT_RISE (R437): lnkNN_oe_fault rises and the link retrains. -/
  | oeFaultRise (link : Nat)
  /-- OE_READY_CHANGE (R437): lnkNN_oe_ready changes, gating training. -/
  | oeReadyChange (link : Nat) (ready : Bool)
  /-- FEC_LOCK_LOSS (R437): FEC lock is lost and the link retrains. -/
  | fecLockLoss (link : Nat)
  /-- LINK_TRAIN_DONE (R437): Training completes and the link becomes UP or DEGRADED. -/
  | linkTrainDone (link : Nat)
  /-- LINK_TRAIN_TIMEOUT (R438): A training fails at TRAIN_MS, counts as uncorrectable and restarts or retires the link. -/
  | linkTrainTimeout (link : Nat)
  /-- LANE_SER_INTERVAL (R443): A 1 ms interval ends, and a lane above SER_MAX counts a transient. -/
  | laneSerInterval (link : Nat) (lane : Nat) (corrected : Nat) (lockLost : Bool)
  /-- RETIRED_LINK_PROBE (R441): A retired link sends a CTRL request flit at most once per ms. -/
  | retiredLinkProbe (link : Nat)
  /-- REBUILD_STEP (R453): The rebuild walk advances over a gang's lines at the rebuild rate. -/
  | rebuildStep (stack : Nat) (gang : Nat) (read : LineRead)
  /-- SCRUB_STEP (R455): Patrol scrub reads the next line. -/
  | scrubStep (stack : Nat) (read : LineRead)
  /-- CATTRIP (R477): memNN_cattrip rises: traffic stops, the stack is reset and retired. -/
  | cattrip (stack : Nat) (high : Bool)
  /-- POWER_SAMPLE (R469): Every 100 us the block samples estimated and measured power and runs the governor. -/
  | powerSample (sample : Sample)
  /-- THERMAL_READ (R476): Every 100 us the 96 sensors are read and failed sensors are judged. -/
  | thermalRead (readings : List (Option Nat))
  /-- THERMAL_TRIP (R478): A 115 C comparator fires: clocks stop, a trip record is written and avs_trip_n falls. -/
  | thermalTrip (sensor : Nat) (reading : Nat)
  /-- TAP_RESET (R521): tap_trst_n low resets the TAP controller. -/
  | tapReset
  /-- TAP_EXTEST (R522): EXTEST selects the boundary register. -/
  | tapExtest
  /-- TAP_SAMPLE_PRELOAD (R522): SAMPLE/PRELOAD selects the boundary register. -/
  | tapSamplePreload
  /-- TAP_IDCODE (R522): IDCODE selects the 32-bit identification register. -/
  | tapIdcode
  /-- TAP_CLAMP (R522): CLAMP holds the outputs and selects bypass. -/
  | tapClamp
  /-- TAP_HIGHZ (R522): HIGHZ floats the outputs and selects bypass. -/
  | tapHighz
  /-- TAP_IJTAG (R524): IJTAG gives access to the IEEE 1687 instrument network: the segments inserted, none by the instruction alone, whether what they
  reach is run, and what the instruments show. -/
  | tapIjtag (segs : List Instrument := []) (run : Bool := false) (seen : List (Instrument × List (BitVec 64)) := [])
  /-- TAP_BYPASS (R522): BYPASS selects the 1-bit bypass register. -/
  | tapBypass
  /-- WAIT_TIMEOUT (R358): A WAIT whose time limit s[RC] passes before its counter reaches the target completes with p[PS] = 0 and the last value read. -/
  | waitTimeout (x : ExecId)
  /-- LGR_PG_A_READ (R155): A read of LGR_PG_A latches the current LGR_PG_B and LGR_PG_C values for the reading source. -/
  | lgrPgARead (src : RegSrc)
  /-- STACK_INTERFACE_RETRAIN (R443): A stack interface retrains, or its retraining fails, and a transient or uncorrectable fault is counted in the stack's fault window. -/
  | stackInterfaceRetrain (stack : Nat) (ok : Bool)
  /-- LOAD_CHECK_COMPLETE (R159): The check or copy of a vocabulary, grammar, stop set, matcher set or ensemble image finishes, STATUS becomes 0 or 2, and the object becomes loaded at the next tick boundary. -/
  | loadCheckComplete (kind : LoadKind) (number : Nat)
  /-- CORE_RAIL_LOSS (R513): The core supply is removed or lost: every volatile state is lost, and only the Keep region and the key store survive to the next start. -/
  | coreRailLoss
deriving DecidableEq, Repr

end Sys2Proof
end

