-- ==== Sys2Proof/Config.lean ====
section
/-! DEFINITION. What the specification leaves to the world outside the block or leaves open: constants with no
body, so that no proof can see their values. -/
namespace Sys2Proof.Config

/-- Free values (log 2): the value the block produces where the specification states none, by position in the
sequence of free values used. -/
opaque freeWord : Nat → BitVec 32

/-- A free byte string (log 2), for text the specification does not state. -/
opaque freeBytes : Nat → List (BitVec 8)

/-- The image header of a COLD model that the block has never loaded, at its cold locator: the byte at an offset (log 28). -/
opaque coldHeader : Nat → Nat → BitVec 8

/-- Where in the 5 µs of R73 an input verdict is posted (log 3), to be taken modulo 6 µs: by the entry and its admission time alone, so that
neither the verdict nor the content can move it. -/
opaque releaseDelay : Nat → Nat → Nat

/-- Unicode 15.1 normalization of a run of scalar values (R166 step 2): form 1 NFC, 2 NFKC (log 7). -/
opaque normalize : Nat → List Nat → List Nat

/-- ECDSA P-384 verification under FIPS 186-5 with SHA-384 (R490 order 4): public key, message, signature (log 8). -/
opaque ecdsaP384 : List Byte → List Byte → List Byte → Bool

/-- AES-256-GCM opening (R490 order 6): key, nonce, associated data, ciphertext, tag (log 8). -/
opaque gcmOpen : List Byte → List Byte → List Byte → List Byte → List Byte → Option (List Byte)

end Sys2Proof.Config
end

