-- ==== Sys2Proof/Machine/State.lean ====
section
/-! DEFINITION. The state of the block as plain data: every register, memory, queue and mode the specification
names, the commands that wait, the reasons a step can stop, and the state right after reset. -/
namespace Sys2Proof.Machine
open Sys2Proof

/-- A sparse table: pairs of a key and a value, keys strictly rising. -/
abbrev Tbl (α : Type) := List (Nat × α)

/-- A byte memory: (address, byte) pairs, addresses strictly rising, no entry 0x00, which is what an
unlisted address reads as (log 4). -/
abbrev Memory := List Host.Cell

/-- Space 4 (R15, R525): values in force, pending RWT values, staged RWG values and committed values, by offset.
A pending or staged value is a pair of the mask of the bits written and their value. -/
structure Regs where
  cur : Tbl Word
  pend : Tbl (Word × Word)
  staged : Tbl (Word × Word)
  committed : Tbl Word
  /-- Groups whose last passing commit has not taken effect yet (R525). -/
  comPend : List Nat
deriving DecidableEq, Repr

/-- One semaphore (R421): holder 0 free, 1 port A, 2 port B; expiry in µs; the lease last granted. -/
structure Sem where
  holder : Nat
  expiry : Nat
  lease : Nat
deriving DecidableEq, Repr

/-- The management side: semaphores, each port's last refused commit (R419), the last response given to each
source as (status, rdata), the values latched by a read of LGR_PG_A (R155). -/
structure Mgt where
  sems : Tbl Sem
  diagA : Word
  diagB : Word
  rsp : Tbl (Nat × Word)
  latch : Tbl (Word × Word)
deriving DecidableEq, Repr

/-- Time and the phases of the tick (R46 to R66). -/
structure Clock where
  timeUs : Nat
  cycles : Nat
  mhz : Nat
  /-- Frequency that takes effect at the next boundary (R463). -/
  nextMhz : Nat
  /-- Time and cycle of the last boundary, or of start completion. -/
  bndUs : Nat
  bndCyc : Nat
  /-- A first boundary has been made since start completed (R500). -/
  ticking : Bool
  missedRun : Nat
  intakeClosed : Bool
  cutOff : Bool
  maskTarget : Bool
  maskDeadline : Bool
  published : Bool
  mainWindow : Bool
  draftBegun : Bool
  frame : Nat
  /-- TICK_COUNT at which the cyclic table in force took effect (R81). -/
  tableK0 : Nat
  /-- Position of the free values used so far (log 2). -/
  free : Nat
deriving DecidableEq, Repr

/-- The memories: space 0, the banks of space 1, the slices of space 2, the Keep region of each stack (address
stack * 2^24 + offset), gang lines that are uncorrectable with the positions that supplied an erasure (R451, R452), bytes of each stack written (R512). -/
structure Mem where
  stack : Memory
  die : Memory
  slices : Memory
  keep : Memory
  badLines : Tbl (List Nat)
  written : Tbl Nat
deriving DecidableEq, Repr

/-- One posted remote operation of an executor that has not completed (R358): the NSI OP, its operands, and the
number of packets still without a response when it has gone to a far side. -/
structure Posted where
  id : Nat
  op : Nat
  a : Nat
  b : Nat
  len : Nat
  size4 : Bool
  ord : Nat
  far : Nat
  err : Nat
deriving DecidableEq, Repr

/-- What an executor waits for before its next instruction. -/
inductive Blocked where
  | no
  | tick (point : Nat) (rd : Nat)
  | wait (addr target rd ps size : Nat) (until_ last : Nat)
  | far (op : Nat) (rd ps : Nat)
  /-- FENCE, or TFENCE with the tick and the time of its boundary. -/
  | fence (ps : Nat) (tick : Option (Nat × Nat))
deriving DecidableEq, Repr

/-- A token of a Pip's queue (R260): the tile descriptor and its status, and the fetch it came from. -/
structure Token where
  desc : Word
  err : Bool
  fetch : Nat
deriving DecidableEq, Repr

/-- A fetch a Picker has issued (R259, R261): its source is read when its data arrive. -/
structure Fetch where
  id : Nat
  desc : Word
  src : Nat
  ids : Option Nat
  bank : Bool
  pitch : Nat
  mask : Word
  queue : Nat
  arrived : Bool
  err : Bool
  /-- Tokens pushed; Pips of the mask that have not released theirs; the data are being fetched again (R264). -/
  pushed : Bool
  left : Nat
  again : Bool
deriving DecidableEq, Repr

/-- One executor's registers (R339), CSRs (R350), posted operations and, on a Picker, fetches. Tables hold
only what is not at its start value. `restarts` counts this tick's restarts of a sequencer (R347). -/
structure Exec where
  pc : Nat
  s : Tbl Word
  p : Nat
  t : Tbl (Word × Bool)
  q : Tbl (List Token)
  popped : Tbl (List Token)
  acc : Tbl (BitVec 32)
  cause : Nat
  epc : Nat
  einfo : Nat
  trap : Bool
  halted : Bool
  scratch : Tbl Word
  rmErr : Nat
  posted : List Posted
  fetches : List Fetch
  item : Option Nat
  reissue : Option Nat
  restarts : Nat
  blocked : Blocked
  /-- Where RFT resumes (R346), and whether the executor runs draft work in Fast mode (R249). -/
  resume : Nat
  fast : Bool
  /-- CODE_BYTES of the kernel the executor runs (R271, R344). -/
  code : Nat
deriving DecidableEq, Repr

/-- What asked for an outbound operation, and so what its completion does. -/
inductive Purpose where
  | posted (x : Nat) (id : Nat) (dst : Option Nat)
  | block (x : Nat)
  | agent (pool : Option Nat) (seq : Nat) (what : Nat)
deriving DecidableEq, Repr

/-- An outbound operation with no response yet (R410, R436): kind 0 READ to 4 CAS; `route` is a Stem port
number, or 64 + a link number. A release that waits on earlier operations is not sent (R389). -/
structure OutOp where
  id : Nat
  kind : Nat
  route : Nat
  addr : Nat
  len : Nat
  value : Nat
  compare : Nat
  data : List Byte
  ord : Nat
  size4 : Bool
  sent : Bool
  issued : Nat
  purpose : Purpose
deriving DecidableEq, Repr

/-- Remote memory: executors, outbound operations, the next id, failed pool writes of the tick (the pool, or 1000 +
the agent's sequencer where no pool is named, and the sequencer the write was made for, R394), and the sequencers whose agent writes of this
tick have failed. -/
structure Remote where
  execs : Tbl Exec
  out : List OutOp
  nextId : Nat
  failPools : List (Nat × Nat)
  agentFail : List Nat
  /-- The route table as read at the last commit of ROUTE (R398): links mask of each VALID node. -/
  routes : Tbl Nat
deriving DecidableEq, Repr

/-- A configuration of a grammar (R190): state, depth and the stack, bottom first. -/
structure Cfg where
  state : Nat
  stack : List Nat
deriving DecidableEq, Repr

/-- A node of a candidate tree being built (R215 to R218). Parent 0xFF is the root. -/
structure Node where
  tok : Nat
  parent : Nat
  level : Nat
  score : BitVec 32
  cfg : Cfg
  masked : Bool
deriving DecidableEq, Repr

/-- A held token (R175): ordinal in GENERATED, id, sequence position, whether it gave bytes, whether its verdict
is PASS, whether stop truncation discards it (R205), the item that covers it. -/
structure HeldTok where
  ord : Nat
  id : Nat
  bytes : Bool
  pass : Bool
  cut : Bool
  item : Nat
deriving DecidableEq, Repr

/-- An unreleased complete character or codec unit: its bytes and the ordinals of its first and last token. -/
structure HeldChar where
  bytes : List Byte
  first : Nat
  last : Nat
  repl : Bool
  late : Bool
deriving DecidableEq, Repr

/-- What a matcher job found (R319). -/
structure MatchRes where
  status : Nat
  endState : Nat
  symbols : Nat
  counts : List Nat
  block : Option (Nat × Nat)
  flag : Option (Nat × Nat)
  first : Option (Nat × Nat)
deriving DecidableEq, Repr

/-- One unit of a screening item: 0 not wanted, 1 waiting, 2 returned OK, 3 failed. -/
structure UnitRes where
  st : Nat
  outs : List (BitVec 32)
deriving DecidableEq, Repr

/-- A screening item (R325, R326): what it covers, what its units returned, and its verdict
(0 PASS, 1 HOLD, 2 BLOCK, 3 INDETERMINATE) once reached. `stage` 0 units, 1 deep, 2 ensemble again, 3 decided. -/
structure Screen where
  id : Nat
  output : Bool
  long : Bool
  first : Nat
  count : Nat
  ordFirst : Nat
  toks : List Nat
  bytes : List Byte
  deadline : Nat
  stage : Nat
  lang : UnitRes
  cls : UnitRes
  ens : UnitRes
  deep : UnitRes
  bset : Option MatchRes
  tset : Option MatchRes
  bsetWait : Bool
  tsetWait : Bool
  sloe : Bool
  deepSloe : Bool
  retried : Bool
  late : Bool
  overrun : Bool
  fault : Bool
  absent : Bool
  verdict : Option Nat
  score : BitVec 32
  leaves : List Nat
  /-- The ids the classifier reads (R325, R332). -/
  ids : List Nat
  /-- The tenant's external words, once the item's features have been assembled (R322). -/
  ext : Option (List (BitVec 32))
  /-- The ensemble and the deep model that ran, 0 and 0xFFFF for none (R332); when the verdict was reached, in µs (R76). -/
  ensRan : Nat
  deepRan : Nat
  reachedUs : Nat
deriving DecidableEq, Repr

/-- A published step whose result is outstanding (R222). -/
structure Step where
  tick : Nat
  pool : Nat
  n : Nat
  d : Nat
  compactOnly : Bool
  wait : Option Nat
  rows : List Nat
  toks : List Nat
  cpt : Bool
  /-- The step of a probe (R233). -/
  probe : Bool
deriving DecidableEq, Repr

/-- A result record taken in at Intake and not yet processed (R223). -/
structure Result where
  kind : Nat
  status : Nat
  path : List Nat
  pathLen : Nat
  ref : Nat
  own : Nat
  failedIndex : Nat
  crcOk : Bool
  pool : Nat
deriving DecidableEq, Repr

/-- What the owning sequencer keeps about a live entry beside its table words. -/
structure Side where
  toks : List HeldTok
  chars : List HeldChar
  /-- Bytes of the incomplete character and the ordinal of the first token that gave one (R173). -/
  u8First : Nat
  /-- The last bytes of complete characters of the turn, at most 127, for stop matching (R203). -/
  tail : List Byte
  ord : Nat
  turn : Nat
  seqLen : Nat
  screens : List Screen
  pins : List Nat
  exclude : List Nat
  steps : List Step
  results : List Result
  firstTok : Option Nat
  lastPool : Nat
  nodes : List Node
  rootMask : Bool
  /-- The root mask was incomplete at the mask target (R62). -/
  skip : Bool
  /-- Drafted in this tick; granted a warm-up in this tick; passes completed, 99 once no further pass counts. -/
  drafted : Bool
  warmed : Bool
  passes : Nat
  units : List Nat
  /-- Orders due, each when those before it have gone out: 1 PREFILL, 2 TRANSFER, 3 SPILL, 4 FILL, 5 PREFILL with REBUILD for a prefetch
  (R145), 6 SPILL to the cold tier, 7 PREFILL of the whole sequence after its own pages are released (R110), 8 PREFILL with REBUILD after a
  lost source page (R110). -/
  due : List Nat
  newPages : List Nat
  cancels : List (Nat × Nat)
  pause : Bool
  /-- The first failure of the due order's kind has been retried (R110, R145). -/
  failed : Bool
  prefetched : Bool
  prefetchFail : Bool
  acceptDone : Bool
  endTick : Nat
  tokWait : Bool
  turnEnd : Bool
  /-- The reason the turn-end record that is due carries (R113), 0 after a PAUSE record. -/
  endReason : Nat
  /-- An order has completed after which the pages are registered at this Intake (R138). -/
  regDue : Bool
  finalDue : Bool
  bargeLate : Bool
  /-- The draft cut-off passed before Accept had finished (R60). -/
  noDraft : Bool
  /-- The unit of 64 positions at which `units` begin (R211). -/
  unitBase : Nat
  /-- The draft cache has been compacted as the pending compaction asks (R229). -/
  compacted : Bool
  promptAddr : Nat
  promptBytes : Nat
  isTurn : Bool
  /-- Sequence length at the claim of the last TURN or CONTINUE: what the cache held before it. -/
  turnStart : Nat
  /-- The reason a failure of this Intake ends the request with at its Accept (R110), 0 for none. -/
  failWith : Nat
  /-- The cache of the paused request was lost (R144): 0 no, 1 its pages are freed but for those whose storage cannot be read, 2 with the COLD
  pool that held it. -/
  lost : Nat
  /-- The pushdown stack of the grammar configuration, bottom first (R191; log 26). -/
  stack : List Nat
  /-- Orders that failed and that an outstanding step waits on (R225). -/
  badOrders : List Nat
deriving DecidableEq, Repr

/-- An order without a completion (R122). `pairs` are (source, destination) pages; for PREFILL the new pages are
destinations. -/
structure Order where
  seq : Nat
  kind : Nat
  entry : Nat
  gen : Nat
  src : Nat
  dst : Nat
  /-- PREFILL: the context pages that stand before the new ones in LIST, and TAIL_PAGE. -/
  ctx : List Nat
  tail : Nat
  pairs : List (Nat × Nat)
  tick : Nat
  rebuild : Bool
  listOff : Nat
  listGran : Nat
  tokens : Nat
  orphan : Bool
  purpose : Nat
deriving DecidableEq, Repr

/-- A pool descriptor as read at the last commit of PG (R119). -/
structure Pool where
  num : Nat
  kind : Nat
  enabled : Bool
  first : Nat
  count : Nat
  pageBytes : Nat
  base : Nat
  ring : Nat
  ringLog2 : Nat
  cap : Nat
  pubCtr : Nat
  compCtr : Nat
  dstDone : Nat
deriving DecidableEq, Repr

/-- The request table and what hangs on it. -/
structure Rq where
  /-- Entries that are not all zero: 32 words each (R88). -/
  table : Tbl (List Word)
  side : Tbl Side
  /-- The entry each sequencer last allocated (R32). -/
  lastAlloc : Tbl Nat
  admTaken : Nat
  ctlTaken : Nat
  orders : List Order
  orderSeq : Nat
  /-- Completion slots (R124, R126): 1 more than the number of the order last published for a slot, its pool, and the record last seen there. -/
  slots : Tbl (Nat × Nat × List Byte)
  pools : List Pool
  /-- Orders written to each pool's ring, results consumed from each pool, last tick published to each pool. -/
  ringPos : Tbl Nat
  seen : Tbl Nat
  published : Tbl Nat
  /-- Pages freed since start, the last freed first (R129); STALE index records whose last pin is gone (R140). -/
  freed : List Nat
  staleFree : List Nat
  listFree : List Nat
  tokFree : List Nat
  /-- Token extents given up (R164): the orders that still point into one, its first granule, its granules. -/
  tokOld : List (List Nat × Nat × Nat)
  unitFree : List Nat
  spcPools : List (Nat × (Nat × Nat × Nat × Nat))
  /-- The records of the GRM mask table as last read that hold a byte (R196). -/
  maskRecs : Tbl (List Byte)
  drafts : List (Nat × Nat × Nat)
  punWritten : Nat
  punDefer : List Nat
  nextItem : Nat
  /-- Page commands accepted and not yet carried out, as (OP, page), in order (R147). -/
  pgCmd : List (Nat × Nat)
deriving DecidableEq, Repr

/-- The ledger's counters (R150, R367) and the sequencers' reports of the tick (R368). -/
structure Ledger where
  pages : List Nat
  admitted : Nat
  ended : Nat
  phase0 : List Nat
  phase1 : List Nat
  fault : Nat
  culprit : Nat
  checked : Bool
  reqFault : Bool
  stopped : Bool
  tableLoss : Bool
  violPools : List Nat
deriving DecidableEq, Repr

/-- A job of a text unit (R359): the address and bytes of its descriptor, or the block's own work for an entry.
kind 0 descriptor, 1 tokenize entry, 2 root mask, 3 node mask (sub = node), 4 byte set of item sub,
5 token set of item sub, 6 ensemble of item sub. -/
structure Job where
  kind : Nat
  /-- The object the job runs with, fixed as it is accepted: its number, the offset of an image read in place, an ensemble's copy. -/
  num : Nat
  img : Option Nat
  store : List Byte
  /-- A set job of the block's own: the state it starts in and its symbols. -/
  start : Nat
  input : List Nat
  desc : List Byte
  entry : Nat
  gen : Nat
  sub : Nat
  seq : Option Nat
  tick : Nat
  vecs : List (List (BitVec 32))
  rerr : List Nat
deriving DecidableEq, Repr

/-- One text unit: its accepted jobs, oldest first, and whether it is retired; Orchard engines keep the
groups in service as bits. -/
structure TextUnit where
  jobs : List Job
  retired : Bool
  groups : Nat
deriving DecidableEq, Repr

/-- A Pip work item (R364): queued by ENQ or by the block for a screening item. -/
structure Item where
  id : Nat
  cls : Nat
  model : Nat
  entry : Nat
  gen : Nat
  deadline : Nat
  tokens : Nat
  prio : Nat
  profile : Nat
  input : Nat
  output : Nat
  done : Nat
  tag : Nat
  retry : Bool
  screen : Option Nat
  part : Nat
  admitAt : Nat
  sloe : Bool
  begun : Bool
  suspended : Bool
  spent : Nat
  clusters : List Nat
  failed : Bool
  /-- Tokens of `tokens` that rebuild stream state (R286). -/
  catchUp : Nat
  /-- Global address of its ENQ record, and the time at which the clusters working on it last began (R84, R370). -/
  record : Nat
  since : Nat
deriving DecidableEq, Repr

/-- A draft pass or warm-up in the queue (R366). The streams it names are in the list of its kernel's own layout, and come with
DPASS_DONE (log 9). -/
structure DPassJob where
  warm : Bool
  pass : Nat
  model : Nat
  done : Nat
  tag : Nat
  seq : Nat
  /-- Global address of its DPASS record. -/
  record : Nat
  /-- It has failed on an executor (R265). -/
  failed : Bool
deriving DecidableEq, Repr

/-- The compute side: text units by kind * 64 + number (0 lattice, 1 matcher, 2 mask, 3 Orchard), items,
draft passes, cluster classes and the clusters about to move. -/
structure Compute where
  units : Tbl TextUnit
  /-- The block's own jobs that found every unit of their kind full, oldest first (R33). -/
  later : List Job
  items : List Item
  dpass : List DPassJob
  cls : Tbl Nat
  moving : Tbl Nat
  lent : Tbl Nat
  enabled : Nat
  spares : Nat
  retired : Nat
  retiring : List Nat
  retiringPips : List (Nat × Nat)
  posLost : List Nat
  spareFor : Tbl Nat
  table : List (List Nat)
  /-- ENABLED and SPARES of the image in force (R6, R9). -/
  mapOn : Nat
  mapSpare : Nat
deriving DecidableEq, Repr

/-- A context of the hot store (R279, R280): granules as bank * 128 + granule in layout order. -/
structure Ctx where
  adapter : Bool
  num : Nat
  granules : List Nat
  resident : Bool
  filledTick : Nat
  /-- When its fill began, in µs of the time base (R282). -/
  began : Nat
deriving DecidableEq, Repr

/-- The model store: warm allocations (adapter, number, first unit, units), loads in progress or waiting,
waiting fills, contexts, stream state (entry, model, first unit, units). A load is (adapter, number, when it began), none while it waits
for room. -/
structure Store where
  warm : List (Bool × Nat × Nat × Nat)
  loads : List (Bool × Nat × Option Nat)
  fillWait : List (Bool × Nat)
  hot : List Ctx
  states : List (Nat × Nat × Nat × Nat)
  /-- The model and the adapter whose load MDL_CMD and MDL_ADP_CMD wait for; models with a pin, ascending. -/
  cmdModel : Option Nat
  cmdAdapter : Option Nat
  pinned : List Nat
  /-- Digests of registered adapters (R289). -/
  adpDigest : Tbl (List Byte)
  /-- The image header of a model whose image has been read, kept while the model is registered (R282, R289, R324). -/
  heads : Tbl (List Byte)
deriving DecidableEq, Repr

/-- An action that waits for the next tick boundary: what, and up to three numbers. -/
structure BndAct where
  what : Nat
  a : Nat
  b : Nat
  c : Nat
  bytes : List Byte
deriving DecidableEq, Repr

/-- Objects read in place or copied: base offsets of resident vocabularies, grammars, stop sets and matcher sets,
copies of ensembles; checks in progress as (kind, number, base); actions for the next boundary. -/
structure Objects where
  vocabs : Tbl Nat
  grammars : Tbl Nat
  stops : Tbl Nat
  msets : Tbl Nat
  ensembles : Tbl (List Byte)
  checks : List (Nat × Nat × Nat)
  acts : List BndAct
deriving DecidableEq, Repr

/-- A response packet (R409): KIND 8 RSP_DATA, 9 RSP_ACK, 10 RSP_ERR; the tag it echoes; code of R399 and detail. -/
structure Rsp where
  kind : Nat
  tag : Nat
  code : Nat
  detail : Nat
  value : Nat
  casOk : Bool
  data : List Byte
deriving DecidableEq, Repr

/-- A link (R432 to R442). Credits are pairs (REQ, RSP). -/
structure Link where
  state : Nat
  lanes : Nat
  los : Nat
  oeReady : Bool
  fresh : Bool
  testing : Bool
  ctrl : Option Ctrl
  peerNode : Nat
  peerLink : Nat
  held : Nat × Nat
  inflight : Nat × Nat
  peer : Nat × Nat
  grant : Nat × Nat
  /-- Unacknowledged DATA flits: (SEQ, VC, times sent). -/
  retry : List (Nat × Nat × Nat)
  txSeq : Nat
  rxSeq : Nat
  nakSent : Bool
  crdSeen : Nat × Nat
  crdGiven : Nat × Nat
  rxHeld : Nat × Nat
  probes : Nat
  /-- Responses that wait for credits, oldest first, and the last one sent. -/
  wait : List Rsp
  last : Option Rsp
deriving DecidableEq, Repr

/-- A Stem port (R404 to R408): up, retired, tx credits (REQ, RSP). -/
structure StemPort where
  up : Bool
  retired : Bool
  req : Nat
  rsp : Nat
  wait : List Rsp
  last : Option Rsp
deriving DecidableEq, Repr

/-- A stack (R446 to R456): in service, gangs in service, pseudo-channels spared or retired, the
pseudo-channel in each of 54 positions, spares in service, rebuilds (gang, positions, line), lines of a gang,
cattrip level, next scrub line. -/
structure Stack where
  up : Bool
  gangs : List Bool
  out : Nat
  posmap : List Nat
  spares : List Nat
  rebuild : List (Nat × List Nat × Nat)
  lines : Nat
  cattrip : Bool
  scrub : Nat
  retired : Bool
  /-- Gangs released and waiting for their positions and zeroed lines (R454). -/
  back : List Nat
deriving DecidableEq, Repr

/-- Ports and channels to the outside, and the fault windows: by kind * 65536 + channel, (time, uncorrectable). -/
structure Io where
  links : Tbl Link
  stem : Tbl StemPort
  stks : Tbl Stack
  hist : Tbl (List (Nat × Bool))
  lanesRetired : Tbl Nat
deriving DecidableEq, Repr

/-- Power and thermal (R469 to R478), powers in mW. `samples` holds P of each sample, newest first; `win` the window's samples as
(E, M if all four segments answered, X); `divIn`, `divOut`, `lostOut` count windows toward a change of state (R470); `segFail` has a bit
for each segment that failed to answer in the window. The `tick` flags say what held at some time in the tick (R474): DUTY below 16, p1 or
pt above nine tenths of its limit, a sensor at WARN_C or THROTTLE_C, MEAS_LOST, a failing Voltage write. Readings are coded as MAX_Q. -/
structure Power where
  samples : List Nat
  win : List (Nat × Option Nat × Nat)
  divIn : Nat
  divOut : Nat
  lostOut : Nat
  segFail : Nat
  tickDuty : Bool
  tickOver : Bool
  tickWarn : Bool
  tickThrottle : Bool
  tickLost : Bool
  tickVolt : Bool
  voltFail : Bool
  sensors : List Nat
  badRun : List Nat
  goodRun : List Nat
  failed : List Bool
  /-- µJ, and time in units of 100 µs, not yet carried into the lifetime counters (R512). -/
  energy : Nat
  hotTime : List Nat
  oeTime : List Nat
  tripped : Bool
deriving DecidableEq, Repr

/-- The 1687 network (R524): the instruments whose segments are inserted, what each one that may be read has given the last access, and the results
of the self-test's last run. -/
structure TapNet where
  segs : List Instrument
  out : List (Instrument × List Word)
  test : List Word
deriving DecidableEq, Repr

/-- The network with no segment inserted. -/
def TapNet.reset : TapNet where
  segs := []
  out := []
  test := []

/-- The key store (R487), which outlives every loss of power. -/
structure KeyStore where
  serial : Nat
  mfgFail : Nat
  digests : List (List Byte)
  revoked : Nat
  floor : Nat
  deviceKey : List Byte
deriving DecidableEq, Repr

/-- Start (R484 to R500): the attempt's F, its record SEQ, failures since reset, the image header's data in
force, sequencer programs, the prefix root key, energy coefficients, calendar frames. -/
structure Start where
  inReset : Bool
  railLost : Bool
  /-- Seed mode was entered and no start has completed since (R527). -/
  seed : Bool
  key : KeyStore
  f : Nat
  recSeq : Nat
  failsSinceReset : Nat
  retryAt : Option Nat
  beganAt : Nat
  imageId : Nat
  secVersion : Nat
  keySlot : Nat
  config : Nat
  node : Nat
  peer : Nat
  revoke : List Byte
  programs : List (List Byte)
  rootKey : List Byte
  energyCoef : List Byte
  lastTod : Option Nat
  calSet : Bool
  calDiff : Bool
  cfg : List Byte
  lines : Nat
  /-- SEQ of the retirement record, when the last checkpoint was written, CALENDAR_US of the checkpoint loaded, when LOAD or PAIR began to
  wait. -/
  retSeq : Nat
  ckptUs : Nat
  ckptCal : Option Nat
  waitUs : Nat
deriving DecidableEq, Repr

/-- A write of R507 that waits for the acknowledgement of an epoch. -/
structure HeldWrite where
  epoch : Nat
  addr : Nat
  data : List Byte
  pool : Option Nat
  seq : Nat
  what : Nat
deriving DecidableEq, Repr

/-- Pair operation (R504 to R511). Active: journal bytes written and acknowledged, the epoch of the last sync, mirrored changes not yet
in the journal, spans of the copy not yet sent, for each sync without an acknowledgement twice its epoch, plus 1 for a full one, and the journal position after it, what each entry's
sequencer-side state was when last sent. Standby: when the last epoch came, journal bytes applied, the records that have no place of
their own in its memories (log 39). Both: held writes, takeover begun, the peer's CFG last found to differ. -/
structure Pair where
  journalHead : Nat
  journalAcked : Nat
  epoch : Nat
  lastEpochUs : Nat
  heldWrites : List HeldWrite
  taking : Bool
  applied : Nat
  mirror : List (Nat × List Byte)
  copy : List (Nat × Nat)
  heads : List (Nat × Nat)
  sides : Tbl Side
  shadow : Tbl (List Byte)
  cfgSeen : List Byte
deriving DecidableEq, Repr

/-- The verdict log's staging area (R334): records with an assigned SEQ not yet in the ring, the next SEQ,
records lost since the last LOSS event, leaf arena use by record. -/
structure VLog where
  staged : List (List Byte)
  seq : Nat
  lost : Nat
  leaf : List (Nat × Nat × Nat)
deriving DecidableEq, Repr

/-- The block. -/
structure Block where
  regs : Regs
  mgt : Mgt
  clk : Clock
  mem : Mem
  rm : Remote
  rq : Rq
  lgr : Ledger
  cp : Compute
  st : Store
  ob : Objects
  io : Io
  pw : Power
  sa : Start
  pair : Pair
  log : VLog
  /-- The code in the instruction register of the test access port (R522). -/
  tap : Nat
  net : TapNet
deriving DecidableEq, Repr

/-- The machine: the block and the commands that wait, first in, first out. -/
structure State where
  pending : List Instr
  blk : Block
deriving DecidableEq, Repr

/-- Why a step can stop with a fault. The specification gives every command of the table an effect in every
state of the block, so no meaning raises one. -/
inductive Fault where
  /-- Raised by no meaning. -/
  | none
deriving DecidableEq, Repr

/-- Why a step can be refused. -/
inductive Refusal where
  /-- A command that has no meaning in this model yet; raised by the dispatch only. Safe. -/
  | notModelled (mnemonic : String)
deriving DecidableEq, Repr

/-- Registers right after reset (R52 to R55, R426, R491, log 1): the reset values that are not 0. -/
def Regs.reset : Regs where
  cur := [(0x0000, 0x10000151D7#64), (0x0020, 1#64), (0x0120, 0x6400FA#64),
    (0x1030, 0xFFFFF#64), (0x1038, 0xFFFFF#64), (0x1C30, 0x80000#64)]
  pend := []
  staged := []
  committed := []
  comPend := []

/-- An executor with every register clear (R346, R370): predicate p0 reads 1. -/
def Exec.clear : Exec where
  pc := 0
  s := []
  p := 1
  t := []
  q := []
  popped := []
  acc := []
  cause := 0
  epc := 0
  einfo := 0
  trap := false
  halted := false
  scratch := []
  rmErr := 0
  posted := []
  fetches := []
  item := none
  reissue := none
  restarts := 0
  blocked := .no
  resume := 0
  fast := false
  code := 0

/-- A link that has never trained: state DOWN, four lanes in service (R437; log 1). -/
def Link.reset : Link where
  state := 0
  lanes := 15
  los := 0
  oeReady := true
  fresh := true
  testing := false
  ctrl := none
  peerNode := 0
  peerLink := 0
  held := (0, 0)
  inflight := (0, 0)
  peer := (0, 0)
  grant := (0, 0)
  retry := []
  txSeq := 0
  rxSeq := 0
  nakSent := false
  crdSeen := (0, 0)
  crdGiven := (0, 0)
  rxHeld := (0, 0)
  probes := 0
  wait := []
  last := none

/-- A Stem port before it comes up (R408). -/
def StemPort.reset : StemPort := { up := false, retired := false, req := 0, rsp := 0, wait := [], last := none }

/-- A stack before the KEEP stage: nothing known of it, position p of gang g held by pseudo-channel 18g + p (R448). -/
def Stack.reset : Stack where
  up := false
  gangs := [true, true, true]
  out := 0
  posmap := List.range 54
  spares := [54, 55, 56, 57, 58, 59, 60, 61, 62, 63]
  rebuild := []
  lines := 0
  cattrip := false
  scrub := 0
  retired := false
  back := []

/-- A text unit with no job; an Orchard engine has its four thread groups (R309). -/
def TextUnit.reset : TextUnit := { jobs := [], retired := false, groups := 15 }

/-- What the owning sequencer keeps about an entry when it leaves FREE. -/
def Side.reset : Side where
  toks := []
  chars := []
  u8First := 0
  tail := []
  ord := 0
  turn := 0
  seqLen := 0
  screens := []
  pins := []
  exclude := []
  steps := []
  results := []
  firstTok := none
  lastPool := 0
  nodes := []
  rootMask := false
  skip := false
  drafted := false
  warmed := false
  passes := 0
  units := []
  due := []
  newPages := []
  cancels := []
  pause := false
  failed := false
  prefetched := false
  prefetchFail := false
  acceptDone := false
  endTick := 0
  tokWait := false
  turnEnd := false
  endReason := 0
  regDue := false
  finalDue := false
  bargeLate := false
  noDraft := false
  unitBase := 0
  compacted := false
  promptAddr := 0
  promptBytes := 0
  isTurn := false
  turnStart := 0
  failWith := 0
  lost := 0
  stack := []
  badOrders := []

/-- The clock at the rising edge of tick_rst_n (R463, R486). -/
def Clock.reset : Clock where
  timeUs := 0
  cycles := 0
  mhz := 1400
  nextMhz := 1400
  bndUs := 0
  bndCyc := 0
  ticking := false
  missedRun := 0
  intakeClosed := false
  cutOff := false
  maskTarget := false
  maskDeadline := false
  published := false
  mainWindow := false
  draftBegun := false
  frame := 0
  tableK0 := 0
  free := 0

/-- A key store as a block might be made (log 6): no failed cluster, nothing revoked, floor 0, contents zero. -/
def KeyStore.reset : KeyStore where
  serial := 0
  mfgFail := 0
  digests := [[], [], [], []]
  revoked := 0
  floor := 0
  deviceKey := []

/-- Start state in stage WAIT (R492) with the key store given. -/
def Start.reset (k : KeyStore) : Start where
  inReset := false
  railLost := false
  seed := false
  key := k
  f := 0
  recSeq := 0
  failsSinceReset := 0
  retryAt := none
  beganAt := 0
  imageId := 0
  secVersion := 0
  keySlot := 0
  config := 0
  node := 0
  peer := 0
  revoke := []
  programs := []
  rootKey := []
  energyCoef := []
  lastTod := none
  calSet := false
  calDiff := false
  cfg := []
  lines := 0
  retSeq := 0
  ckptUs := 0
  ckptCal := none
  waitUs := 0

def Rq.reset : Rq where
  table := []
  side := []
  lastAlloc := []
  admTaken := 0
  ctlTaken := 0
  orders := []
  orderSeq := 0
  slots := []
  pools := []
  ringPos := []
  seen := []
  published := []
  freed := []
  staleFree := []
  tokOld := []
  listFree := []
  tokFree := []
  unitFree := []
  spcPools := []
  maskRecs := []
  drafts := []
  punWritten := 0
  punDefer := []
  nextItem := 0
  pgCmd := []

def Ledger.reset : Ledger where
  pages := [0, 0, 0, 0, 0]
  admitted := 0
  ended := 0
  phase0 := []
  phase1 := []
  fault := 0
  culprit := 0xFFFF
  checked := false
  reqFault := false
  stopped := false
  tableLoss := false
  violPools := []

def Compute.reset : Compute where
  units := []
  later := []
  items := []
  dpass := []
  cls := []
  moving := []
  lent := []
  enabled := 0
  spares := 0
  retired := 0
  retiring := []
  retiringPips := []
  posLost := []
  spareFor := []
  table := []
  mapOn := 0
  mapSpare := 0

def Power.reset : Power where
  samples := []
  win := []
  divIn := 0
  divOut := 0
  lostOut := 0
  segFail := 0
  tickDuty := false
  tickOver := false
  tickWarn := false
  tickThrottle := false
  tickLost := false
  tickVolt := false
  voltFail := false
  sensors := List.replicate 96 0
  badRun := List.replicate 96 0
  goodRun := List.replicate 96 0
  failed := List.replicate 96 false
  energy := 0
  hotTime := List.replicate 12 0
  oeTime := List.replicate 8 0
  tripped := false

def Pair.reset : Pair where
  journalHead := 0
  journalAcked := 0
  epoch := 0
  lastEpochUs := 0
  heldWrites := []
  taking := false
  applied := 0
  mirror := []
  copy := []
  heads := []
  sides := []
  shadow := []
  cfgSeen := []

/-- The block at the rising edge of tick_rst_n: only the key store and the Keep regions carry anything over (R513). -/
def Block.reset (k : KeyStore) (keep : Memory) : Block where
  regs := Regs.reset
  mgt := { sems := [], diagA := 0, diagB := 0, rsp := [], latch := [] }
  clk := Clock.reset
  mem := { stack := [], die := [], slices := [], keep := keep, badLines := [], written := [] }
  rm := { execs := [], out := [], nextId := 0, failPools := [], agentFail := [], routes := [] }
  rq := Rq.reset
  lgr := Ledger.reset
  cp := Compute.reset
  st := { warm := [], loads := [], fillWait := [], hot := [], states := [], cmdModel := none, cmdAdapter := none, pinned := [],
          adpDigest := [], heads := [] }
  ob := { vocabs := [], grammars := [], stops := [], msets := [], ensembles := [], checks := [], acts := [] }
  io := { links := [], stem := [], stks := [], hist := [], lanesRetired := [] }
  pw := Power.reset
  sa := Start.reset k
  pair := Pair.reset
  log := { staged := [], seq := 0, lost := 0, leaf := [] }
  tap := 2
  net := TapNet.reset

/-- The machine right after reset: tick_rst_n has risen, stage WAIT, no command waiting (R484, R492). -/
def State.reset : State := { pending := [], blk := Block.reset KeyStore.reset [] }

end Sys2Proof.Machine
end

