-- ==== Sys2Proof/Machine/RegTable.lean ====
section
/-! DEFINITION. The register table of space 4: every register and field of the specification's register tables
(R14, R52 to R55, R92, R147, R148, R154, R183, R208, R235, R268, R270, R294, R312, R335, R336, R371, R403, R426,
R428, R457, R459, R479, R481, R515, R516), with access class, commit group and semaphore (R15, R420, R518). -/
namespace Sys2Proof.Machine
open Sys2Proof

/-- A field of a register: offset in space 4, lowest bit, width. -/
structure Fld where
  off : Nat
  lo : Nat
  wid : Nat
deriving DecidableEq, Repr

/-- The access classes of R15. -/
inductive Acc where
  | ro | w1c | rw | rwt | rwi | rwg
deriving DecidableEq, Repr

/-- A field of the table: place, class, whether it is reserved, the range of values its description marks
reserved, whether it is a counter field (R381), whether its reset is `img` or `keep`. -/
structure FDesc where
  lo : Nat
  wid : Nat
  acc : Acc
  resv : Bool
  bad : List (Nat × Nat)
  counter : Bool
  img : Bool
  keep : Bool
deriving DecidableEq, Repr

/-- A register, or `n` registers 8 bytes apart: commit group of its RWG fields, semaphore that guards it whole. -/
structure RDesc where
  off : Nat
  n : Nat
  group : Option Nat
  sem : Option Nat
  fields : List FDesc
deriving DecidableEq, Repr

/-- The field of register number i of an array. -/
def Fld.at (f : Fld) (i : Nat) : Fld := { f with off := f.off + 8 * i }

def fd (lo wid : Nat) (acc : Acc) (img keep : Bool := false) (bad : List (Nat × Nat) := []) (counter : Bool := false) : FDesc :=
  { lo := lo, wid := wid, acc := acc, resv := false, bad := bad, counter := counter, img := img, keep := keep }

def fr (lo wid : Nat) : FDesc :=
  { lo := lo, wid := wid, acc := .ro, resv := true, bad := [], counter := false, img := false, keep := false }

namespace F
abbrev STA_IDENT_VENDOR : Fld := ⟨0x0000, 0, 16⟩
abbrev STA_IDENT_PART : Fld := ⟨0x0000, 16, 16⟩
abbrev STA_IDENT_STEPPING : Fld := ⟨0x0000, 32, 8⟩
abbrev STA_IDENT_CONFIG : Fld := ⟨0x0000, 40, 3⟩
abbrev STA_IDENT_PAIR_ROLE : Fld := ⟨0x0000, 43, 1⟩
abbrev STA_IDENT_CLUSTERS : Fld := ⟨0x0000, 44, 7⟩
abbrev STA_CMD_OP : Fld := ⟨0x0008, 0, 2⟩
abbrev STA_CMD_STATUS : Fld := ⟨0x0008, 4, 3⟩
abbrev STA_IMG_ADDR : Fld := ⟨0x0010, 0, 64⟩
abbrev STA_DESC_BYTES : Fld := ⟨0x0018, 0, 29⟩
abbrev STA_DESC_ATTEMPTS : Fld := ⟨0x0018, 32, 4⟩
abbrev STA_DESC_LIMIT : Fld := ⟨0x0018, 40, 8⟩
abbrev STA_STAT_STAGE : Fld := ⟨0x0020, 0, 4⟩
abbrev STA_STAT_CAUSE : Fld := ⟨0x0020, 4, 8⟩
abbrev STA_STAT_FAILS : Fld := ⟨0x0020, 12, 4⟩
abbrev STA_STAT_KEEP : Fld := ⟨0x0020, 16, 1⟩
abbrev STA_STAT_CAL_UNSYNC : Fld := ⟨0x0020, 17, 1⟩
abbrev STA_STAT_ATTEMPT : Fld := ⟨0x0020, 24, 8⟩
abbrev STA_STAT_DETAIL : Fld := ⟨0x0020, 32, 32⟩
abbrev STA_MFG_SERIAL : Fld := ⟨0x0028, 0, 48⟩
abbrev STA_MFG_REVOKED : Fld := ⟨0x0028, 48, 4⟩
abbrev STA_MFG_FLOOR : Fld := ⟨0x0028, 52, 6⟩
abbrev STA_MFG_FAIL_CLUSTERS : Fld := ⟨0x0030, 0, 64⟩
abbrev STA_IMGID_IMAGE_ID : Fld := ⟨0x0038, 0, 32⟩
abbrev STA_IMGID_SEC_VERSION : Fld := ⟨0x0038, 32, 6⟩
abbrev STA_IMGID_KEY_SLOT : Fld := ⟨0x0038, 38, 2⟩
abbrev STA_BOND_FAILED : Fld := ⟨0x0040, 0, 64⟩
abbrev STA_PAIR_STATE : Fld := ⟨0x0048, 0, 3⟩
abbrev STA_PAIR_TAKEOVERS : Fld := ⟨0x0048, 8, 8⟩
abbrev STA_PAIR_CFG_SYNC_US : Fld := ⟨0x0050, 0, 10⟩
abbrev STA_PAIR_CFG_TIMEOUT_US : Fld := ⟨0x0050, 16, 13⟩
abbrev STA_PAIR_CFG_COPY_GBPS : Fld := ⟨0x0050, 32, 10⟩
abbrev STA_PAIR_EPOCH_EPOCH : Fld := ⟨0x0058, 0, 64⟩
abbrev STA_PAIR_ACK_ACK : Fld := ⟨0x0060, 0, 64⟩
abbrev STA_PAIR_JRNL_BASE : Fld := ⟨0x0068, 0, 52⟩
abbrev STA_PAIR_JRNL_SIZE_LOG2 : Fld := ⟨0x0068, 52, 6⟩
abbrev STA_CFG_DIGEST : Fld := ⟨0x0070, 0, 64⟩
abbrev STA_EVT_SEED : Fld := ⟨0x0078, 0, 1⟩
abbrev STA_EVT_CAL_DIFF : Fld := ⟨0x0078, 1, 1⟩
abbrev STA_EVT_CFG_DIFF : Fld := ⟨0x0078, 2, 1⟩
abbrev STA_EVT_TAKEOVER : Fld := ⟨0x0078, 3, 1⟩
abbrev STA_EVT_FENCED : Fld := ⟨0x0078, 4, 1⟩
abbrev STA_EVT_BOND_FAIL : Fld := ⟨0x0078, 5, 1⟩
abbrev TICK_CTRL_SOURCE : Fld := ⟨0x0100, 0, 1⟩
abbrev TICK_CTRL_SOURCE_ACT : Fld := ⟨0x0100, 1, 1⟩
abbrev TICK_CTRL_SCHED : Fld := ⟨0x0100, 2, 1⟩
abbrev TICK_PERIOD_PERIOD_US : Fld := ⟨0x0108, 0, 17⟩
abbrev TICK_PERIOD_EXT_TOL : Fld := ⟨0x0108, 32, 8⟩
abbrev TICK_TURN_TURN_US : Fld := ⟨0x0110, 0, 14⟩
abbrev TICK_TURN_MASK_DL_US : Fld := ⟨0x0110, 16, 14⟩
abbrev TICK_BUDGET_INTAKE_US : Fld := ⟨0x0118, 0, 10⟩
abbrev TICK_BUDGET_ACCEPT_US : Fld := ⟨0x0118, 10, 10⟩
abbrev TICK_BUDGET_MASK_US : Fld := ⟨0x0118, 20, 10⟩
abbrev TICK_BUDGET_PUBLISH_US : Fld := ⟨0x0118, 30, 10⟩
abbrev TICK_MON_EVAL_US : Fld := ⟨0x0120, 0, 10⟩
abbrev TICK_MON_GUARD_US : Fld := ⟨0x0120, 16, 10⟩
abbrev TICK_COUNT_COUNT : Fld := ⟨0x0128, 0, 64⟩
abbrev TICK_EVT_SRC_LOST : Fld := ⟨0x0130, 0, 1⟩
abbrev TICK_EVT_TURN_SKIP : Fld := ⟨0x0130, 1, 1⟩
abbrev TICK_EVT_OUT_OVR : Fld := ⟨0x0130, 2, 1⟩
abbrev TICK_EVT_TABLE_LOSS : Fld := ⟨0x0130, 3, 1⟩
abbrev TICK_EVT_SLOE_USED : Fld := ⟨0x0130, 4, 1⟩
abbrev TICK_EVT_MASK_LATE : Fld := ⟨0x0130, 5, 1⟩
abbrev TICK_CNT_A_EARLY : Fld := ⟨0x0138, 0, 32⟩
abbrev TICK_CNT_A_MISSED : Fld := ⟨0x0138, 32, 32⟩
abbrev TICK_CNT_B_TURN_SKIP : Fld := ⟨0x0140, 0, 32⟩
abbrev TICK_CNT_B_OUT_OVR : Fld := ⟨0x0140, 32, 32⟩
abbrev TICK_CNT_C_SLOE_SUBST : Fld := ⟨0x0148, 0, 32⟩
abbrev TICK_CNT_C_IN_INDET : Fld := ⟨0x0148, 32, 32⟩
abbrev TICK_SPLIT_LANGID : Fld := ⟨0x0150, 0, 7⟩
abbrev TICK_SPLIT_INPUT : Fld := ⟨0x0150, 8, 7⟩
abbrev TICK_SPLIT_OUTPUT : Fld := ⟨0x0150, 16, 7⟩
abbrev TICK_SPLIT_DEEP : Fld := ⟨0x0150, 24, 7⟩
abbrev TICK_SPLIT_LONG : Fld := ⟨0x0150, 32, 7⟩
abbrev TICK_SPLIT_IDLE : Fld := ⟨0x0150, 40, 7⟩
abbrev TICK_TABLE_BASE_OFFSET : Fld := ⟨0x0158, 0, 52⟩
abbrev TICK_SEQ_CTRL_HALT_MAX : Fld := ⟨0x0160, 0, 4⟩
abbrev TICK_SEQ_CMD_SEQ : Fld := ⟨0x0168, 0, 3⟩
abbrev TICK_SEQ_CMD_OP : Fld := ⟨0x0168, 4, 2⟩
abbrev TICK_SEQ_CMD_STATUS : Fld := ⟨0x0168, 8, 3⟩
abbrev TICK_SEQ_STAT_STATE : Fld := ⟨0x0170, 0, 2⟩
abbrev TICK_SEQ_STAT_CAUSE : Fld := ⟨0x0170, 8, 8⟩
abbrev TICK_SEQ_STAT_EPC : Fld := ⟨0x0170, 16, 16⟩
abbrev TICK_SEQ_STAT_RESTARTS : Fld := ⟨0x0170, 32, 16⟩
abbrev TICK_SEQ_STAT_TRAPS : Fld := ⟨0x0170, 48, 16⟩
abbrev TICK_SEQ_EVT_TRAP : Fld := ⟨0x01B0, 0, 8⟩
abbrev TICK_SEQ_EVT_RESTART : Fld := ⟨0x01B0, 8, 8⟩
abbrev TICK_SEQ_EVT_HALTED : Fld := ⟨0x01B0, 16, 8⟩
abbrev TICK_SEQ_CNT_LTICK_MISS : Fld := ⟨0x01B8, 0, 32⟩
abbrev RQT_CTRL_ADMIT_EN : Fld := ⟨0x0200, 0, 1⟩
abbrev RQT_CTRL_STOP_CAUSE : Fld := ⟨0x0200, 4, 4⟩
abbrev RQT_CTRL_MODEL_EPOCH : Fld := ⟨0x0200, 8, 16⟩
abbrev RQT_ADM_RING_BASE : Fld := ⟨0x0208, 0, 52⟩
abbrev RQT_ADM_RING_SIZE_LOG2 : Fld := ⟨0x0208, 52, 6⟩
abbrev RQT_ADM_RES_BASE : Fld := ⟨0x0210, 0, 52⟩
abbrev RQT_CTL_RING_BASE : Fld := ⟨0x0218, 0, 52⟩
abbrev RQT_CTL_RING_SIZE_LOG2 : Fld := ⟨0x0218, 52, 6⟩
abbrev RQT_ADM_DB_POSTED : Fld := ⟨0x0220, 0, 64⟩
abbrev RQT_ADM_TAKEN_TAKEN : Fld := ⟨0x0228, 0, 64⟩
abbrev RQT_CTL_DB_POSTED : Fld := ⟨0x0230, 0, 64⟩
abbrev RQT_CTL_TAKEN_TAKEN : Fld := ⟨0x0238, 0, 64⟩
abbrev RQT_OCC_IN_USE : Fld := ⟨0x0240, 0, 17⟩
abbrev RQT_OCC_DECODE : Fld := ⟨0x0240, 17, 17⟩
abbrev RQT_OCC_PAUSED : Fld := ⟨0x0240, 34, 17⟩
abbrev RQT_CNT_A_REFUSED : Fld := ⟨0x0248, 0, 32⟩
abbrev RQT_CNT_A_CTL_STALE : Fld := ⟨0x0248, 32, 32⟩
abbrev RQT_CNT_B_STEP_DEFER : Fld := ⟨0x0250, 0, 32⟩
abbrev RQT_CNT_B_RETRY : Fld := ⟨0x0250, 32, 32⟩
abbrev PG_CTRL_PAGE_SIZE : Fld := ⟨0x0300, 0, 2⟩
abbrev PG_POOL_TBL_BASE : Fld := ⟨0x0308, 0, 52⟩
abbrev PG_REC_BASE_BASE : Fld := ⟨0x0310, 0, 52⟩
abbrev PG_TOTAL_TOTAL : Fld := ⟨0x0318, 0, 28⟩
abbrev PG_DONE_BASE_BASE : Fld := ⟨0x0320, 0, 52⟩
abbrev PG_TIER_WARM_TTL_S : Fld := ⟨0x0328, 0, 32⟩
abbrev PG_TIER_COLD_TTL_S : Fld := ⟨0x0328, 32, 32⟩
abbrev PG_CMD_PAGE : Fld := ⟨0x0330, 0, 27⟩
abbrev PG_CMD_OP : Fld := ⟨0x0330, 32, 2⟩
abbrev PG_CMD_STATUS : Fld := ⟨0x0330, 36, 3⟩
abbrev PG_CNT_ALLOC_DEFER : Fld := ⟨0x0338, 0, 32⟩
abbrev PG_CNT_PFX_DROP : Fld := ⟨0x0338, 32, 32⟩
abbrev PFX_CTRL_EN : Fld := ⟨0x0340, 0, 1⟩
abbrev PFX_CTRL_KEY_EPOCH : Fld := ⟨0x0340, 8, 8⟩
abbrev PFX_CTRL_SIZE_LOG2 : Fld := ⟨0x0340, 16, 5⟩
abbrev PFX_IDX_BASE_BASE : Fld := ⟨0x0348, 0, 52⟩
abbrev PFX_TOK_BASE_BASE : Fld := ⟨0x0350, 0, 52⟩
abbrev PFX_CNT_A_LOOKUP : Fld := ⟨0x0358, 0, 32⟩
abbrev PFX_CNT_A_HIT : Fld := ⟨0x0358, 32, 32⟩
abbrev PFX_CNT_B_FALSE_MATCH : Fld := ⟨0x0360, 0, 32⟩
abbrev PFX_CNT_B_INSERT_SKIP : Fld := ⟨0x0360, 32, 32⟩
abbrev PG_LIST_BASE : Fld := ⟨0x0368, 0, 52⟩
abbrev PG_LIST_SIZE_GRANULES : Fld := ⟨0x0370, 0, 32⟩
abbrev PG_LIST_SIZE_FREE : Fld := ⟨0x0370, 32, 32⟩
abbrev LGR_PG_A_FREE : Fld := ⟨0x0380, 0, 28⟩
abbrev LGR_PG_A_OWNED : Fld := ⟨0x0380, 32, 28⟩
abbrev LGR_PG_B_PREFIX : Fld := ⟨0x0388, 0, 28⟩
abbrev LGR_PG_B_TRANSFER : Fld := ⟨0x0388, 32, 28⟩
abbrev LGR_PG_C_RETIRED : Fld := ⟨0x0390, 0, 28⟩
abbrev LGR_PG_C_TOTAL : Fld := ⟨0x0390, 32, 28⟩
abbrev LGR_RQ_ADM_ADMITTED : Fld := ⟨0x0398, 0, 64⟩
abbrev LGR_RQ_END_ENDED : Fld := ⟨0x03A0, 0, 64⟩
abbrev LGR_RQ_LIVE_ACTIVE : Fld := ⟨0x03A8, 0, 17⟩
abbrev LGR_RQ_LIVE_PAUSED : Fld := ⟨0x03A8, 32, 17⟩
abbrev LGR_FAULT_PAGES : Fld := ⟨0x03B0, 0, 1⟩
abbrev LGR_FAULT_DRAFTED : Fld := ⟨0x03B0, 1, 1⟩
abbrev LGR_FAULT_SAMPLED : Fld := ⟨0x03B0, 2, 1⟩
abbrev LGR_FAULT_CREDITS : Fld := ⟨0x03B0, 3, 1⟩
abbrev LGR_FAULT_REQUESTS : Fld := ⟨0x03B0, 4, 1⟩
abbrev LGR_FAULT_FROZEN : Fld := ⟨0x03B0, 5, 1⟩
abbrev LGR_FAULT_INDEX : Fld := ⟨0x03B0, 8, 16⟩
abbrev LGR_FAULT_TICK : Fld := ⟨0x03B0, 32, 32⟩
abbrev TOK_TPL_BASE_BASE : Fld := ⟨0x0400, 0, 52⟩
abbrev TOK_DIR_BASE_BASE : Fld := ⟨0x0408, 0, 52⟩
abbrev TOK_ARENA_BASE : Fld := ⟨0x0410, 0, 52⟩
abbrev TOK_ARENA_SIZE_GRANULES : Fld := ⟨0x0418, 0, 32⟩
abbrev TOK_ARENA_SIZE_FREE : Fld := ⟨0x0418, 32, 32⟩
abbrev TOK_PUN_RING_BASE : Fld := ⟨0x0420, 0, 64⟩
abbrev TOK_PUN_CFG_SIZE_LOG2 : Fld := ⟨0x0428, 0, 5⟩
abbrev TOK_PUN_CTR_ADDR : Fld := ⟨0x0430, 0, 64⟩
abbrev TOK_PUN_TAKEN_TAKEN : Fld := ⟨0x0438, 0, 64⟩
abbrev TOK_SLOT_CMD_SLOT : Fld := ⟨0x0440, 0, 5⟩
abbrev TOK_SLOT_CMD_OP : Fld := ⟨0x0440, 8, 2⟩
abbrev TOK_SLOT_CMD_STATUS : Fld := ⟨0x0440, 12, 3⟩
abbrev TOK_SLOT_ADDR_BASE : Fld := ⟨0x0448, 0, 52⟩
abbrev TOK_SLOT_MAP_RESIDENT : Fld := ⟨0x0450, 0, 32⟩
abbrev TOK_CNT_A_BYTE_FALLBACK : Fld := ⟨0x0458, 0, 32⟩
abbrev TOK_CNT_A_CODEC_INVALID : Fld := ⟨0x0458, 32, 32⟩
abbrev TOK_CNT_B_U8_REPLACED : Fld := ⟨0x0460, 0, 32⟩
abbrev TOK_CNT_B_PUN_DEFER : Fld := ⟨0x0460, 32, 32⟩
abbrev TOK_CNT_C_ARENA_WAIT : Fld := ⟨0x0468, 0, 32⟩
abbrev TOK_VID_VOCAB_ID : Fld := ⟨0x0480, 0, 32⟩
abbrev TOK_VID_KIND : Fld := ⟨0x0480, 32, 2⟩
abbrev TOK_VID_NORM : Fld := ⟨0x0480, 34, 2⟩
abbrev TOK_VID_PIECES : Fld := ⟨0x0480, 36, 19⟩
abbrev GRM_CMD_NUMBER : Fld := ⟨0x0600, 0, 16⟩
abbrev GRM_CMD_OP : Fld := ⟨0x0600, 16, 2⟩
abbrev GRM_CMD_STATUS : Fld := ⟨0x0600, 20, 3⟩
abbrev GRM_ADDR_BASE : Fld := ⟨0x0608, 0, 52⟩
abbrev GRM_LOADED_COUNT : Fld := ⟨0x0610, 0, 13⟩
abbrev GRM_MASK_TBL_BASE : Fld := ⟨0x0618, 0, 52⟩
abbrev GRM_EVT_VIOLATION : Fld := ⟨0x0620, 0, 1⟩
abbrev GRM_EVT_AREA_FULL : Fld := ⟨0x0620, 1, 1⟩
abbrev GRM_CNT_A_MASKS : Fld := ⟨0x0628, 0, 32⟩
abbrev GRM_CNT_A_NODE_PRUNE : Fld := ⟨0x0628, 32, 32⟩
abbrev GRM_CNT_B_VIOLATION : Fld := ⟨0x0630, 0, 32⟩
abbrev GRM_CNT_B_AREA_SKIP : Fld := ⟨0x0630, 32, 32⟩
abbrev GRM_CNT_C_EMPTY : Fld := ⟨0x0638, 0, 32⟩
abbrev GRM_CNT_C_DONE : Fld := ⟨0x0638, 32, 32⟩
abbrev GRM_CNT_D_LATE_PRUNE : Fld := ⟨0x0640, 0, 32⟩
abbrev STP_CMD_NUMBER : Fld := ⟨0x0680, 0, 16⟩
abbrev STP_CMD_OP : Fld := ⟨0x0680, 16, 2⟩
abbrev STP_CMD_STATUS : Fld := ⟨0x0680, 20, 3⟩
abbrev STP_ADDR_BASE : Fld := ⟨0x0688, 0, 52⟩
abbrev STP_LOADED_COUNT : Fld := ⟨0x0690, 0, 13⟩
abbrev STP_CNT_A_HITS : Fld := ⟨0x0698, 0, 32⟩
abbrev STP_CNT_A_TRUNC : Fld := ⟨0x0698, 32, 32⟩
abbrev SPC_CTRL_EN : Fld := ⟨0x0700, 0, 1⟩
abbrev SPC_CTRL_WARM_MAX : Fld := ⟨0x0700, 8, 8⟩
abbrev SPC_CTRL_EWMA_SHIFT : Fld := ⟨0x0700, 16, 3⟩
abbrev SPC_SHAPE_FULL_WIDTHS : Fld := ⟨0x0708, 0, 30⟩
abbrev SPC_SHAPE_RED_WIDTHS : Fld := ⟨0x0710, 0, 30⟩
abbrev SPC_SHAPE_MIN_WIDTHS : Fld := ⟨0x0718, 0, 30⟩
abbrev SPC_THRESH_T_REDUCE : Fld := ⟨0x0720, 0, 17⟩
abbrev SPC_THRESH_T_MIN : Fld := ⟨0x0720, 17, 17⟩
abbrev SPC_THRESH_T_OFF : Fld := ⟨0x0720, 34, 17⟩
abbrev SPC_POOL_TBL_BASE : Fld := ⟨0x0728, 0, 52⟩
abbrev SPC_DRAFT_TBL_BASE : Fld := ⟨0x0730, 0, 52⟩
abbrev SPC_TREE_BASE_BASE : Fld := ⟨0x0738, 0, 52⟩
abbrev SPC_UNIT_BASE_BASE : Fld := ⟨0x0740, 0, 52⟩
abbrev SPC_UNIT_COUNT_UNITS : Fld := ⟨0x0748, 0, 24⟩
abbrev SPC_UNIT_COUNT_FREE : Fld := ⟨0x0748, 24, 24⟩
abbrev SPC_STAT_DRAFTING : Fld := ⟨0x0750, 0, 15⟩
abbrev SPC_STAT_OFF : Fld := ⟨0x0750, 16, 15⟩
abbrev SPC_CNT_A_TRIM : Fld := ⟨0x0758, 0, 32⟩
abbrev SPC_CNT_A_MALFORMED : Fld := ⟨0x0758, 32, 32⟩
abbrev SPC_CNT_B_WARM_WAIT : Fld := ⟨0x0760, 0, 32⟩
abbrev SPC_CNT_B_PROBES : Fld := ⟨0x0760, 32, 32⟩
abbrev SPC_CNT_C_UNIT_WAIT : Fld := ⟨0x0768, 0, 32⟩
abbrev SPC_CNT_C_STEP_SKIP : Fld := ⟨0x0768, 32, 32⟩
abbrev PIP_CTRL_FAST_FTZ : Fld := ⟨0x0800, 0, 1⟩
abbrev PIP_CTRL_MIN_PIPS : Fld := ⟨0x0800, 8, 6⟩
abbrev PIP_EVT_REISSUE : Fld := ⟨0x0808, 0, 1⟩
abbrev PIP_EVT_ITEM_FAIL : Fld := ⟨0x0808, 1, 1⟩
abbrev PIP_EVT_PIP_RETIRED : Fld := ⟨0x0808, 2, 1⟩
abbrev PIP_EVT_CLUSTER_RETIRED : Fld := ⟨0x0808, 3, 1⟩
abbrev PIP_EVT_NAN_SCALE : Fld := ⟨0x0808, 4, 1⟩
abbrev PIP_CNT_A_REISSUE : Fld := ⟨0x0810, 0, 32⟩
abbrev PIP_CNT_A_ITEM_FAIL : Fld := ⟨0x0810, 32, 32⟩
abbrev PIP_CNT_B_SAT : Fld := ⟨0x0818, 0, 32⟩
abbrev PIP_CNT_B_NAN_BLK : Fld := ⟨0x0818, 32, 32⟩
abbrev PIP_CMD_CLUSTER : Fld := ⟨0x0820, 0, 6⟩
abbrev PIP_CMD_PIP : Fld := ⟨0x0820, 8, 5⟩
abbrev PIP_CMD_OP : Fld := ⟨0x0820, 16, 2⟩
abbrev PIP_CMD_STATUS : Fld := ⟨0x0820, 20, 3⟩
abbrev PIP_LIVE_PIPS : Fld := ⟨0x0828, 0, 12⟩
abbrev PIP_RET_LOW : Fld := ⟨0x0900, 0, 32⟩
abbrev PIP_RET_HIGH : Fld := ⟨0x0900, 32, 32⟩
abbrev PKR_CTRL_AHEAD : Fld := ⟨0x0A00, 0, 7⟩
abbrev PKR_CNT_A_FETCH_ERR : Fld := ⟨0x0A08, 0, 32⟩
abbrev PKR_CNT_A_REFETCH : Fld := ⟨0x0A08, 32, 32⟩
abbrev MDL_CTRL_LANGID : Fld := ⟨0x0B00, 0, 13⟩
abbrev MDL_CTRL_RESIDE_MIN : Fld := ⟨0x0B00, 16, 4⟩
abbrev MDL_CTRL_FREE_MIN : Fld := ⟨0x0B00, 32, 14⟩
abbrev MDL_CAT_BASE_BASE : Fld := ⟨0x0B08, 0, 52⟩
abbrev MDL_WARM_BASE : Fld := ⟨0x0B10, 0, 52⟩
abbrev MDL_WARM_SIZE_UNITS : Fld := ⟨0x0B18, 0, 24⟩
abbrev MDL_WARM_SIZE_FREE : Fld := ⟨0x0B18, 32, 24⟩
abbrev MDL_STATE_BASE : Fld := ⟨0x0B20, 0, 52⟩
abbrev MDL_STATE_SIZE_UNITS : Fld := ⟨0x0B28, 0, 24⟩
abbrev MDL_STATE_SIZE_FREE : Fld := ⟨0x0B28, 32, 24⟩
abbrev MDL_RATE_FILL_GBPS : Fld := ⟨0x0B30, 0, 14⟩
abbrev MDL_RATE_COLD_GBPS : Fld := ⟨0x0B30, 16, 10⟩
abbrev MDL_CMD_NUMBER : Fld := ⟨0x0B38, 0, 13⟩
abbrev MDL_CMD_OP : Fld := ⟨0x0B38, 16, 3⟩
abbrev MDL_CMD_STATUS : Fld := ⟨0x0B38, 20, 3⟩
abbrev MDL_ARG_BASE : Fld := ⟨0x0B40, 0, 52⟩
abbrev MDL_ADP_BASE_BASE : Fld := ⟨0x0B48, 0, 52⟩
abbrev MDL_ADP_CMD_NUMBER : Fld := ⟨0x0B50, 0, 18⟩
abbrev MDL_ADP_CMD_OP : Fld := ⟨0x0B50, 18, 2⟩
abbrev MDL_ADP_CMD_STATUS : Fld := ⟨0x0B50, 20, 3⟩
abbrev MDL_HOT_GRANULES : Fld := ⟨0x0B58, 0, 14⟩
abbrev MDL_HOT_FREE : Fld := ⟨0x0B58, 16, 14⟩
abbrev MDL_HOT_PINNED : Fld := ⟨0x0B58, 32, 14⟩
abbrev MDL_HOT_ADP_COUNT : Fld := ⟨0x0B60, 0, 13⟩
abbrev MDL_CNT_A_FILLS : Fld := ⟨0x0B68, 0, 32⟩
abbrev MDL_CNT_A_EVICT : Fld := ⟨0x0B68, 32, 32⟩
abbrev MDL_CNT_B_LOADS : Fld := ⟨0x0B70, 0, 32⟩
abbrev MDL_CNT_B_LOAD_FAIL : Fld := ⟨0x0B70, 32, 32⟩
abbrev MDL_CNT_C_FILL_WAIT : Fld := ⟨0x0B78, 0, 22⟩
abbrev MDL_CNT_C_WARM_WAIT : Fld := ⟨0x0B78, 22, 21⟩
abbrev MDL_CNT_C_STATE_WAIT : Fld := ⟨0x0B78, 43, 21⟩
abbrev ORC_CMD_NUMBER : Fld := ⟨0x0C00, 0, 8⟩
abbrev ORC_CMD_OP : Fld := ⟨0x0C00, 8, 2⟩
abbrev ORC_CMD_STATUS : Fld := ⟨0x0C00, 12, 3⟩
abbrev ORC_ADDR_BASE : Fld := ⟨0x0C08, 0, 52⟩
abbrev ORC_LOADED_COUNT : Fld := ⟨0x0C10, 0, 8⟩
abbrev ORC_LOADED_FREE : Fld := ⟨0x0C10, 16, 9⟩
abbrev ORC_LIVE_GROUPS : Fld := ⟨0x0C18, 0, 32⟩
abbrev ORC_EVT_VECTOR_FAIL : Fld := ⟨0x0C20, 0, 1⟩
abbrev ORC_EVT_GROUP_RETIRED : Fld := ⟨0x0C20, 1, 1⟩
abbrev ORC_EVT_READ_ERR : Fld := ⟨0x0C20, 2, 1⟩
abbrev ORC_CNT_A_JOBS : Fld := ⟨0x0C28, 0, 32⟩
abbrev ORC_CNT_A_REFUSED : Fld := ⟨0x0C28, 32, 32⟩
abbrev ORC_CNT_B_STEPS : Fld := ⟨0x0C30, 0, 64⟩
abbrev ORC_CNT_C_MISSING : Fld := ⟨0x0C38, 0, 32⟩
abbrev ORC_CNT_C_REREAD : Fld := ⟨0x0C38, 32, 32⟩
abbrev MAT_CMD_NUMBER : Fld := ⟨0x0D00, 0, 10⟩
abbrev MAT_CMD_OP : Fld := ⟨0x0D00, 12, 2⟩
abbrev MAT_CMD_STATUS : Fld := ⟨0x0D00, 16, 3⟩
abbrev MAT_ADDR_BASE : Fld := ⟨0x0D08, 0, 52⟩
abbrev MAT_LOADED_COUNT : Fld := ⟨0x0D10, 0, 10⟩
abbrev MAT_LOADED_LIVE : Fld := ⟨0x0D10, 16, 16⟩
abbrev MAT_EVT_READ_ERR : Fld := ⟨0x0D18, 0, 1⟩
abbrev MAT_EVT_RETIRED : Fld := ⟨0x0D18, 1, 1⟩
abbrev MAT_CNT_A_JOBS : Fld := ⟨0x0D20, 0, 32⟩
abbrev MAT_CNT_A_REFUSED : Fld := ⟨0x0D20, 32, 32⟩
abbrev MAT_CNT_B_SYMBOLS : Fld := ⟨0x0D28, 0, 64⟩
abbrev VRD_PROF_BASE_BASE : Fld := ⟨0x0E00, 0, 52⟩
abbrev VRD_CMD_PROFILE : Fld := ⟨0x0E08, 0, 12⟩
abbrev VRD_CMD_OP : Fld := ⟨0x0E08, 12, 2⟩
abbrev VRD_CMD_STATUS : Fld := ⟨0x0E08, 16, 3⟩
abbrev VRD_ARG_BASE : Fld := ⟨0x0E10, 0, 52⟩
abbrev VRD_LOG_BASE_BASE : Fld := ⟨0x0E18, 0, 64⟩
abbrev VRD_LOG_CFG_SIZE_LOG2 : Fld := ⟨0x0E20, 0, 5⟩
abbrev VRD_LOG_SEQ_SEQ : Fld := ⟨0x0E28, 0, 64⟩
abbrev VRD_LOG_TAKEN_TAKEN : Fld := ⟨0x0E30, 0, 64⟩
abbrev VRD_LOG_CTR_ADDR : Fld := ⟨0x0E38, 0, 64⟩
abbrev VRD_LEAF_BASE_BASE : Fld := ⟨0x0E40, 0, 52⟩
abbrev VRD_LEAF_CFG_SIZE_LOG2 : Fld := ⟨0x0E48, 0, 6⟩
abbrev VRD_MSTATE_BASE_BASE : Fld := ⟨0x0E50, 0, 52⟩
abbrev VRD_EXT_BASE_BASE : Fld := ⟨0x0E58, 0, 52⟩
abbrev VRD_EVT_LOG_FULL : Fld := ⟨0x0E60, 0, 1⟩
abbrev VRD_EVT_RETRY : Fld := ⟨0x0E60, 1, 1⟩
abbrev VRD_EVT_MODEL_ABSENT : Fld := ⟨0x0E60, 2, 1⟩
abbrev VRD_EVT_LEAF_DROP : Fld := ⟨0x0E60, 3, 1⟩
abbrev VRD_CNT_IN_A_PASS : Fld := ⟨0x0E68, 0, 32⟩
abbrev VRD_CNT_IN_A_BLOCK : Fld := ⟨0x0E68, 32, 32⟩
abbrev VRD_CNT_IN_B_HOLD : Fld := ⟨0x0E70, 0, 32⟩
abbrev VRD_CNT_IN_B_INDET : Fld := ⟨0x0E70, 32, 32⟩
abbrev VRD_CNT_OUT_A_PASS : Fld := ⟨0x0E78, 0, 32⟩
abbrev VRD_CNT_OUT_A_BLOCK : Fld := ⟨0x0E78, 32, 32⟩
abbrev VRD_CNT_OUT_B_HOLD : Fld := ⟨0x0E80, 0, 32⟩
abbrev VRD_CNT_OUT_B_INDET : Fld := ⟨0x0E80, 32, 32⟩
abbrev VRD_CNT_C_RETRY : Fld := ⟨0x0E88, 0, 32⟩
abbrev VRD_CNT_C_DEEP : Fld := ⟨0x0E88, 32, 32⟩
abbrev VRD_CNT_D_LOG_LOST : Fld := ⟨0x0E90, 0, 32⟩
abbrev VRD_CNT_D_LEAF_DROP : Fld := ⟨0x0E90, 32, 32⟩
abbrev VRD_LOG_STAT_STAGED : Fld := ⟨0x0E98, 0, 13⟩
abbrev LNK_NODE_NODE : Fld := ⟨0x0F00, 0, 8⟩
abbrev LNK_NODE_PEER : Fld := ⟨0x0F00, 8, 8⟩
abbrev LNK_NODE_STACKS : Fld := ⟨0x0F00, 16, 4⟩
abbrev LNK_ROUTE_BASE_BASE : Fld := ⟨0x0F08, 0, 52⟩
abbrev LNK_RM_CFG_TIMEOUT_US : Fld := ⟨0x0F10, 0, 14⟩
abbrev LNK_RM_USABLE_BYTES : Fld := ⟨0x0F18, 0, 40⟩
abbrev LNK_RM_EVT_CODE : Fld := ⟨0x0F20, 1, 11⟩
abbrev LNK_RM_CNT_A_LOCAL : Fld := ⟨0x0F28, 0, 32⟩
abbrev LNK_RM_CNT_A_FAR : Fld := ⟨0x0F28, 32, 32⟩
abbrev LNK_RM_CNT_B_TIMEOUT : Fld := ⟨0x0F30, 0, 32⟩
abbrev LNK_RM_CNT_B_INBOUND : Fld := ⟨0x0F30, 32, 32⟩
abbrev MGT_PORT_SELF : Fld := ⟨0x1000, 0, 1⟩
abbrev MGT_COMMIT_GROUP : Fld := ⟨0x1008, 0, 5⟩
abbrev MGT_COMMIT_OP : Fld := ⟨0x1008, 8, 2⟩
abbrev MGT_CMT_DIAG_GROUP : Fld := ⟨0x1010, 0, 5⟩
abbrev MGT_CMT_DIAG_CHECK : Fld := ⟨0x1010, 8, 8⟩
abbrev MGT_CMT_DIAG_FIELD_OFF : Fld := ⟨0x1010, 16, 16⟩
abbrev MGT_CMT_DIAG_TICK : Fld := ⟨0x1010, 32, 32⟩
abbrev MGT_CMT_PEND_PEND : Fld := ⟨0x1018, 0, 16⟩
abbrev MGT_CAUSE_A_CAUSE : Fld := ⟨0x1020, 0, 20⟩
abbrev MGT_CAUSE_B_CAUSE : Fld := ⟨0x1028, 0, 20⟩
abbrev MGT_MASK_A_MASK : Fld := ⟨0x1030, 0, 20⟩
abbrev MGT_MASK_B_MASK : Fld := ⟨0x1038, 0, 20⟩
abbrev MGT_RPT_BASE_BASE : Fld := ⟨0x1040, 0, 64⟩
abbrev MGT_RPT_CFG_SIZE_LOG2 : Fld := ⟨0x1048, 0, 5⟩
abbrev MGT_RPT_CTR_ADDR : Fld := ⟨0x1050, 0, 64⟩
abbrev MGT_RPT_SEQ_SEQ : Fld := ⟨0x1058, 0, 64⟩
abbrev MGT_RPT_TAKEN_TAKEN : Fld := ⟨0x1060, 0, 64⟩
abbrev MGT_CNT_RPT_LOST : Fld := ⟨0x1068, 0, 32⟩
abbrev MGT_CNT_PORT_PARITY : Fld := ⟨0x1068, 32, 32⟩
abbrev MGT_STEM_LIVE_UP : Fld := ⟨0x1070, 0, 8⟩
abbrev MGT_STEM_LIVE_RETIRED : Fld := ⟨0x1070, 8, 8⟩
abbrev MGT_STEM_PAR_ERR : Fld := ⟨0x1080, 0, 16⟩
abbrev MGT_STEM_ERR_RSP : Fld := ⟨0x1080, 16, 16⟩
abbrev MGT_STEM_DROP : Fld := ⟨0x1080, 32, 16⟩
abbrev MGT_STEM_STALL : Fld := ⟨0x1080, 48, 16⟩
abbrev SEM_OP : Fld := ⟨0x1100, 0, 2⟩
abbrev SEM_LEASE_US : Fld := ⟨0x1100, 4, 20⟩
abbrev SEM_HOLDER : Fld := ⟨0x1100, 24, 2⟩
abbrev SEM_REMAIN_US : Fld := ⟨0x1100, 32, 32⟩
abbrev SEM_CNT_EXPIRED : Fld := ⟨0x1200, 0, 32⟩
abbrev SEM_CNT_REFUSED : Fld := ⟨0x1200, 32, 32⟩
abbrev SEM_MAP_HELD_A : Fld := ⟨0x1208, 0, 32⟩
abbrev SEM_MAP_HELD_B : Fld := ⟨0x1208, 32, 32⟩
abbrev LNK_CTRL_GRANT_REQ : Fld := ⟨0x1400, 0, 10⟩
abbrev LNK_CTRL_GRANT_RSP : Fld := ⟨0x1400, 10, 10⟩
abbrev LNK_CTRL_DEGRADE_EN : Fld := ⟨0x1400, 20, 1⟩
abbrev LNK_CTRL_TRAIN_MS : Fld := ⟨0x1400, 24, 7⟩
abbrev LNK_CTRL_PAIR_MIN : Fld := ⟨0x1400, 32, 4⟩
abbrev LNK_CTRL_SER_MAX : Fld := ⟨0x1400, 40, 24⟩
abbrev LNK_CMD_LINK : Fld := ⟨0x1408, 0, 6⟩
abbrev LNK_CMD_LANE : Fld := ⟨0x1408, 6, 2⟩
abbrev LNK_CMD_UNIT : Fld := ⟨0x1408, 8, 3⟩
abbrev LNK_CMD_OP : Fld := ⟨0x1408, 16, 2⟩
abbrev LNK_CMD_STATUS : Fld := ⟨0x1408, 20, 3⟩
abbrev LNK_LIVE_UP : Fld := ⟨0x1410, 0, 64⟩
abbrev LNK_RETIRED_RETIRED : Fld := ⟨0x1418, 0, 64⟩
abbrev LNK_DEGRADED_DEGRADED : Fld := ⟨0x1420, 0, 64⟩
abbrev LNK_EVT_REPLAY : Fld := ⟨0x1428, 0, 1⟩
abbrev LNK_EVT_RETRAIN : Fld := ⟨0x1428, 1, 1⟩
abbrev LNK_EVT_LANE_RETIRED : Fld := ⟨0x1428, 2, 1⟩
abbrev LNK_EVT_LINK_RETIRED : Fld := ⟨0x1428, 3, 1⟩
abbrev LNK_EVT_TEST_DONE : Fld := ⟨0x1428, 4, 1⟩
abbrev LNK_EVT_PAIR_LOW : Fld := ⟨0x1428, 5, 1⟩
abbrev LNK_UNIT_LIVE_LATTICE : Fld := ⟨0x1430, 0, 8⟩
abbrev LNK_UNIT_LIVE_MASK : Fld := ⟨0x1430, 8, 32⟩
abbrev LNK_FW_WINDOW_MS : Fld := ⟨0x1480, 0, 16⟩
abbrev LNK_FW_LIMIT : Fld := ⟨0x1480, 16, 8⟩
abbrev LNK_STAT_STATE : Fld := ⟨0x1500, 0, 3⟩
abbrev LNK_STAT_LANES : Fld := ⟨0x1500, 4, 4⟩
abbrev LNK_STAT_PEER_NODE : Fld := ⟨0x1500, 8, 8⟩
abbrev LNK_STAT_PEER_LINK : Fld := ⟨0x1500, 16, 6⟩
abbrev LNK_STAT_TEST : Fld := ⟨0x1500, 22, 2⟩
abbrev LNK_STAT_REPLAYS : Fld := ⟨0x1500, 32, 16⟩
abbrev LNK_STAT_RETRAINS : Fld := ⟨0x1500, 48, 16⟩
abbrev LNK_CRD_HELD : Fld := ⟨0x1700, 0, 16⟩
abbrev LNK_CRD_INFLIGHT : Fld := ⟨0x1700, 16, 16⟩
abbrev LNK_CRD_PEER : Fld := ⟨0x1700, 32, 16⟩
abbrev LNK_CRD_GRANT : Fld := ⟨0x1700, 48, 10⟩
abbrev MEM_CTRL_SCRUB_H : Fld := ⟨0x1900, 0, 8⟩
abbrev MEM_CTRL_REBUILD_GBPS : Fld := ⟨0x1900, 16, 9⟩
abbrev MEM_CTRL_SPARE_EN : Fld := ⟨0x1900, 32, 1⟩
abbrev MEM_CMD_STACK : Fld := ⟨0x1908, 0, 4⟩
abbrev MEM_CMD_PCH : Fld := ⟨0x1908, 4, 6⟩
abbrev MEM_CMD_UNIT : Fld := ⟨0x1908, 10, 2⟩
abbrev MEM_CMD_OP : Fld := ⟨0x1908, 12, 2⟩
abbrev MEM_CMD_STATUS : Fld := ⟨0x1908, 16, 3⟩
abbrev MEM_LIVE_STACKS : Fld := ⟨0x1910, 0, 12⟩
abbrev MEM_LIVE_GANGS : Fld := ⟨0x1910, 12, 36⟩
abbrev MEM_EVT_SPARED : Fld := ⟨0x1918, 0, 1⟩
abbrev MEM_EVT_GANG_RETIRED : Fld := ⟨0x1918, 1, 1⟩
abbrev MEM_EVT_STACK_RETIRED : Fld := ⟨0x1918, 2, 1⟩
abbrev MEM_EVT_UE : Fld := ⟨0x1918, 3, 1⟩
abbrev MEM_EVT_SCRUB_UE : Fld := ⟨0x1918, 4, 1⟩
abbrev MEM_EVT_REBUILD_DONE : Fld := ⟨0x1918, 5, 1⟩
abbrev MEM_CNT_A_INNER_CE : Fld := ⟨0x1920, 0, 32⟩
abbrev MEM_CNT_A_OUTER_CE : Fld := ⟨0x1920, 32, 32⟩
abbrev MEM_CNT_B_REREAD : Fld := ⟨0x1928, 0, 32⟩
abbrev MEM_CNT_B_UE : Fld := ⟨0x1928, 32, 16⟩
abbrev MEM_CNT_B_SCRUB_UE : Fld := ⟨0x1928, 48, 16⟩
abbrev MEM_PCH_OUT : Fld := ⟨0x1980, 0, 64⟩
abbrev MEM_STK_GANG_UP : Fld := ⟨0x1A00, 0, 3⟩
abbrev MEM_STK_REBUILD : Fld := ⟨0x1A00, 3, 3⟩
abbrev MEM_STK_SPARES : Fld := ⟨0x1A00, 6, 4⟩
abbrev MEM_STK_RETIRED : Fld := ⟨0x1A00, 10, 1⟩
abbrev MEM_STK_REBUILD_LINE : Fld := ⟨0x1A00, 16, 32⟩
abbrev PWR_CTRL_MODE : Fld := ⟨0x1C00, 0, 1⟩
abbrev PWR_CTRL_FMAX_MHZ : Fld := ⟨0x1C00, 8, 11⟩
abbrev PWR_CTRL_DUTY_MIN : Fld := ⟨0x1C00, 32, 5⟩
abbrev PWR_CAP_CAP_W : Fld := ⟨0x1C08, 0, 10⟩
abbrev PWR_CAP_PEAK_W : Fld := ⟨0x1C08, 16, 10⟩
abbrev PWR_CAP_TAU_MS : Fld := ⟨0x1C08, 32, 10⟩
abbrev PWR_RAMP_A_PER_US : Fld := ⟨0x1C10, 0, 16⟩
abbrev PWR_RAMP_PIP_MA : Fld := ⟨0x1C10, 16, 10⟩
abbrev PWR_RAMP_SLOT : Fld := ⟨0x1C10, 32, 16⟩
abbrev PWR_DIV_MARGIN_W : Fld := ⟨0x1C18, 0, 9⟩
abbrev PWR_STAT_FREQ_MHZ : Fld := ⟨0x1C20, 0, 11⟩
abbrev PWR_STAT_DUTY : Fld := ⟨0x1C20, 11, 5⟩
abbrev PWR_STAT_SOURCE : Fld := ⟨0x1C20, 16, 2⟩
abbrev PWR_STAT_VOUT_MV : Fld := ⟨0x1C20, 32, 10⟩
abbrev PWR_WIN_E_W : Fld := ⟨0x1C28, 0, 10⟩
abbrev PWR_WIN_M_W : Fld := ⟨0x1C28, 16, 10⟩
abbrev PWR_WIN_P_W : Fld := ⟨0x1C28, 32, 10⟩
abbrev PWR_WIN_PT_W : Fld := ⟨0x1C28, 48, 10⟩
abbrev PWR_PD_ON : Fld := ⟨0x1C30, 0, 20⟩
abbrev PWR_EVT_DIVERGE : Fld := ⟨0x1C38, 0, 1⟩
abbrev PWR_EVT_MEAS_LOST : Fld := ⟨0x1C38, 1, 1⟩
abbrev PWR_EVT_THROTTLE : Fld := ⟨0x1C38, 2, 1⟩
abbrev PWR_EVT_PEAK : Fld := ⟨0x1C38, 3, 1⟩
abbrev PWR_EVT_AVS_ERR : Fld := ⟨0x1C38, 4, 1⟩
abbrev PWR_CNT_A_THROTTLE_MS : Fld := ⟨0x1C40, 0, 32⟩
abbrev PWR_CNT_A_AVS_ERR : Fld := ⟨0x1C40, 32, 32⟩
abbrev PWR_CNT_B_STRETCH : Fld := ⟨0x1C48, 0, 32⟩
abbrev PWR_CNT_B_DIV_MS : Fld := ⟨0x1C48, 32, 32⟩
abbrev PWR_VF_MV : Fld := ⟨0x1C50, 0, 60⟩
abbrev THM_LIMIT_WARN_C : Fld := ⟨0x1D00, 0, 8⟩
abbrev THM_LIMIT_THROTTLE_C : Fld := ⟨0x1D00, 8, 8⟩
abbrev THM_LIMIT_HYST_C : Fld := ⟨0x1D00, 16, 8⟩
abbrev THM_STAT_MAX_Q : Fld := ⟨0x1D08, 0, 10⟩
abbrev THM_STAT_MAX_SENSOR : Fld := ⟨0x1D08, 10, 7⟩
abbrev THM_STAT_WARN : Fld := ⟨0x1D08, 17, 1⟩
abbrev THM_STAT_THROTTLE : Fld := ⟨0x1D08, 18, 1⟩
abbrev THM_STAT_FAILED : Fld := ⟨0x1D08, 19, 7⟩
abbrev THM_EVT_WARN : Fld := ⟨0x1D10, 0, 1⟩
abbrev THM_EVT_THROTTLE : Fld := ⟨0x1D10, 1, 1⟩
abbrev THM_EVT_SENSOR_FAIL : Fld := ⟨0x1D10, 2, 1⟩
abbrev THM_EVT_CATTRIP : Fld := ⟨0x1D10, 3, 1⟩
abbrev THM_CNT_HOT_MS : Fld := ⟨0x1D18, 0, 32⟩
abbrev THM_CNT_SENSOR_FAIL : Fld := ⟨0x1D18, 32, 32⟩
abbrev THM_TRIP_TRIPPED : Fld := ⟨0x1D20, 0, 1⟩
abbrev THM_TRIP_SENSOR : Fld := ⟨0x1D20, 1, 7⟩
abbrev THM_TRIP_TEMP_Q : Fld := ⟨0x1D20, 8, 10⟩
abbrev THM_SENS_READ : Fld := ⟨0x1D40, 0, 64⟩
abbrev LIF_CTRL_CHECKPOINT_S : Fld := ⟨0x2000, 0, 16⟩
abbrev LIF_OUT_ADDR : Fld := ⟨0x2008, 0, 64⟩
abbrev LIF_CMD_OP : Fld := ⟨0x2010, 0, 2⟩
abbrev LIF_CMD_STATUS : Fld := ⟨0x2010, 4, 3⟩
abbrev LIF_ARG_BASE : Fld := ⟨0x2018, 0, 52⟩
abbrev LIF_CAL_OFFSET_US : Fld := ⟨0x2020, 0, 64⟩
abbrev LIF_CKPT_SEQ : Fld := ⟨0x2028, 0, 32⟩
abbrev LIF_CKPT_FRESH : Fld := ⟨0x2028, 32, 1⟩
abbrev LIF_ENERGY_JOULES : Fld := ⟨0x2030, 0, 64⟩
abbrev LIF_STARTS_ATTEMPTS : Fld := ⟨0x2038, 0, 24⟩
abbrev LIF_STARTS_STARTS : Fld := ⟨0x2038, 24, 24⟩
abbrev LIF_STARTS_SEEDS : Fld := ⟨0x2038, 48, 8⟩
abbrev LIF_STARTS_TRIPS : Fld := ⟨0x2038, 56, 8⟩
abbrev LIF_RETIRE_COMPUTE : Fld := ⟨0x2040, 0, 16⟩
abbrev LIF_RETIRE_LINK : Fld := ⟨0x2040, 16, 16⟩
abbrev LIF_RETIRE_MEMORY : Fld := ⟨0x2040, 32, 16⟩
abbrev LIF_RETIRE_RELEASES : Fld := ⟨0x2040, 48, 16⟩
abbrev LIF_STK_WRITE_TIB : Fld := ⟨0x2080, 0, 32⟩
abbrev LIF_STK_HOT_H : Fld := ⟨0x2080, 32, 32⟩
abbrev LIF_OE_HOURS : Fld := ⟨0x20E0, 0, 32⟩
abbrev LIF_OE_EVENTS : Fld := ⟨0x20E0, 32, 32⟩
end F

/-- Registers of space 4, part 0. -/
def regTab0 : List RDesc := [
  ⟨0x0000, 1, none, none, [fd 0 16 .ro, fd 16 16 .ro, fd 32 8 .ro, fd 40 3 .ro (img := true), fd 43 1 .ro (img := true), fd 44 7 .ro (img := true), fr 51 13]⟩,
  ⟨0x0008, 1, none, (some 25), [fd 0 2 .rwi, fr 2 2, fd 4 3 .ro, fr 7 57]⟩,
  ⟨0x0010, 1, none, (some 25), [fd 0 64 .rw]⟩,
  ⟨0x0018, 1, none, (some 25), [fd 0 29 .rw, fr 29 3, fd 32 4 .rw, fr 36 4, fd 40 8 .rw, fr 48 16]⟩,
  ⟨0x0020, 1, none, none, [fd 0 4 .ro, fd 4 8 .ro, fd 12 4 .ro, fd 16 1 .ro, fd 17 1 .ro, fr 18 6, fd 24 8 .ro, fd 32 32 .ro]⟩,
  ⟨0x0028, 1, none, none, [fd 0 48 .ro, fd 48 4 .ro, fd 52 6 .ro, fr 58 6]⟩,
  ⟨0x0030, 1, none, none, [fd 0 64 .ro]⟩,
  ⟨0x0038, 1, none, none, [fd 0 32 .ro (img := true), fd 32 6 .ro (img := true), fd 38 2 .ro (img := true), fr 40 24]⟩,
  ⟨0x0040, 1, none, none, [fd 0 64 .ro]⟩,
  ⟨0x0048, 1, none, none, [fd 0 3 .ro, fr 3 5, fd 8 8 .ro, fr 16 48]⟩,
  ⟨0x0050, 1, none, none, [fd 0 10 .rwt (img := true), fr 10 6, fd 16 13 .rwt (img := true), fr 29 3, fd 32 10 .rwt (img := true), fr 42 22]⟩,
  ⟨0x0058, 1, none, none, [fd 0 64 .rw (counter := true)]⟩,
  ⟨0x0060, 1, none, none, [fd 0 64 .rw (counter := true)]⟩,
  ⟨0x0068, 1, none, none, [fd 0 52 .ro (img := true), fd 52 6 .ro (img := true), fr 58 6]⟩,
  ⟨0x0070, 1, none, none, [fd 0 64 .ro]⟩,
  ⟨0x0078, 1, none, none, [fd 0 1 .w1c, fd 1 1 .w1c, fd 2 1 .w1c, fd 3 1 .w1c, fd 4 1 .w1c, fd 5 1 .w1c, fr 6 58]⟩,
  ⟨0x0100, 1, (some 0), none, [fd 0 1 .rwg (img := true), fd 1 1 .ro, fd 2 1 .ro (img := true), fr 3 61]⟩,
  ⟨0x0108, 1, (some 0), none, [fd 0 17 .rwg (img := true), fr 17 15, fd 32 8 .rwg (img := true), fr 40 24]⟩,
  ⟨0x0110, 1, (some 0), none, [fd 0 14 .rwg (img := true), fr 14 2, fd 16 14 .rwg (img := true), fr 30 34]⟩,
  ⟨0x0118, 1, (some 0), none, [fd 0 10 .rwg (img := true), fd 10 10 .rwg (img := true), fd 20 10 .rwg (img := true), fd 30 10 .rwg (img := true), fr 40 24]⟩,
  ⟨0x0120, 1, none, none, [fd 0 10 .rwt, fr 10 6, fd 16 10 .rwt, fr 26 38]⟩,
  ⟨0x0128, 1, none, none, [fd 0 64 .ro]⟩,
  ⟨0x0130, 1, none, none, [fd 0 1 .w1c, fd 1 1 .w1c, fd 2 1 .w1c, fd 3 1 .w1c, fd 4 1 .w1c, fd 5 1 .w1c, fr 6 58]⟩,
  ⟨0x0138, 1, none, none, [fd 0 32 .ro, fd 32 32 .ro]⟩,
  ⟨0x0140, 1, none, none, [fd 0 32 .ro, fd 32 32 .ro]⟩,
  ⟨0x0148, 1, none, none, [fd 0 32 .ro, fd 32 32 .ro]⟩,
  ⟨0x0150, 1, none, none, [fd 0 7 .ro, fr 7 1, fd 8 7 .ro, fr 15 1, fd 16 7 .ro, fr 23 1, fd 24 7 .ro, fr 31 1, fd 32 7 .ro, fr 39 1, fd 40 7 .ro, fr 47 17]⟩,
  ⟨0x0158, 1, (some 0), none, [fd 0 52 .rwg (img := true), fr 52 12]⟩,
  ⟨0x0160, 1, none, none, [fd 0 4 .rwt (img := true), fr 4 60]⟩,
  ⟨0x0168, 1, none, (some 22), [fd 0 3 .rw, fr 3 1, fd 4 2 .rw (bad := [(2, 3)]), fr 6 2, fd 8 3 .ro, fr 11 53]⟩]

/-- Registers of space 4, part 1. -/
def regTab1 : List RDesc := [
  ⟨0x0170, 8, none, none, [fd 0 2 .ro, fr 2 6, fd 8 8 .ro, fd 16 16 .ro, fd 32 16 .ro, fd 48 16 .ro]⟩,
  ⟨0x01B0, 1, none, none, [fd 0 8 .w1c, fd 8 8 .w1c, fd 16 8 .w1c, fr 24 40]⟩,
  ⟨0x01B8, 1, none, none, [fd 0 32 .ro, fr 32 32]⟩,
  ⟨0x0200, 1, none, none, [fd 0 1 .rw (img := true), fr 1 3, fd 4 4 .ro, fd 8 16 .rwt (img := true), fr 24 40]⟩,
  ⟨0x0208, 1, (some 1), none, [fd 0 52 .rwg (img := true), fd 52 6 .rwg (img := true), fr 58 6]⟩,
  ⟨0x0210, 1, (some 1), none, [fd 0 52 .rwg (img := true), fr 52 12]⟩,
  ⟨0x0218, 1, (some 1), none, [fd 0 52 .rwg (img := true), fd 52 6 .rwg (img := true), fr 58 6]⟩,
  ⟨0x0220, 1, none, none, [fd 0 64 .rw (counter := true)]⟩,
  ⟨0x0228, 1, none, none, [fd 0 64 .ro]⟩,
  ⟨0x0230, 1, none, none, [fd 0 64 .rw (counter := true)]⟩,
  ⟨0x0238, 1, none, none, [fd 0 64 .ro]⟩,
  ⟨0x0240, 1, none, none, [fd 0 17 .ro, fd 17 17 .ro, fd 34 17 .ro, fr 51 13]⟩,
  ⟨0x0248, 1, none, none, [fd 0 32 .ro, fd 32 32 .ro]⟩,
  ⟨0x0250, 1, none, none, [fd 0 32 .ro, fd 32 32 .ro]⟩,
  ⟨0x0300, 1, (some 2), none, [fd 0 2 .rwg (img := true), fr 2 62]⟩,
  ⟨0x0308, 1, (some 2), none, [fd 0 52 .rwg (img := true), fr 52 12]⟩,
  ⟨0x0310, 1, (some 2), none, [fd 0 52 .rwg (img := true), fr 52 12]⟩,
  ⟨0x0318, 1, (some 2), none, [fd 0 28 .rwg (img := true), fr 28 36]⟩,
  ⟨0x0320, 1, (some 2), none, [fd 0 52 .rwg (img := true), fr 52 12]⟩,
  ⟨0x0328, 1, none, none, [fd 0 32 .rwt (img := true), fd 32 32 .rwt (img := true)]⟩,
  ⟨0x0330, 1, none, (some 16), [fd 0 27 .rw, fr 27 5, fd 32 2 .rw (bad := [(3, 3)]), fr 34 2, fd 36 3 .ro, fr 39 25]⟩,
  ⟨0x0338, 1, none, none, [fd 0 32 .ro, fd 32 32 .ro]⟩,
  ⟨0x0340, 1, (some 3), none, [fd 0 1 .rwg (img := true), fr 1 7, fd 8 8 .rwg (img := true), fd 16 5 .rwg (img := true), fr 21 43]⟩,
  ⟨0x0348, 1, (some 3), none, [fd 0 52 .rwg (img := true), fr 52 12]⟩,
  ⟨0x0350, 1, (some 3), none, [fd 0 52 .rwg (img := true), fr 52 12]⟩,
  ⟨0x0358, 1, none, none, [fd 0 32 .ro, fd 32 32 .ro]⟩,
  ⟨0x0360, 1, none, none, [fd 0 32 .ro, fd 32 32 .ro]⟩,
  ⟨0x0368, 1, (some 2), none, [fd 0 52 .rwg (img := true), fr 52 12]⟩,
  ⟨0x0370, 1, (some 2), none, [fd 0 32 .rwg (img := true), fd 32 32 .ro]⟩,
  ⟨0x0380, 1, none, none, [fd 0 28 .ro, fr 28 4, fd 32 28 .ro, fr 60 4]⟩]

/-- Registers of space 4, part 2. -/
def regTab2 : List RDesc := [
  ⟨0x0388, 1, none, none, [fd 0 28 .ro, fr 28 4, fd 32 28 .ro, fr 60 4]⟩,
  ⟨0x0390, 1, none, none, [fd 0 28 .ro, fr 28 4, fd 32 28 .ro, fr 60 4]⟩,
  ⟨0x0398, 1, none, none, [fd 0 64 .ro]⟩,
  ⟨0x03A0, 1, none, none, [fd 0 64 .ro]⟩,
  ⟨0x03A8, 1, none, none, [fd 0 17 .ro, fr 17 15, fd 32 17 .ro, fr 49 15]⟩,
  ⟨0x03B0, 1, none, none, [fd 0 1 .w1c, fd 1 1 .w1c, fd 2 1 .w1c, fd 3 1 .w1c, fd 4 1 .w1c, fd 5 1 .ro, fr 6 2, fd 8 16 .ro, fr 24 8, fd 32 32 .ro]⟩,
  ⟨0x0400, 1, (some 4), none, [fd 0 52 .rwg (img := true), fr 52 12]⟩,
  ⟨0x0408, 1, (some 4), none, [fd 0 52 .rwg (img := true), fr 52 12]⟩,
  ⟨0x0410, 1, (some 4), none, [fd 0 52 .rwg (img := true), fr 52 12]⟩,
  ⟨0x0418, 1, (some 4), none, [fd 0 32 .rwg (img := true), fd 32 32 .ro]⟩,
  ⟨0x0420, 1, (some 4), none, [fd 0 64 .rwg (img := true)]⟩,
  ⟨0x0428, 1, (some 4), none, [fd 0 5 .rwg (img := true), fr 5 59]⟩,
  ⟨0x0430, 1, (some 4), none, [fd 0 64 .rwg (img := true)]⟩,
  ⟨0x0438, 1, none, none, [fd 0 64 .rw (counter := true)]⟩,
  ⟨0x0440, 1, none, none, [fd 0 5 .rw, fr 5 3, fd 8 2 .rwi (bad := [(3, 3)]), fr 10 2, fd 12 3 .ro, fr 15 49]⟩,
  ⟨0x0448, 1, none, none, [fd 0 52 .rw, fr 52 12]⟩,
  ⟨0x0450, 1, none, none, [fd 0 32 .ro (img := true), fr 32 32]⟩,
  ⟨0x0458, 1, none, none, [fd 0 32 .ro, fd 32 32 .ro]⟩,
  ⟨0x0460, 1, none, none, [fd 0 32 .ro, fd 32 32 .ro]⟩,
  ⟨0x0468, 1, none, none, [fd 0 32 .ro, fr 32 32]⟩,
  ⟨0x0480, 32, none, none, [fd 0 32 .ro (img := true), fd 32 2 .ro (img := true), fd 34 2 .ro (img := true), fd 36 19 .ro (img := true), fr 55 9]⟩,
  ⟨0x0600, 1, none, none, [fd 0 16 .rw, fd 16 2 .rwi (bad := [(3, 3)]), fr 18 2, fd 20 3 .ro, fr 23 41]⟩,
  ⟨0x0608, 1, none, none, [fd 0 52 .rw, fr 52 12]⟩,
  ⟨0x0610, 1, none, none, [fd 0 13 .ro (img := true), fr 13 51]⟩,
  ⟨0x0618, 1, (some 5), none, [fd 0 52 .rwg (img := true), fr 52 12]⟩,
  ⟨0x0620, 1, none, none, [fd 0 1 .w1c, fd 1 1 .w1c, fr 2 62]⟩,
  ⟨0x0628, 1, none, none, [fd 0 32 .ro, fd 32 32 .ro]⟩,
  ⟨0x0630, 1, none, none, [fd 0 32 .ro, fd 32 32 .ro]⟩,
  ⟨0x0638, 1, none, none, [fd 0 32 .ro, fd 32 32 .ro]⟩,
  ⟨0x0640, 1, none, none, [fd 0 32 .ro, fr 32 32]⟩]

/-- Registers of space 4, part 3. -/
def regTab3 : List RDesc := [
  ⟨0x0680, 1, none, none, [fd 0 16 .rw, fd 16 2 .rwi (bad := [(3, 3)]), fr 18 2, fd 20 3 .ro, fr 23 41]⟩,
  ⟨0x0688, 1, none, none, [fd 0 52 .rw, fr 52 12]⟩,
  ⟨0x0690, 1, none, none, [fd 0 13 .ro (img := true), fr 13 51]⟩,
  ⟨0x0698, 1, none, none, [fd 0 32 .ro, fd 32 32 .ro]⟩,
  ⟨0x0700, 1, (some 6), none, [fd 0 1 .rwg (img := true), fr 1 7, fd 8 8 .rwt (img := true), fd 16 3 .rwt (img := true), fr 19 45]⟩,
  ⟨0x0708, 1, (some 6), none, [fd 0 30 .rwg (img := true), fr 30 34]⟩,
  ⟨0x0710, 1, (some 6), none, [fd 0 30 .rwg (img := true), fr 30 34]⟩,
  ⟨0x0718, 1, (some 6), none, [fd 0 30 .rwg (img := true), fr 30 34]⟩,
  ⟨0x0720, 1, (some 6), none, [fd 0 17 .rwg (img := true), fd 17 17 .rwg (img := true), fd 34 17 .rwg (img := true), fr 51 13]⟩,
  ⟨0x0728, 1, (some 6), none, [fd 0 52 .rwg (img := true), fr 52 12]⟩,
  ⟨0x0730, 1, (some 6), none, [fd 0 52 .rwg (img := true), fr 52 12]⟩,
  ⟨0x0738, 1, (some 6), none, [fd 0 52 .rwg (img := true), fr 52 12]⟩,
  ⟨0x0740, 1, (some 6), none, [fd 0 52 .rwg (img := true), fr 52 12]⟩,
  ⟨0x0748, 1, (some 6), none, [fd 0 24 .rwg (img := true), fd 24 24 .ro, fr 48 16]⟩,
  ⟨0x0750, 1, none, none, [fd 0 15 .ro, fr 15 1, fd 16 15 .ro, fr 31 33]⟩,
  ⟨0x0758, 1, none, none, [fd 0 32 .ro, fd 32 32 .ro]⟩,
  ⟨0x0760, 1, none, none, [fd 0 32 .ro, fd 32 32 .ro]⟩,
  ⟨0x0768, 1, none, none, [fd 0 32 .ro, fd 32 32 .ro]⟩,
  ⟨0x0800, 1, (some 7), none, [fd 0 1 .rwt (img := true), fr 1 7, fd 8 6 .rwg (img := true), fr 14 50]⟩,
  ⟨0x0808, 1, none, none, [fd 0 1 .w1c, fd 1 1 .w1c, fd 2 1 .w1c, fd 3 1 .w1c, fd 4 1 .w1c, fr 5 59]⟩,
  ⟨0x0810, 1, none, none, [fd 0 32 .ro, fd 32 32 .ro]⟩,
  ⟨0x0818, 1, none, none, [fd 0 32 .ro, fd 32 32 .ro]⟩,
  ⟨0x0820, 1, none, (some 17), [fd 0 6 .rw, fr 6 2, fd 8 5 .rw, fr 13 3, fd 16 2 .rw (bad := [(3, 3)]), fr 18 2, fd 20 3 .ro, fr 23 41]⟩,
  ⟨0x0828, 1, none, none, [fd 0 12 .ro, fr 12 52]⟩,
  ⟨0x0900, 32, none, none, [fd 0 32 .ro (keep := true), fd 32 32 .ro (keep := true)]⟩,
  ⟨0x0A00, 1, none, none, [fd 0 7 .rwt (img := true), fr 7 57]⟩,
  ⟨0x0A08, 1, none, none, [fd 0 32 .ro, fd 32 32 .ro]⟩,
  ⟨0x0B00, 1, (some 8), none, [fd 0 13 .rwg (img := true), fr 13 3, fd 16 4 .rwt (img := true), fr 20 12, fd 32 14 .rwg (img := true), fr 46 18]⟩,
  ⟨0x0B08, 1, (some 8), none, [fd 0 52 .rwg (img := true), fr 52 12]⟩,
  ⟨0x0B10, 1, (some 8), none, [fd 0 52 .rwg (img := true), fr 52 12]⟩]

/-- Registers of space 4, part 4. -/
def regTab4 : List RDesc := [
  ⟨0x0B18, 1, (some 8), none, [fd 0 24 .rwg (img := true), fr 24 8, fd 32 24 .ro, fr 56 8]⟩,
  ⟨0x0B20, 1, (some 8), none, [fd 0 52 .rwg (img := true), fr 52 12]⟩,
  ⟨0x0B28, 1, (some 8), none, [fd 0 24 .rwg (img := true), fr 24 8, fd 32 24 .ro, fr 56 8]⟩,
  ⟨0x0B30, 1, none, none, [fd 0 14 .rwt (img := true), fr 14 2, fd 16 10 .rwt (img := true), fr 26 38]⟩,
  ⟨0x0B38, 1, none, (some 18), [fd 0 13 .rw, fr 13 3, fd 16 3 .rwi (bad := [(6, 7)]), fr 19 1, fd 20 3 .ro, fr 23 41]⟩,
  ⟨0x0B40, 1, none, (some 18), [fd 0 52 .rw, fr 52 12]⟩,
  ⟨0x0B48, 1, (some 8), none, [fd 0 52 .rwg (img := true), fr 52 12]⟩,
  ⟨0x0B50, 1, none, (some 18), [fd 0 18 .rw, fd 18 2 .rwi, fd 20 3 .ro, fr 23 41]⟩,
  ⟨0x0B58, 1, none, none, [fd 0 14 .ro, fr 14 2, fd 16 14 .ro, fr 30 2, fd 32 14 .ro, fr 46 2, fr 48 11, fr 59 5]⟩,
  ⟨0x0B60, 1, none, none, [fd 0 13 .ro, fr 13 51]⟩,
  ⟨0x0B68, 1, none, none, [fd 0 32 .ro, fd 32 32 .ro]⟩,
  ⟨0x0B70, 1, none, none, [fd 0 32 .ro, fd 32 32 .ro]⟩,
  ⟨0x0B78, 1, none, none, [fd 0 22 .ro, fd 22 21 .ro, fd 43 21 .ro]⟩,
  ⟨0x0C00, 1, none, (some 19), [fd 0 8 .rw, fd 8 2 .rwi, fr 10 2, fd 12 3 .ro, fr 15 49]⟩,
  ⟨0x0C08, 1, none, (some 19), [fd 0 52 .rw, fr 52 12]⟩,
  ⟨0x0C10, 1, none, none, [fd 0 8 .ro (img := true), fr 8 8, fd 16 9 .ro, fr 25 39]⟩,
  ⟨0x0C18, 1, none, none, [fd 0 32 .ro (keep := true), fr 32 32]⟩,
  ⟨0x0C20, 1, none, none, [fd 0 1 .w1c, fd 1 1 .w1c, fd 2 1 .w1c, fr 3 61]⟩,
  ⟨0x0C28, 1, none, none, [fd 0 32 .ro, fd 32 32 .ro]⟩,
  ⟨0x0C30, 1, none, none, [fd 0 64 .ro]⟩,
  ⟨0x0C38, 1, none, none, [fd 0 32 .ro, fd 32 32 .ro]⟩,
  ⟨0x0D00, 1, none, (some 20), [fd 0 10 .rw, fr 10 2, fd 12 2 .rwi, fr 14 2, fd 16 3 .ro, fr 19 45]⟩,
  ⟨0x0D08, 1, none, (some 20), [fd 0 52 .rw, fr 52 12]⟩,
  ⟨0x0D10, 1, none, none, [fd 0 10 .ro (img := true), fr 10 6, fd 16 16 .ro (keep := true), fr 32 32]⟩,
  ⟨0x0D18, 1, none, none, [fd 0 1 .w1c, fd 1 1 .w1c, fr 2 62]⟩,
  ⟨0x0D20, 1, none, none, [fd 0 32 .ro, fd 32 32 .ro]⟩,
  ⟨0x0D28, 1, none, none, [fd 0 64 .ro]⟩,
  ⟨0x0E00, 1, (some 9), none, [fd 0 52 .rwg (img := true), fr 52 12]⟩,
  ⟨0x0E08, 1, none, (some 21), [fd 0 12 .rw, fd 12 2 .rwi (bad := [(3, 3)]), fr 14 2, fd 16 3 .ro, fr 19 45]⟩,
  ⟨0x0E10, 1, none, (some 21), [fd 0 52 .rw, fr 52 12]⟩]

/-- Registers of space 4, part 5. -/
def regTab5 : List RDesc := [
  ⟨0x0E18, 1, (some 9), none, [fd 0 64 .rwg (img := true)]⟩,
  ⟨0x0E20, 1, (some 9), none, [fd 0 5 .rwg (img := true), fr 5 59]⟩,
  ⟨0x0E28, 1, none, none, [fd 0 64 .ro]⟩,
  ⟨0x0E30, 1, none, none, [fd 0 64 .rw (counter := true)]⟩,
  ⟨0x0E38, 1, (some 9), none, [fd 0 64 .rwg (img := true)]⟩,
  ⟨0x0E40, 1, (some 9), none, [fd 0 52 .rwg (img := true), fr 52 12]⟩,
  ⟨0x0E48, 1, (some 9), none, [fd 0 6 .rwg (img := true), fr 6 58]⟩,
  ⟨0x0E50, 1, (some 9), none, [fd 0 52 .rwg (img := true), fr 52 12]⟩,
  ⟨0x0E58, 1, (some 9), none, [fd 0 52 .rwg (img := true), fr 52 12]⟩,
  ⟨0x0E60, 1, none, none, [fd 0 1 .w1c, fd 1 1 .w1c, fd 2 1 .w1c, fd 3 1 .w1c, fr 4 60]⟩,
  ⟨0x0E68, 1, none, none, [fd 0 32 .ro, fd 32 32 .ro]⟩,
  ⟨0x0E70, 1, none, none, [fd 0 32 .ro, fd 32 32 .ro]⟩,
  ⟨0x0E78, 1, none, none, [fd 0 32 .ro, fd 32 32 .ro]⟩,
  ⟨0x0E80, 1, none, none, [fd 0 32 .ro, fd 32 32 .ro]⟩,
  ⟨0x0E88, 1, none, none, [fd 0 32 .ro, fd 32 32 .ro]⟩,
  ⟨0x0E90, 1, none, none, [fd 0 32 .ro, fd 32 32 .ro]⟩,
  ⟨0x0E98, 1, none, none, [fd 0 13 .ro, fr 13 51]⟩,
  ⟨0x0F00, 1, none, none, [fd 0 8 .ro (img := true), fd 8 8 .ro (img := true), fd 16 4 .ro (img := true), fr 20 44]⟩,
  ⟨0x0F08, 1, (some 10), none, [fd 0 52 .rwg (img := true), fr 52 12]⟩,
  ⟨0x0F10, 1, none, none, [fd 0 14 .rwt (img := true), fr 14 50]⟩,
  ⟨0x0F18, 1, none, none, [fd 0 40 .ro (img := true), fr 40 24]⟩,
  ⟨0x0F20, 1, none, none, [fr 0 1, fd 1 11 .w1c, fr 12 52]⟩,
  ⟨0x0F28, 1, none, none, [fd 0 32 .ro, fd 32 32 .ro]⟩,
  ⟨0x0F30, 1, none, none, [fd 0 32 .ro, fd 32 32 .ro]⟩,
  ⟨0x1000, 1, none, none, [fd 0 1 .ro, fr 1 63]⟩,
  ⟨0x1008, 1, none, none, [fd 0 5 .rw (bad := [(16, 31)]), fr 5 3, fd 8 2 .rw (bad := [(3, 3)]), fr 10 54]⟩,
  ⟨0x1010, 1, none, none, [fd 0 5 .ro, fr 5 3, fd 8 8 .ro, fd 16 16 .ro, fd 32 32 .ro]⟩,
  ⟨0x1018, 1, none, none, [fd 0 16 .ro, fr 16 48]⟩,
  ⟨0x1020, 1, none, none, [fd 0 20 .w1c, fr 20 44]⟩,
  ⟨0x1028, 1, none, none, [fd 0 20 .w1c, fr 20 44]⟩]

/-- Registers of space 4, part 6. -/
def regTab6 : List RDesc := [
  ⟨0x1030, 1, none, none, [fd 0 20 .rw, fr 20 44]⟩,
  ⟨0x1038, 1, none, none, [fd 0 20 .rw, fr 20 44]⟩,
  ⟨0x1040, 1, (some 15), none, [fd 0 64 .rwg (img := true)]⟩,
  ⟨0x1048, 1, (some 15), none, [fd 0 5 .rwg (img := true), fr 5 59]⟩,
  ⟨0x1050, 1, (some 15), none, [fd 0 64 .rwg (img := true)]⟩,
  ⟨0x1058, 1, none, none, [fd 0 64 .ro]⟩,
  ⟨0x1060, 1, none, none, [fd 0 64 .rw (counter := true)]⟩,
  ⟨0x1068, 1, none, none, [fd 0 32 .ro, fd 32 32 .ro]⟩,
  ⟨0x1070, 1, none, none, [fd 0 8 .ro, fd 8 8 .ro, fr 16 48]⟩,
  ⟨0x1080, 8, none, none, [fd 0 16 .ro, fd 16 16 .ro, fd 32 16 .ro, fd 48 16 .ro]⟩,
  ⟨0x1100, 32, none, none, [fd 0 2 .rw, fr 2 2, fd 4 20 .rw, fd 24 2 .ro, fr 26 6, fd 32 32 .ro]⟩,
  ⟨0x1200, 1, none, none, [fd 0 32 .ro, fd 32 32 .ro]⟩,
  ⟨0x1208, 1, none, none, [fd 0 32 .ro, fd 32 32 .ro]⟩,
  ⟨0x1400, 1, (some 11), none, [fd 0 10 .rwg (img := true), fd 10 10 .rwg (img := true), fd 20 1 .rwg (img := true), fr 21 3, fd 24 7 .rwt (img := true), fr 31 1, fd 32 4 .rwt (img := true), fr 36 4, fd 40 24 .rwt (img := true)]⟩,
  ⟨0x1408, 1, none, (some 23), [fd 0 6 .rw, fd 6 2 .rw, fd 8 3 .rw (bad := [(5, 7)]), fr 11 5, fd 16 2 .rwi (bad := [(3, 3)]), fr 18 2, fd 20 3 .ro, fr 23 41]⟩,
  ⟨0x1410, 1, none, none, [fd 0 64 .ro]⟩,
  ⟨0x1418, 1, none, none, [fd 0 64 .ro (keep := true)]⟩,
  ⟨0x1420, 1, none, none, [fd 0 64 .ro]⟩,
  ⟨0x1428, 1, none, none, [fd 0 1 .w1c, fd 1 1 .w1c, fd 2 1 .w1c, fd 3 1 .w1c, fd 4 1 .w1c, fd 5 1 .w1c, fr 6 58]⟩,
  ⟨0x1430, 1, none, none, [fd 0 8 .ro (keep := true), fd 8 32 .ro (keep := true), fr 40 24]⟩,
  ⟨0x1480, 11, none, none, [fd 0 16 .rwt (img := true), fd 16 8 .rwt (img := true), fr 24 40]⟩,
  ⟨0x1500, 64, none, none, [fd 0 3 .ro (img := true), fr 3 1, fd 4 4 .ro (img := true), fd 8 8 .ro, fd 16 6 .ro, fd 22 2 .ro, fr 24 8, fd 32 16 .ro, fd 48 16 .ro]⟩,
  ⟨0x1700, 64, none, none, [fd 0 16 .ro, fd 16 16 .ro, fd 32 16 .ro, fd 48 10 .ro, fr 58 6]⟩,
  ⟨0x1900, 1, (some 12), none, [fd 0 8 .rwg (img := true), fr 8 8, fd 16 9 .rwg (img := true), fr 25 7, fd 32 1 .rwg (img := true), fr 33 31]⟩,
  ⟨0x1908, 1, none, (some 23), [fd 0 4 .rw, fd 4 6 .rw, fd 10 2 .rw (bad := [(2, 3)]), fd 12 2 .rwi (bad := [(3, 3)]), fr 14 2, fd 16 3 .ro, fr 19 45]⟩,
  ⟨0x1910, 1, none, none, [fd 0 12 .ro (keep := true), fd 12 36 .ro (keep := true), fr 48 16]⟩,
  ⟨0x1918, 1, none, none, [fd 0 1 .w1c, fd 1 1 .w1c, fd 2 1 .w1c, fd 3 1 .w1c, fd 4 1 .w1c, fd 5 1 .w1c, fr 6 58]⟩,
  ⟨0x1920, 1, none, none, [fd 0 32 .ro, fd 32 32 .ro]⟩,
  ⟨0x1928, 1, none, none, [fd 0 32 .ro, fd 32 16 .ro, fd 48 16 .ro]⟩,
  ⟨0x1980, 12, none, none, [fd 0 64 .ro (keep := true)]⟩]

/-- Registers of space 4, part 7. -/
def regTab7 : List RDesc := [
  ⟨0x1A00, 12, none, none, [fd 0 3 .ro (keep := true), fd 3 3 .ro, fd 6 4 .ro (keep := true), fd 10 1 .ro (keep := true), fr 11 5, fd 16 32 .ro, fr 48 16]⟩,
  ⟨0x1C00, 1, (some 13), none, [fd 0 1 .rwg (img := true), fr 1 7, fd 8 11 .rwg (img := true), fr 19 13, fd 32 5 .rwg (img := true), fr 37 27]⟩,
  ⟨0x1C08, 1, (some 13), none, [fd 0 10 .rwg (img := true), fr 10 6, fd 16 10 .rwg (img := true), fr 26 6, fd 32 10 .rwg (img := true), fr 42 22]⟩,
  ⟨0x1C10, 1, (some 13), none, [fd 0 16 .rwg (img := true), fd 16 10 .rwg (img := true), fr 26 6, fd 32 16 .ro, fr 48 16]⟩,
  ⟨0x1C18, 1, (some 13), none, [fd 0 9 .rwg (img := true), fr 9 55]⟩,
  ⟨0x1C20, 1, none, none, [fd 0 11 .ro, fd 11 5 .ro, fd 16 2 .ro, fr 18 14, fd 32 10 .ro, fr 42 22]⟩,
  ⟨0x1C28, 1, none, none, [fd 0 10 .ro, fr 10 6, fd 16 10 .ro, fr 26 6, fd 32 10 .ro, fr 42 6, fd 48 10 .ro, fr 58 6]⟩,
  ⟨0x1C30, 1, none, none, [fd 0 20 .ro, fr 20 44]⟩,
  ⟨0x1C38, 1, none, none, [fd 0 1 .w1c, fd 1 1 .w1c, fd 2 1 .w1c, fd 3 1 .w1c, fd 4 1 .w1c, fr 5 59]⟩,
  ⟨0x1C40, 1, none, none, [fd 0 32 .ro, fd 32 32 .ro]⟩,
  ⟨0x1C48, 1, none, none, [fd 0 32 .ro, fd 32 32 .ro]⟩,
  ⟨0x1C50, 1, none, none, [fd 0 60 .ro (img := true), fr 60 4]⟩,
  ⟨0x1D00, 1, (some 14), none, [fd 0 8 .rwg (img := true), fd 8 8 .rwg (img := true), fd 16 8 .rwg (img := true), fr 24 40]⟩,
  ⟨0x1D08, 1, none, none, [fd 0 10 .ro, fd 10 7 .ro, fd 17 1 .ro, fd 18 1 .ro, fd 19 7 .ro, fr 26 38]⟩,
  ⟨0x1D10, 1, none, none, [fd 0 1 .w1c, fd 1 1 .w1c, fd 2 1 .w1c, fd 3 1 .w1c, fr 4 60]⟩,
  ⟨0x1D18, 1, none, none, [fd 0 32 .ro, fd 32 32 .ro]⟩,
  ⟨0x1D20, 1, none, none, [fd 0 1 .ro (keep := true), fd 1 7 .ro (keep := true), fd 8 10 .ro (keep := true), fr 18 46]⟩,
  ⟨0x1D40, 24, none, none, [fd 0 64 .ro]⟩,
  ⟨0x2000, 1, none, none, [fd 0 16 .rwt (img := true), fr 16 48]⟩,
  ⟨0x2008, 1, none, none, [fd 0 64 .rwt (img := true)]⟩,
  ⟨0x2010, 1, none, (some 25), [fd 0 2 .rwi (bad := [(2, 3)]), fr 2 2, fd 4 3 .ro, fr 7 57]⟩,
  ⟨0x2018, 1, none, (some 25), [fd 0 52 .rw, fr 52 12]⟩,
  ⟨0x2020, 1, none, none, [fd 0 64 .ro]⟩,
  ⟨0x2028, 1, none, none, [fd 0 32 .ro, fd 32 1 .ro, fr 33 31]⟩,
  ⟨0x2030, 1, none, none, [fd 0 64 .ro]⟩,
  ⟨0x2038, 1, none, none, [fd 0 24 .ro, fd 24 24 .ro, fd 48 8 .ro, fd 56 8 .ro]⟩,
  ⟨0x2040, 1, none, none, [fd 0 16 .ro, fd 16 16 .ro, fd 32 16 .ro, fd 48 16 .ro]⟩,
  ⟨0x2080, 12, none, none, [fd 0 32 .ro, fd 32 32 .ro]⟩,
  ⟨0x20E0, 8, none, none, [fd 0 32 .ro, fd 32 32 .ro]⟩]

/-- Every register of space 4 (R518), by ascending offset. -/
def regTable : List RDesc := regTab0 ++ regTab1 ++ regTab2 ++ regTab3 ++ regTab4 ++ regTab5 ++ regTab6 ++ regTab7

end Sys2Proof.Machine
end

