-- ==== Sys2Proof/Machine/Ops.lean ====
section
/-! DEFINITION. The named operations every meaning is built from: tables, byte memories, CRC-32, register
fields, counters, events, reports, and the writes the block's own agents make. -/
namespace Sys2Proof.Machine
open Sys2Proof

/-- What a key of a sparse table holds. -/
def tget {α : Type} : Tbl α → Nat → Option α
  | [], _ => none
  | (k, v) :: r, i => if k = i then some v else tget r i

/-- What a key holds, or a default. -/
def tgetD {α : Type} (t : Tbl α) (i : Nat) (d : α) : α := (tget t i).getD d

/-- A sparse table with one key set, keys kept rising. -/
def tset {α : Type} : Tbl α → Nat → α → Tbl α
  | [], i, x => [(i, x)]
  | (k, v) :: r, i, x => if i < k then (i, x) :: (k, v) :: r else if i = k then (i, x) :: r else (k, v) :: tset r i x

/-- A sparse table with one key removed. -/
def tdel {α : Type} (t : Tbl α) (i : Nat) : Tbl α := t.filter (fun e => e.1 != i)

/-- One byte of a memory; an unlisted address reads 0 (log 4). -/
def mrd : Memory → Nat → Byte
  | [], _ => 0
  | (k, v) :: r, a => if k = a then v else mrd r a

/-- One byte written, the canonical form kept. -/
def mwr : Memory → Nat → Byte → Memory
  | [], a, x => if x = 0 then [] else [(a, x)]
  | (k, v) :: r, a, x =>
    if a < k then (if x = 0 then (k, v) :: r else (a, x) :: (k, v) :: r)
    else if a = k then (if x = 0 then r else (a, x) :: r)
    else (k, v) :: mwr r a x

/-- n bytes from an address. -/
def mrdN (m : Memory) (a n : Nat) : List Byte := (List.range n).map (fun i => mrd m (a + i))

/-- Bytes written from an address up. -/
def mwrN (m : Memory) (a : Nat) : List Byte → Memory
  | [] => m
  | x :: r => mwrN (mwr m a x) (a + 1) r

/-- The little-endian value of bytes (R23). -/
def leNat : List Byte → Nat
  | [] => 0
  | x :: r => x.toNat + 256 * leNat r

/-- A value as n little-endian bytes. -/
def leBytes : Nat → Nat → List Byte
  | 0, _ => []
  | n + 1, v => BitVec.ofNat 8 v :: leBytes n (v / 256)

/-- The little-endian field of a record: n bytes at byte offset o. -/
def lefld (l : List Byte) (o n : Nat) : Nat := leNat ((l.drop o).take n)

/-- A list extended with zero bytes to a length. -/
def padTo (l : List Byte) (n : Nat) : List Byte := l ++ List.replicate (n - l.length) 0

def zeros (n : Nat) : List Byte := List.replicate n 0

def allZero (l : List Byte) : Bool := l.all (fun x => x == 0)

/-- One byte through the CRC-32 register of R432, reflected polynomial. -/
def crcByte (c : Nat) (x : Byte) : Nat :=
  let step := fun (v : Nat) => if v % 2 = 1 then (v / 2) ^^^ 0xEDB88320 else v / 2
  step (step (step (step (step (step (step (step (c ^^^ x.toNat))))))))

/-- CRC-32 of R432. -/
def crc32 (l : List Byte) : Nat := (l.foldl crcByte 0xFFFFFFFF) ^^^ 0xFFFFFFFF

/-- A record closed by its CRC-32 in 4 bytes. -/
def withCrc (l : List Byte) : List Byte := l ++ leBytes 4 (crc32 l)

/-- Numbers in ascending order. -/
def insertNat (x : Nat) : List Nat → List Nat
  | [] => [x]
  | y :: r => if x ≤ y then x :: y :: r else y :: insertNat x r
def sortNat (l : List Nat) : List Nat := l.foldr insertNat []

/-- An element put into a list kept in order by a relation, after its equals. -/
def insertBy {α : Type} (le : α → α → Bool) (x : α) : List α → List α
  | [] => [x]
  | y :: r => if le x y then x :: y :: r else y :: insertBy le x r
/-- A list put in order, stable. -/
def sortBy {α : Type} (le : α → α → Bool) (l : List α) : List α := l.foldr (insertBy le) []

/-- Each number of a list once, where it first stands. -/
def distinct (l : List Nat) : List Nat := l.foldl (fun r x => if r.contains x then r else r ++ [x]) []

/-- ceil(a / b). -/
def cdiv (a b : Nat) : Nat := (a + b - 1) / b

/-- Bits lo to lo + wid - 1 of a word. -/
def bits (v lo wid : Nat) : Nat := (v >>> lo) % 2 ^ wid

/-- A value with bits lo to lo + wid - 1 replaced. -/
def setBits (v lo wid x : Nat) : Nat := v - bits v lo wid * 2 ^ lo + (x % 2 ^ wid) * 2 ^ lo

/-- The stored word of a register in force. -/
def Block.reg (b : Block) (off : Nat) : Word := tgetD b.regs.cur off 0

/-- The stored word of a register replaced. -/
def Block.setReg (b : Block) (off : Nat) (v : Word) : Block :=
  { b with regs := { b.regs with cur := tset b.regs.cur off v } }

/-- A field's value in force. -/
def Block.fget (b : Block) (f : Fld) : Nat := bits (b.reg f.off).toNat f.lo f.wid

/-- A field set by the block itself. -/
def Block.fset (b : Block) (f : Fld) (x : Nat) : Block :=
  b.setReg f.off (BitVec.ofNat 64 (setBits (b.reg f.off).toNat f.lo f.wid x))

/-- A saturating counter raised (R520). -/
def Block.count (b : Block) (f : Fld) (n : Nat := 1) : Block := b.fset f (min (b.fget f + n) (2 ^ f.wid - 1))

/-- An event bit or a set of them raised. -/
def Block.evt (b : Block) (f : Fld) (x : Nat := 1) : Block := b.fset f (b.fget f ||| x)

/-- The committed value of a field (R525). -/
def Block.fcom (b : Block) (f : Fld) : Nat := bits (tgetD b.regs.committed f.off 0).toNat f.lo f.wid

/-- Cycles since the last boundary to µs (R463). -/
def Block.tickUs (b : Block) : Nat := b.clk.timeUs - b.clk.bndUs

def Block.tick (b : Block) : Nat := b.fget F.TICK_COUNT_COUNT

/-- The stage of start (R492): 9 is RUN. -/
def Block.stage (b : Block) : Nat := b.fget F.STA_STAT_STAGE

def Block.run? (b : Block) : Bool := b.stage == 9

/-- The time base moved on to a time not earlier than now; the arithmetic clock counts at its frequency. -/
def Block.advance (b : Block) (t : Nat) : Block :=
  if t ≤ b.clk.timeUs then b
  else { b with clk := { b.clk with cycles := b.clk.cycles + (t - b.clk.timeUs) * b.clk.mhz, timeUs := t } }

/-- A step with no command (log 44): 1 µs of the time base passes, unless nothing of the block runs. -/
def Block.idle (b : Block) : Block := if b.sa.inReset || b.sa.railLost then b else b.advance (b.clk.timeUs + 1)

/-- Advance to a number of µs after the last boundary. -/
def Block.advanceTick (b : Block) (us : Nat) : Block := b.advance (b.clk.bndUs + us)

/-- The next free value (log 2). -/
def Block.free (b : Block) : BitVec 32 × Block :=
  (Config.freeWord b.clk.free, { b with clk := { b.clk with free := b.clk.free + 1 } })

/-- The parts of a global address (R372). -/
def gaNode (a : Nat) : Nat := bits a 56 8
def gaSpace (a : Nat) : Nat := bits a 52 4
def gaOff (a : Nat) : Nat := bits a 0 52

/-- This block's node number (R373). -/
def Block.node (b : Block) : Nat := b.fget F.LNK_NODE_NODE

/-- The global address of an offset of the block's own space 0. -/
def Block.own0 (b : Block) (off : Nat) : Nat := b.node * 2 ^ 56 + off

/-- S and U of R375. -/
def Block.stacksS (b : Block) : Nat := b.fget F.LNK_NODE_STACKS
def Block.usable (b : Block) : Nat := b.fget F.LNK_RM_USABLE_BYTES

/-- Stack and stack byte of a space 0 offset (R375). -/
def Block.stackOf (b : Block) (o : Nat) : Nat × Nat :=
  let s := max b.stacksS 1
  ((o / 4096) % s, (o / 4096) / s * 4096 + o % 4096)

/-- A key for a gang line: stack, gang and gang line (R449). -/
def lineKey (stack byte : Nat) : Nat := stack * 2 ^ 44 + (byte / 512) % 3 * 2 ^ 40 + byte / 512 / 3

/-- The lines a span of space 0 touches, as (stack, stack byte of the line). -/
def Block.linesOf (b : Block) (o n : Nat) : List (Nat × Nat) :=
  (List.range ((o + n + 511) / 512 - o / 512)).map (fun i => b.stackOf ((o / 512 + i) * 512))

def Block.stackAt (b : Block) (n : Nat) : Stack := tgetD b.io.stks n Stack.reset

/-- The error an access to a span of space 0 meets before its data (R375, R451, R454): 0 none, 6 RETIRED, 5
UNCORRECTABLE. -/
def Block.span0 (b : Block) (o n : Nat) (read : Bool) : Nat :=
  (List.range ((o + n + 511) / 512 - o / 512)).foldl (fun e i =>
    let a := (o / 512 + i) * 512
    let l := b.stackOf a
    let k := b.stackAt l.1
    if e ≠ 0 then e
    else if !k.up || !(k.gangs.getD ((l.2 / 512) % 3) true) then 6
    else if (tget b.mem.badLines (lineKey l.1 l.2)).isSome && (read || a < o || o + n < a + 512) then 5
    else 0) 0

/-- n bytes of space 0 as the block's own agents read them. -/
def Block.rd0 (b : Block) (o n : Nat) : List Byte := mrdN b.mem.stack o n

/-- A little-endian value of space 0. -/
def Block.r0 (b : Block) (o n : Nat) : Nat := leNat (b.rd0 o n)

/-- Bytes of space 0 written; each stack's written bytes are counted (R512), and a whole-line write restores a
line that was uncorrectable (R452). -/
def Block.wr0 (b : Block) (o : Nat) (l : List Byte) : Block :=
  let st := (b.stackOf o).1
  let whole := (List.range ((o + l.length) / 512 - (o + 511) / 512)).map (fun i => ((o + 511) / 512 + i) * 512)
  let fixed := whole.map (fun a => lineKey (b.stackOf a).1 (b.stackOf a).2)
  { b with mem := { b.mem with
      stack := mwrN b.mem.stack o l
      written := tset b.mem.written st (tgetD b.mem.written st 0 + l.length)
      badLines := b.mem.badLines.filter (fun k => !fixed.contains k.1) } }

/-- The block is the active of a Pair that mirrors (R505). -/
def Block.mirrors (b : Block) : Bool :=
  (b.fget F.STA_PAIR_STATE == 3 || b.fget F.STA_PAIR_STATE == 4) && b.fget F.STA_IDENT_PAIR_ROLE == 0

/-- A change of mirrored state noted for the journal (R506). -/
def Block.noteMirror (b : Block) (a : Nat) (l : List Byte) : Block :=
  if b.mirrors then { b with pair := { b.pair with mirror := b.pair.mirror ++ [(a, l)] } } else b

/-- TARGET of a mirror record whose state has no address of the specification (log 39): a kind and a number. -/
def privAddr (kind n : Nat) : Nat := 15 * 2 ^ 52 + kind * 2 ^ 48 + n % 2 ^ 24 * 2 ^ 24

/-- Bytes of a mirrored region of space 0 written (R505). -/
def Block.wr0m (b : Block) (o : Nat) (l : List Byte) : Block := (b.wr0 o l).noteMirror o l

def Block.w0m (b : Block) (o n v : Nat) : Block := b.wr0m o (leBytes n v)

/-- A failed remote operation counted (R402): code, whether the target was far, whether it was inbound. -/
def Block.rmFail (b : Block) (code : Nat) (far inbound : Bool) : Block :=
  let b := b.evt F.LNK_RM_EVT_CODE (2 ^ (code - 1))
  if inbound then b.count F.LNK_RM_CNT_B_INBOUND
  else
    let b := if code = 9 then b.count F.LNK_RM_CNT_B_TIMEOUT else b
    if far then b.count F.LNK_RM_CNT_A_FAR else b.count F.LNK_RM_CNT_A_LOCAL

def Block.linkAt (b : Block) (l : Nat) : Link := tgetD b.io.links l Link.reset
def Block.setLink (b : Block) (l : Nat) (k : Link) : Block := { b with io := { b.io with links := tset b.io.links l k } }
def Block.stemAt (b : Block) (p : Nat) : StemPort := tgetD b.io.stem p StemPort.reset
def Block.setStem (b : Block) (p : Nat) (k : StemPort) : Block := { b with io := { b.io with stem := tset b.io.stem p k } }

/-- A link counts as in service under R397: UP, DEGRADED or in TRAIN. -/
def Link.serves (k : Link) : Bool := k.state == 1 || k.state == 2 || k.state == 3

/-- Pair links in service (R12). -/
def Block.pairLinks (b : Block) : List Nat := (List.range 64).filter (fun l => decide (56 ≤ l) && ((tget b.io.links l).map Link.serves).getD false)

/-- CONFIG 4: Pair. -/
def Block.isPair (b : Block) : Bool := b.fget F.STA_IDENT_CONFIG == 4
/-- Full or Pair: the deadline monitor schedules (R5). -/
def Block.monitored (b : Block) : Bool := b.fget F.STA_IDENT_CONFIG ≥ 3

/-- The route of an outbound operation (R373, R380, R396, R397): a Stem port, 64 + a link, or an error code.
`x` is the executor's EXEC_ID; the block's agents count as 0. -/
def Block.route (b : Block) (x a : Nat) : Except Nat Nat :=
  let n := gaNode a
  if n = b.node then
    if gaSpace a = 5 then
      let p := bits a 49 3
      if (b.stemAt p).retired then .error 6 else .ok p
    else if gaSpace a = 6 then
      let l := bits a 46 6
      if (b.linkAt l).state = 4 || (b.isPair && 56 ≤ l) then .error 6 else .ok (64 + l)
    else .error 1
  else
    let ls := (List.range 64).filter (fun l => (tgetD b.rm.routes n 0).testBit l && (b.linkAt l).serves)
    match ls[x % max ls.length 1]? with
    | some l => .ok (64 + l)
    | none => .error 8

/-- Lengths of the packets a far span splits into: each within one aligned 4 KiB (R410). -/
def splitLens : Nat → Nat → Nat → List Nat
  | 0, _, _ => []
  | f + 1, a, n => if n = 0 then [] else
      let k := min n (4096 - a % 4096)
      k :: splitLens f (a + k) (n - k)

/-- Packets of a far span as (address, length, offset). -/
def splitSpan (a n : Nat) : List (Nat × Nat × Nat) :=
  ((splitLens (n / 4 + 2) a n).foldl (fun (r : List (Nat × Nat × Nat) × Nat) k => (r.1 ++ [(a + r.2, k, r.2)], r.2 + k)) ([], 0)).1

/-- The issuer an outbound operation is ordered under: an executor's key, or a pool or agent of the block. -/
def failKey (pool : Option Nat) (seq : Nat) : Nat := pool.getD (1000 + seq)

/-- The key of an operation's issuer. -/
def OutOp.issuer (o : OutOp) : Nat :=
  match o.purpose with
  | .posted k _ _ => k
  | .block k => k
  | .agent pool seq _ => 100000 + failKey pool seq

/-- Beats of a Stem request packet (R409) and flits of a link packet (R433). -/
def beatsOf (data : List Byte) : Nat := 1 + cdiv data.length 128
def flitsOf (data : List Byte) : Nat := cdiv (32 + data.length) 240

/-- A pair of counters by virtual channel: 0 REQ, 1 RSP. -/
def vcGet (p : Nat × Nat) (vc : Nat) : Nat := if vc = 0 then p.1 else p.2
def vcAdd (p : Nat × Nat) (vc n : Nat) : Nat × Nat := if vc = 0 then (p.1 + n, p.2) else (p.1, p.2 + n)
def vcSub (p : Nat × Nat) (vc n : Nat) : Nat × Nat := if vc = 0 then (p.1 - n, p.2) else (p.1, p.2 - n)

/-- DATA flits of a packet sent: credits move from HELD to INFLIGHT, the flits enter the retry buffer (R435, R436). -/
def Link.send (k : Link) (vc n : Nat) : Link :=
  { k with held := vcSub k.held vc n, inflight := vcAdd k.inflight vc n, txSeq := (k.txSeq + n) % 4096,
           retry := k.retry ++ (List.range n).map (fun i => ((k.txSeq + i) % 4096, vc, 1)) }

/-- A packet can begin: the port or link is up with credits for the whole of it, and room in the retry buffer. -/
def Block.canSend (b : Block) (route vc : Nat) (data : List Byte) : Bool :=
  if route < 64 then
    let p := b.stemAt route
    p.up && decide (beatsOf data ≤ (if vc = 0 then p.req else p.rsp))
  else
    let k := b.linkAt (route - 64)
    (k.state == 2 || k.state == 3) && decide (flitsOf data ≤ vcGet k.held vc) && decide (k.retry.length + flitsOf data ≤ 1024)

/-- The credits of a packet spent. -/
def Block.spend (b : Block) (route vc : Nat) (data : List Byte) : Block :=
  if route < 64 then
    let p := b.stemAt route
    b.setStem route (if vc = 0 then { p with req := p.req - beatsOf data } else { p with rsp := p.rsp - beatsOf data })
  else b.setLink (route - 64) ((b.linkAt (route - 64)).send vc (flitsOf data))

/-- A release may be performed (R389): nothing earlier of its issuer is outstanding. -/
def Block.relOk (b : Block) (o : OutOp) : Bool :=
  if o.ord < 2 then true
  else match o.purpose with
    | .posted k id _ => ((tgetD b.rm.execs k Exec.clear).posted.head?.map (·.id)) == some id
    | _ => !(b.rm.out.any (fun q => decide (q.id < o.id) && q.issuer == o.issuer))

/-- Two outbound operations touch one 8-byte word. -/
def OutOp.meets (o q : OutOp) : Bool :=
  let n := fun (x : OutOp) => if x.len = 0 then 8 else x.len
  decide (o.addr / 8 ≤ (q.addr + n q - 1) / 8) && decide (q.addr / 8 ≤ (o.addr + n o - 1) / 8)

/-- Operations of one issuer on one word leave in issue order, and one that takes another route than an earlier one waits for it (R388). -/
def Block.inOrder (b : Block) (o : OutOp) : Bool :=
  b.rm.out.all (fun q => !(decide (q.id < o.id) && q.issuer == o.issuer && q.meets o && (!q.sent || q.route != o.route)))

/-- A route takes one more request (R410): fewer than 4,096 are outstanding on it, and none of them has the request's tag. -/
def Block.tagFree (b : Block) (o : OutOp) : Bool :=
  let l := b.rm.out.filter (fun q => q.sent && q.route == o.route)
  decide (l.length < 4096) && l.all (fun q => q.id % 65536 != o.id % 65536)

/-- One outbound request sent if it can be. -/
def Block.sendOne (b : Block) (o : OutOp) : Block :=
  let data := if o.kind = 1 then o.data else []
  if o.sent || !b.relOk o || !b.inOrder o || !b.tagFree o || !b.canSend o.route 0 data then b
  else
    let b := b.spend o.route 0 data
    { b with rm := { b.rm with out := b.rm.out.map (fun q => if q.id = o.id then { q with sent := true } else q) } }

/-- A response sent if its credits are there. -/
def Block.sendRsp (b : Block) (route : Nat) : Block :=
  if route < 64 then
    let p := b.stemAt route
    match p.wait with
    | [] => b
    | r :: rest => if b.canSend route 1 r.data then
        let b := b.spend route 1 r.data
        b.setStem route { (b.stemAt route) with wait := rest, last := some r } else b
  else
    let k := b.linkAt (route - 64)
    match k.wait with
    | [] => b
    | r :: rest => if b.canSend route 1 r.data then
        let b := b.spend route 1 r.data
        b.setLink (route - 64) { (b.linkAt (route - 64)) with wait := rest, last := some r } else b

/-- A response given to a route: sent now, or once the credits are there. -/
def Block.answer (b : Block) (route : Nat) (r : Rsp) : Block :=
  let b := if route < 64 then b.setStem route { (b.stemAt route) with wait := (b.stemAt route).wait ++ [r] }
    else b.setLink (route - 64) { (b.linkAt (route - 64)) with wait := (b.linkAt (route - 64)).wait ++ [r] }
  b.sendRsp route

/-- Every outbound operation and response that can be sent is sent. -/
def Block.trySend (b : Block) : Block :=
  let b := b.rm.out.foldl (fun b o => b.sendOne o) b
  let ps := ((b.io.stem.filter (fun e => !e.2.wait.isEmpty)).map (fun e => (e.1, e.2.wait.length)))
    ++ ((b.io.links.filter (fun e => !e.2.wait.isEmpty)).map (fun e => (64 + e.1, e.2.wait.length)))
  ps.foldl (fun b p => (List.range p.2).foldl (fun b _ => b.sendRsp p.1) b) b

/-- One outbound operation queued, and sent if it can be. -/
def Block.outOp (b : Block) (o : OutOp) : Block :=
  let o := { o with id := b.rm.nextId, issued := b.clk.timeUs, sent := false }
  ({ b with rm := { b.rm with out := b.rm.out ++ [o], nextId := b.rm.nextId + 1 } }).sendOne o

/-- A Pip retired by its bit in PIP_RETnn (R268). -/
def Block.pipRetired (b : Block) (c k : Nat) : Bool :=
  if c % 2 = 0 then (b.fget (F.PIP_RET_LOW.at (c / 2))).testBit k else (b.fget (F.PIP_RET_HIGH.at (c / 2))).testBit k

/-- A cluster is enabled and not retired. -/
def Block.clusterOn (b : Block) (c : Nat) : Bool := b.cp.enabled.testBit c && !(b.cp.retired.testBit c)

/-- A slice byte span touches a Pip that is retired, or a cluster that is not enabled (R377). -/
def Block.sliceGone (b : Block) (off len : Nat) : Bool :=
  (List.range (cdiv (off % 2 ^ 19 + len) (2 ^ 19))).any (fun i =>
    let u := off / 2 ^ 19 + i
    !b.clusterOn (u / 32) || b.pipRetired (u / 32) (u % 32))

/-- A write of an issuer has failed in this tick (R392). -/
def Block.failedFor (b : Block) (key : Nat) : Bool := b.rm.failPools.any (fun p => p.1 == key)

/-- A write of the block's own agents has failed: counted, and kept for TFENCE and R394. -/
def Block.agentFailed (b : Block) (pool : Option Nat) (seq code : Nat) (far : Bool) : Block :=
  let b := b.rmFail code far false
  { b with rm := { b.rm with agentFail := b.rm.agentFail ++ [seq], failPools := b.rm.failPools ++ [(failKey pool seq, seq)] } }

/-- What a write of the block's own agents to spaces 0 to 4 of the own node meets (R374 to R377, R526), 0 for nothing; they write space 0 and
slices. DESIGN CHOICE (log 68): R381 has no column for the block's agents, and a write of theirs to space 1, 3 or 4 ends with NOT_PERMITTED. -/
def Block.agentErr (b : Block) (space off len : Nat) (read : Bool) : Nat :=
  if space = 0 then (if off + len > b.stacksS * b.usable then 2 else b.span0 off len read)
  else if space = 2 then (if off + len > 2 ^ 30 then 2 else if b.sliceGone off len then 6 else 0)
  else if space ≤ 4 then 3
  else 1

/-- An address lies in spaces 5 or 6 of the own node beyond their extent (R374). -/
def Block.farExtent (b : Block) (a len : Nat) : Bool :=
  gaNode a == b.node && ((gaSpace a == 5 && decide (2 ^ 49 < bits a 0 49 + len)) || (gaSpace a == 6 && decide (2 ^ 46 < bits a 0 46 + len)))

/-- A write the block's own agents make (R381): to the own space 0 or a slice at once, to a far side as outbound writes. `pool` and
`seq` name the pool and sequencer it serves (R393, R394). A release after a failed write of the same issuer is refused with
PRIOR_FAILED (R392). `what` is not 0 for a counter. -/
def Block.agentPut (b : Block) (a : Nat) (l : List Byte) (ord : Nat) (pool : Option Nat) (seq what : Nat) : Block :=
  let own := gaNode a == b.node && gaSpace a != 5 && gaSpace a != 6
  if ord ≥ 2 && b.failedFor (failKey pool seq) then b.agentFailed pool seq 11 (!own)
  else if own then
    let e := b.agentErr (gaSpace a) (gaOff a) l.length false
    if e ≠ 0 then b.agentFailed pool seq e false
    else if gaSpace a = 0 then b.wr0 (gaOff a) l
    else { b with mem := { b.mem with slices := mwrN b.mem.slices (gaOff a) l } }
  else if b.farExtent a l.length then b.agentFailed pool seq 2 true
  else
    match b.route 0 a with
    | .error c => b.agentFailed pool seq c true
    | .ok r =>
      let scalar := l.length = 8 && ord ≥ 2
      (splitSpan a l.length).foldl (fun b (p : Nat × Nat × Nat) =>
        b.outOp { id := 0, kind := 1, route := r, addr := p.1, len := if scalar then 0 else p.2.1,
                  value := if scalar then leNat l else 0, compare := 0, data := if scalar then [] else (l.drop p.2.2).take p.2.1,
                  ord := ord, size4 := false, sent := false, issued := 0, purpose := .agent pool seq what }) b

/-- A DONE counter or other counter of the block raised by 1 with a release atomic add (R359, R365). -/
def Block.agentAdd (b : Block) (a : Nat) (pool : Option Nat) (seq what : Nat) : Block :=
  if gaNode a == b.node && gaSpace a != 5 && gaSpace a != 6 then
    let e := b.agentErr (gaSpace a) (gaOff a) 8 true
    let o := gaOff a
    if e ≠ 0 then b.agentFailed pool seq e false
    else if gaSpace a = 0 then b.wr0 o (leBytes 8 ((b.r0 o 8 + 1) % 2 ^ 64))
    else { b with mem := { b.mem with slices := mwrN b.mem.slices o (leBytes 8 ((leNat (mrdN b.mem.slices o 8) + 1) % 2 ^ 64)) } }
  else if b.farExtent a 8 then b.agentFailed pool seq 2 true
  else
    match b.route 0 a with
    | .error c => b.agentFailed pool seq c true
    | .ok r => b.outOp { id := 0, kind := 2, route := r, addr := a, len := 0, value := 1, compare := 0, data := [], ord := 2,
                         size4 := false, sent := false, issued := 0, purpose := .agent pool seq what }

/-- The 32-byte report record of R424. -/
def reportRecord (seq tick unit code detail : Nat) : List Byte :=
  withCrc (leBytes 8 seq ++ leBytes 8 tick ++ leBytes 1 unit ++ leBytes 1 code ++ zeros 2 ++ leBytes 8 detail)

/-- A report on both management ports (R424): cause bits, and a ring record while the ring has room. -/
def Block.report (b : Block) (unit code detail : Nat) : Block :=
  let b := (b.evt F.MGT_CAUSE_A_CAUSE (2 ^ unit)).evt F.MGT_CAUSE_B_CAUSE (2 ^ unit)
  let base := b.fget F.MGT_RPT_BASE_BASE
  if base = 0 then b
  else
    let size := 2 ^ b.fget F.MGT_RPT_CFG_SIZE_LOG2
    let seq := b.fget F.MGT_RPT_SEQ_SEQ + 1
    if seq - b.fget F.MGT_RPT_TAKEN_TAKEN > size then b.count F.MGT_CNT_RPT_LOST
    else
      let b := b.agentPut (base + seq % size * 32) (reportRecord seq b.tick unit code detail) 0 none 13 0
      let b := b.fset F.MGT_RPT_SEQ_SEQ seq
      b.agentPut (b.fget F.MGT_RPT_CTR_ADDR) (leBytes 8 seq) 2 none 13 3

/-- A field of a request table entry: word, lowest bit, width (R88). -/
structure EF where
  word : Nat
  lo : Nat
  wid : Nat
deriving DecidableEq, Repr

/-- The 32 words of an entry. -/
def Block.entry (b : Block) (n : Nat) : List Word := tgetD b.rq.table n (List.replicate 32 0)

/-- A field of an entry. -/
def Block.eget (b : Block) (n : Nat) (f : EF) : Nat := bits ((b.entry n).getD f.word 0).toNat f.lo f.wid

/-- The bytes of an entry in space 3. -/
def entryBytes (ws : List Word) : List Byte := ws.flatMap (fun w => leBytes 8 w.toNat)

/-- A field of an entry changed; a mirrored change (R505). -/
def Block.eset (b : Block) (n : Nat) (f : EF) (x : Nat) : Block :=
  let ws := b.entry n
  let w := BitVec.ofNat 64 (setBits ((ws.getD f.word 0).toNat) f.lo f.wid x)
  ({ b with rq := { b.rq with table := tset b.rq.table n (ws.set f.word w) } }).noteMirror
    (b.node * 2 ^ 56 + 3 * 2 ^ 52 + n * 256 + 8 * f.word) (leBytes 8 w.toNat)

def Block.eadd (b : Block) (n : Nat) (f : EF) (x : Nat) : Block := b.eset n f (b.eget n f + x)
def Block.esub (b : Block) (n : Nat) (f : EF) (x : Nat) : Block := b.eset n f (b.eget n f - x)

def Block.side (b : Block) (n : Nat) : Side := tgetD b.rq.side n Side.reset
def Block.setSide (b : Block) (n : Nat) (s : Side) : Block := { b with rq := { b.rq with side := tset b.rq.side n s } }
def Block.modSide (b : Block) (n : Nat) (f : Side → Side) : Block := b.setSide n (f (b.side n))

/-- Entries that are not FREE, by ascending index. -/
def Block.live (b : Block) : List Nat :=
  (b.rq.table.filter (fun e => bits ((e.2.getD 0 0).toNat) 0 4 ≠ 0)).map (·.1)

namespace E
abbrev STATE : EF := ⟨0, 0, 4⟩
abbrev PRIORITY : EF := ⟨0, 4, 3⟩
abbrev RESUME_PEND : EF := ⟨0, 7, 1⟩
abbrev KEEP : EF := ⟨0, 8, 1⟩
abbrev RETRIED : EF := ⟨0, 9, 1⟩
abbrev CANCEL_PEND : EF := ⟨0, 10, 1⟩
abbrev CANCEL_CLASS : EF := ⟨0, 12, 4⟩
abbrev GENERATION : EF := ⟨0, 16, 16⟩
abbrev TENANT : EF := ⟨0, 32, 16⟩
abbrev DOMAIN : EF := ⟨0, 48, 16⟩
abbrev ADMIT_TIME : EF := ⟨1, 0, 64⟩
abbrev DEADLINE : EF := ⟨2, 0, 64⟩
abbrev RELEASE_TIME : EF := ⟨3, 0, 64⟩
abbrev VOCAB : EF := ⟨4, 0, 5⟩
abbrev PROFILE : EF := ⟨4, 8, 12⟩
abbrev GRAMMAR : EF := ⟨4, 24, 16⟩
abbrev STOPSET : EF := ⟨4, 40, 16⟩
abbrev ADAPTER_COUNT : EF := ⟨4, 56, 3⟩
abbrev ADAPTER0 : EF := ⟨5, 0, 18⟩
abbrev ADAPTER1 : EF := ⟨5, 18, 18⟩
abbrev ADAPTER2 : EF := ⟨5, 36, 18⟩
abbrev ADAPTER3 : EF := ⟨6, 0, 18⟩
abbrev MODEL_EPOCH : EF := ⟨6, 32, 16⟩
abbrev GRAMMAR_STATE : EF := ⟨7, 0, 32⟩
abbrev GRM_DEPTH : EF := ⟨7, 32, 7⟩
abbrev GRM_STACK : EF := ⟨8, 0, 52⟩
abbrev PROMPT_LEN : EF := ⟨9, 0, 32⟩
abbrev PREFIX_LEN : EF := ⟨9, 32, 32⟩
abbrev GENERATED : EF := ⟨10, 0, 32⟩
abbrev MAX_NEW : EF := ⟨10, 32, 32⟩
abbrev COMMITTED : EF := ⟨11, 0, 32⟩
abbrev HELD : EF := ⟨11, 32, 32⟩
abbrev DISCARDED : EF := ⟨12, 0, 32⟩
abbrev BLOCKED : EF := ⟨12, 32, 32⟩
abbrev DRAFTED : EF := ⟨13, 0, 32⟩
abbrev ACCEPTED : EF := ⟨13, 32, 32⟩
abbrev REJECTED : EF := ⟨14, 0, 32⟩
abbrev PAGE_HEAD : EF := ⟨15, 0, 32⟩
abbrev PAGE_TAIL : EF := ⟨15, 32, 32⟩
abbrev PAGE_COUNT : EF := ⟨16, 0, 28⟩
abbrev PAGE_SIZE : EF := ⟨16, 28, 2⟩
abbrev TIER : EF := ⟨16, 30, 2⟩
abbrev PREFILL_POOL : EF := ⟨16, 32, 8⟩
abbrev DECODE_POOL : EF := ⟨16, 40, 8⟩
abbrev TTL_EXPIRY : EF := ⟨17, 0, 64⟩
abbrev HANDLE : EF := ⟨18, 0, 64⟩
abbrev DESC : EF := ⟨19, 0, 64⟩
abbrev OUTSTANDING : EF := ⟨20, 0, 32⟩
abbrev END_REASON : EF := ⟨20, 32, 8⟩
abbrev VRD_SEQ : EF := ⟨21, 0, 64⟩
abbrev EST : EF := ⟨22, 0, 17⟩
abbrev STIER : EF := ⟨22, 17, 2⟩
abbrev WARM : EF := ⟨22, 19, 1⟩
abbrev PROBE_DUE : EF := ⟨22, 20, 1⟩
abbrev CPT_PEND : EF := ⟨22, 21, 1⟩
abbrev PUB_NODES : EF := ⟨22, 24, 5⟩
abbrev PUB_DEPTH : EF := ⟨22, 29, 3⟩
abbrev OFF_TICK : EF := ⟨22, 32, 32⟩
abbrev CPT_BASE : EF := ⟨23, 0, 32⟩
abbrev CPT_COUNT : EF := ⟨23, 32, 3⟩
abbrev CPT_SRC : EF := ⟨23, 35, 24⟩
abbrev UNIT_HEAD : EF := ⟨24, 0, 32⟩
abbrev UNIT_COUNT : EF := ⟨24, 32, 4⟩
abbrev LAST_STEP_TICK : EF := ⟨25, 0, 32⟩
abbrev TEXT_BYTES : EF := ⟨26, 0, 32⟩
abbrev U8_PEND : EF := ⟨26, 32, 24⟩
abbrev U8_COUNT : EF := ⟨26, 56, 2⟩
abbrev HOLD_VRD : EF := ⟨27, 0, 32⟩
abbrev HOLD_U8 : EF := ⟨27, 32, 32⟩
abbrev STP_STATE : EF := ⟨28, 0, 32⟩
abbrev STP_HOLD : EF := ⟨28, 32, 7⟩
abbrev STOP_HIT : EF := ⟨28, 39, 1⟩
abbrev STOP_INDEX : EF := ⟨28, 40, 8⟩
abbrev CUT_OFFSET : EF := ⟨29, 0, 32⟩
end E

/-- Adapter n of an entry (R88). -/
def Block.adapterOf (b : Block) (e n : Nat) : Nat :=
  match n with
  | 0 => b.eget e E.ADAPTER0
  | 1 => b.eget e E.ADAPTER1
  | 2 => b.eget e E.ADAPTER2
  | _ => b.eget e E.ADAPTER3

/-- The adapters of an entry, ascending. -/
def Block.adapters (b : Block) (e : Nat) : List Nat := sortNat ((List.range (b.eget e E.ADAPTER_COUNT)).map (b.adapterOf e))

/-- A field of an adapter's record (R289), of a model's (R274). -/
def Block.adp (b : Block) (n o k : Nat) : Nat := b.r0 (b.fget F.MDL_ADP_BASE_BASE + 64 * n + o) k
def Block.cat (b : Block) (n o k : Nat) : Nat := b.r0 (b.fget F.MDL_CAT_BASE_BASE + 128 * n + o) k

/-- The adapters an item runs with (R291). -/
def Block.adaptersFor (b : Block) (e model : Nat) : List Nat := (b.adapters e).filter (fun a => b.adp a 8 4 == model)

/-- The value a management port or other source sees: its key for the last response and the LGR latch. -/
def srcKey : RegSrc → Nat
  | .portA => 1
  | .portB => 2
  | .exec x => 16 + x
  | .stem p => 20000 + p
  | .link l => 20064 + l

/-- A response given to a source: status of R416 and read data. -/
def Block.respond (b : Block) (s : RegSrc) (status : Nat) (rdata : Word := 0) : Block :=
  { b with mgt := { b.mgt with rsp := tset b.mgt.rsp (srcKey s) (status, rdata) } }

/-- A read of LGR_PG_A latches the current values of LGR_PG_B and LGR_PG_C for its source (R155); no other read does anything. -/
def Block.latchRead (b : Block) (s : RegSrc) (a : Nat) : Block :=
  if gaSpace a = 4 ∧ gaOff a = 0x0380 then
    { b with mgt := { b.mgt with latch := tset b.mgt.latch (srcKey s) (b.reg 0x0388, b.reg 0x0390) } }
  else b

/-- An action put off to the next tick boundary. -/
def Block.atBoundary (b : Block) (what a c d : Nat) (bytes : List Byte := []) : Block :=
  { b with ob := { b.ob with acts := b.ob.acts ++ [{ what := what, a := a, b := c, c := d, bytes := bytes }] } }

/-- A far read answered in the command, as seen by the block's agents and text units. -/
def farRead (far : List FarRead) (a n : Nat) : Except Nat (List Byte) :=
  match far.find? (fun f => f.addr == a) with
  | none => .error 9
  | some f => if f.code ≠ 0 then .error f.code else if f.data.length < n then .error 9 else .ok (f.data.take n)

/-- The block operates: not held in reset, not without its core supply, not stopped by a trip (R478, R484, R513). -/
def Block.alive (b : Block) : Bool := !b.sa.inReset && !b.sa.railLost && !b.pw.tripped

/-- A change of the block that reset, the supply or a trip does not hold back: the queue is untouched. -/
def State.always (s : State) (f : Block → Block) : Host.Outcome State Fault Refusal := .next { s with blk := f s.blk }

/-- Lift a change of the block to a machine step: the queue is untouched, and a block that does not operate stays as it is. -/
def State.run (s : State) (f : Block → Block) : Host.Outcome State Fault Refusal := s.always (fun b => if b.alive then f b else b)

end Sys2Proof.Machine
end

