-- ==== Sys2Proof/Machine/Vocab.lean ====
section
/-! DEFINITION. Images read in place, UTF-8, vocabulary images (R156 to R158), normalization (R166), the lattice
search (R167, R168), and detokenization of one id (R172). -/
namespace Sys2Proof.Machine
open Sys2Proof

/-- An image as its reader sees it: n bytes at an offset. -/
abbrev Img := Nat → Nat → List Byte

/-- An image in place in space 0. -/
def Block.imgAt (b : Block) (base : Nat) : Img := fun o n => b.rd0 (base + o) n
/-- The size an image states for itself, by kind: 0 vocabulary, 1 grammar, 2 stop set, 3 matcher set, 4 ensemble. -/
def Block.imgBytes (b : Block) (kind base : Nat) : Nat :=
  b.r0 (base + (match kind with
    | 0 => 80
    | 1 => 56
    | 2 => 32
    | 3 => 80
    | _ => 56)) 8
/-- A span of space 0 can be read whole (R375, R451). -/
def Block.readable (b : Block) (a n : Nat) : Bool := decide (a + n ≤ b.stacksS * b.usable) && b.span0 a n true == 0
/-- An image in place as a text unit reads it: none where a read of it completes with an error (R320, log 64). -/
def Block.imgRead (b : Block) (kind base : Nat) : Option Img :=
  if b.readable base 128 && b.readable base (b.imgBytes kind base) then some (b.imgAt base) else none
/-- An image held as bytes. -/
def imgOf (l : List Byte) : Img := fun o n => (l.drop o).take n

/-- A little-endian field of an image. -/
def iu (i : Img) (o n : Nat) : Nat := leNat (i o n)
/-- A signed 32-bit field. -/
def is32 (i : Img) (o : Nat) : Int := (BitVec.ofNat 32 (iu i o 4)).toInt

/-- The CRC-32 of a whole image, computed with its own field as 0. -/
def imgCrc (i : Img) (total at_ : Nat) : Bool :=
  decide (at_ + 4 ≤ total) && iu i at_ 4 == crc32 (i 0 at_ ++ zeros 4 ++ i (at_ + 4) (total - at_ - 4))

/-- A table lies within the image. -/
def inImg (total off n : Nat) : Bool := decide (off + n ≤ total)

/-- The scalar and length of the well-formed UTF-8 sequence at the head of bytes (R166 step 1, R173). -/
def utf8One (l : List Byte) : Option (Nat × Nat) :=
  let c := fun (i : Nat) => (l.getD i 0).toNat
  let k := fun (i : Nat) => decide (128 ≤ c i ∧ c i < 192)
  if l.isEmpty then none
  else if c 0 < 128 then some (c 0, 1)
  else if 0xC2 ≤ c 0 ∧ c 0 < 0xE0 then if k 1 then some ((c 0 - 0xC0) * 64 + (c 1 - 128), 2) else none
  else if 0xE0 ≤ c 0 ∧ c 0 < 0xF0 then
    let v := (c 0 - 0xE0) * 4096 + (c 1 - 128) * 64 + (c 2 - 128)
    if k 1 && k 2 && decide (0x800 ≤ v) && !(decide (0xD800 ≤ v ∧ v < 0xE000)) then some (v, 3) else none
  else if 0xF0 ≤ c 0 ∧ c 0 < 0xF5 then
    let v := (c 0 - 0xF0) * 262144 + (c 1 - 128) * 4096 + (c 2 - 128) * 64 + (c 3 - 128)
    if k 1 && k 2 && k 3 && decide (0x10000 ≤ v ∧ v < 0x110000) then some (v, 4) else none
  else none

/-- The UTF-8 bytes of a scalar value. -/
def utf8Enc (v : Nat) : List Byte :=
  let y := fun (n : Nat) => BitVec.ofNat 8 n
  if v < 0x80 then [y v]
  else if v < 0x800 then [y (0xC0 + v / 64), y (0x80 + v % 64)]
  else if v < 0x10000 then [y (0xE0 + v / 4096), y (0x80 + v / 64 % 64), y (0x80 + v % 64)]
  else [y (0xF0 + v / 262144), y (0x80 + v / 4096 % 64), y (0x80 + v / 64 % 64), y (0x80 + v % 64)]

/-- A unit of text (R166): a character with its scalar value, or a raw byte. -/
structure TUnit where
  raw : Bool
  v : Nat
deriving DecidableEq, Repr

def TUnit.bytes (u : TUnit) : List Byte := if u.raw then [BitVec.ofNat 8 u.v] else utf8Enc u.v

/-- UTF-8 decoded; each byte of no well-formed sequence is a raw byte unit (R166 step 1). -/
def utf8Units : Nat → List Byte → List TUnit
  | 0, _ => []
  | f + 1, l =>
    match l with
    | [] => []
    | x :: r =>
      match utf8One l with
      | some p => { raw := false, v := p.1 } :: utf8Units f (l.drop p.2)
      | none => { raw := true, v := x.toNat } :: utf8Units f r

def textUnits (l : List Byte) : List TUnit := utf8Units l.length l

/-- A step applied to each run of characters between raw byte units. -/
def mapRuns (f : List Nat → List Nat) (l : List TUnit) : List TUnit :=
  let fin := fun (run : List Nat) => (f run).map (fun v => ({ raw := false, v := v } : TUnit))
  let r := l.foldl (fun (p : List TUnit × List Nat) u => if u.raw then (p.1 ++ fin p.2 ++ [u], []) else (p.1, p.2 ++ [u.v])) ([], [])
  r.1 ++ fin r.2

/-- One pass of the replacement table over bytes (R166 step 3): the longest FROM at each position. -/
def replaceGo (tbl : List (List Byte × List Byte)) : Nat → List Byte → List Byte
  | 0, l => l
  | f + 1, l =>
    match l with
    | [] => []
    | x :: r =>
      let hit := tbl.foldl (fun (h : Option (List Byte × List Byte)) e =>
        if e.1.isPrefixOf l && (match h with | none => true | some g => decide (g.1.length < e.1.length)) then some e else h) none
      match hit with
      | some e => e.2 ++ replaceGo tbl f (l.drop e.1.length)
      | none => x :: replaceGo tbl f r

/-- The replacement table (R158). -/
def vocReplace (i : Img) : List (List Byte × List Byte) :=
  let o := iu i 72 8
  if o = 0 then []
  else (List.range (iu i o 4)).map (fun k =>
    let e := o + 4 + 68 * k
    ((i (e + 4) 32).take (iu i e 1), (i (e + 36) 32).take (iu i (e + 1) 1)))

/-- Steps 1 to 3 of R166. -/
def vocNorm3 (i : Img) (l : List Byte) : List TUnit :=
  let norm := iu i 7 1
  let u := textUnits l
  let u := if norm = 0 then u else mapRuns (fun r => if r.isEmpty then r else Config.normalize norm r) u
  let t := vocReplace i
  if t.isEmpty then u
  else mapRuns (fun r =>
    let bs := r.flatMap utf8Enc
    (textUnits (replaceGo t bs.length bs)).map (·.v)) u

def vocFlag (i : Img) (n : Nat) : Bool := (iu i 16 4).testBit n

/-- R166 whole. -/
def vocNormalize (i : Img) (l : List Byte) : List TUnit :=
  let u := vocNorm3 i l
  let sp : TUnit := { raw := false, v := 0x20 }
  let u := if vocFlag i 1 && !u.isEmpty && u.head? != some sp then sp :: u else u
  if vocFlag i 2 then u.map (fun x => if x = sp then { raw := false, v := 0x2581 } else x) else u

/-- Offset of the entry of a piece. -/
def pieceAt (i : Img) (t : Nat) : Nat := iu i 48 8 + 16 * t
def vocPieces (i : Img) : Nat := iu i 12 4
def pieceFlags (i : Img) (t : Nat) : Nat := iu i (pieceAt i t + 6) 1
def pieceString (i : Img) (t : Nat) : List Byte := i (iu i 56 8 + iu i (pieceAt i t) 4) (iu i (pieceAt i t + 4) 2)
def pieceScore (i : Img) (t : Nat) : Int := is32 i (pieceAt i t + 8)
def pieceControl (i : Img) (t : Nat) : Bool := (pieceFlags i t).testBit 0
def pieceByte (i : Img) (t : Nat) : Bool := (pieceFlags i t).testBit 1

/-- The pieces that form lattice edges (R157, R167): string, id, score. -/
def latticePieces (i : Img) : List (List Byte × Nat × Int) :=
  (List.range (vocPieces i)).filterMap (fun t =>
    if pieceFlags i t % 4 = 0 && !(pieceString i t).isEmpty then some (pieceString i t, t, pieceScore i t) else none)

/-- The edge over units i to j - 1: ids, how many are byte fallback ids, score. -/
structure Edge where
  start : Nat
  ids : List Nat
  fallback : Nat
  score : Int
deriving DecidableEq, Repr

/-- The edges that end after a run of units whose last one is `u` (R167): the piece, or the fallback of a single unit. -/
def edgeOf (i : Img) (ps : List (List Byte × Nat × Int)) (start : Nat) (run : List TUnit) : Option Edge :=
  let bs := run.flatMap TUnit.bytes
  let piece := if run.any (·.raw) then none else ps.find? (fun p => p.1 == bs)
  match piece with
  | some p => some { start := start, ids := [p.2.1], fallback := 0, score := p.2.2 }
  | none =>
    if run.length ≠ 1 then none
    else if vocFlag i 0 then
      some { start := start, ids := bs.map (fun x => iu i 32 4 + x.toNat), fallback := bs.length, score := bs.length * is32 i 36 }
    else some { start := start, ids := [iu i 28 4], fallback := 0, score := pieceScore i (iu i 28 4) }

/-- best[j] and edge[j] of R168 from those before it. -/
def latticeStep (i : Img) (ps : List (List Byte × Nat × Int)) (us : List TUnit) (best : List (Int × Option Edge)) : List (Int × Option Edge) :=
  let j := best.length
  let c := (List.range j).foldl (fun (r : Option (Int × Edge)) s =>
    let run := (us.drop s).take (j - s)
    if decide ((run.map (fun u => u.bytes.length)).foldl (· + ·) 0 ≤ iu i 40 1) || s + 1 == j then
      match edgeOf i ps s run with
      | none => r
      | some e =>
        let v := (best.getD s (0, none)).1 + e.score
        match r with
        | none => some (v, e)
        | some q => if v > q.1 then some (v, e) else r
    else r) none
  best ++ [match c with
    | some q => (q.1, some q.2)
    | none => (0, none)]

/-- The ids of the best path back from position j, with the byte fallback ids on it. -/
def latticeBack (best : List (Int × Option Edge)) : Nat → Nat → List Nat × Nat
  | 0, _ => ([], 0)
  | f + 1, j =>
    match (best.getD j (0, none)).2 with
    | none => ([], 0)
    | some e =>
      let r := latticeBack best f e.start
      (r.1 ++ e.ids, r.2 + e.fallback)

/-- The segmentation of normalized text (R168): ids, byte fallback ids. -/
def segment (i : Img) (us : List TUnit) : List Nat × Nat :=
  let ps := latticePieces i
  let best := us.foldl (fun r _ => latticeStep i ps us r) [(0, none)]
  latticeBack best us.length us.length

/-- Tokenization of user text (R166 to R168): ids, byte fallback ids. -/
def tokenizeText (i : Img) (l : List Byte) : List Nat × Nat := segment i (vocNormalize i l)

/-- A run of 4-byte ids. -/
def ids4 (l : List Byte) : List Nat := (List.range (l.length / 4)).map (fun k => lefld l (4 * k) 4)

/-- Codec ids (R170): the ids, and how many became UNK. -/
def codecIds (i : Img) (l : List Nat) : List Nat × Nat :=
  let bad := fun (t : Nat) => decide (vocPieces i ≤ t) || pieceControl i t
  (l.map (fun t => if bad t then iu i 28 4 else t), (l.filter bad).length)

/-- A string with U+2581 turned back into a space. -/
def unmark : Nat → List Byte → List Byte
  | 0, l => l
  | f + 1, l =>
    match l with
    | 0xE2#8 :: 0x96#8 :: 0x81#8 :: r => 0x20#8 :: unmark f r
    | x :: r => x :: unmark f r
    | [] => []

/-- The bytes of an accepted id (R172); `free` stands for the bytes of an id that is no piece. DESIGN CHOICE (log 65): the byte of a BYTE piece outside
BYTE_BASE to BYTE_BASE + 255, for which R172 names none, is its distance from BYTE_BASE, cut at 0 and taken modulo 256. -/
def detok (i : Img) (free : List Byte) (t : Nat) : List Byte :=
  if vocPieces i ≤ t then free
  else if pieceByte i t then [BitVec.ofNat 8 (t - iu i 32 4)]
  else if t = iu i 28 4 then [0xEF, 0xBF, 0xBD]
  else if pieceControl i t then []
  else if vocFlag i 2 then unmark (pieceString i t).length (pieceString i t) else pieceString i t

/-- Text is in a vocabulary's normal form: each run of characters between raw bytes is (R166). -/
def normalForm (norm : Nat) (l : List Byte) : Bool :=
  let u := textUnits l
  norm == 0 || mapRuns (fun r => if r.isEmpty then r else Config.normalize norm r) u == u

/-- Bytes in byte order, strictly. -/
def bytesLt : List Byte → List Byte → Bool
  | [], [] => false
  | [], _ :: _ => true
  | _ :: _, [] => false
  | x :: r, y :: t => decide (x.toNat < y.toNat) || (x == y && bytesLt r t)

/-- A relation between neighbours of a list. -/
def adjacent {α : Type} (p : α → α → Bool) : List α → Bool
  | x :: y :: r => p x y && adjacent p (y :: r)
  | _ => true

/-- No two elements are equal. -/
def distinctBy {α : Type} (eq : α → α → Bool) : List α → Bool
  | [] => true
  | x :: r => !(r.any (eq x)) && distinctBy eq r

/-- The header rules of R156, with every table within the image (log 12). -/
def vocHeader (i : Img) : Bool :=
  let total := iu i 80 8
  let pieces := vocPieces i
  let kind := iu i 6 1
  iu i 0 4 == 0x564F4342 && iu i 4 2 == 1 && decide (kind ≤ 1) && (kind == 1 || decide (iu i 7 1 ≤ 2))
  && iu i 8 4 != 0 && decide (1 ≤ pieces ∧ pieces ≤ 262144) && iu i 16 4 / 8 == 0
  && decide (iu i 20 4 < pieces) && decide (iu i 24 4 < pieces) && decide (iu i 28 4 < pieces)
  && (if vocFlag i 0 then decide (iu i 32 4 + 255 < pieces) && (List.range 256).all (fun k => pieceByte i (iu i 32 4 + k)) else iu i 32 4 == 0xFFFFFFFF)
  && decide (1 ≤ iu i 40 1 ∧ iu i 40 1 ≤ 64) && iu i 41 3 == 0 && iu i 44 4 == 0x000F0100
  && allZero (i 88 36) && decide (128 ≤ total) && inImg total (iu i 48 8) (16 * pieces) && inImg total (iu i 56 8) 0
  && inImg total (iu i 64 8) 0 && (iu i 72 8 == 0 || inImg total (iu i 72 8) (4 + 68 * iu i (iu i 72 8) 4))

/-- The piece rules of R157. -/
def vocPieceRules (i : Img) : Bool :=
  let total := iu i 80 8
  (List.range (vocPieces i)).all (fun t =>
    let e := pieceAt i t
    decide (pieceFlags i t < 4) && iu i (e + 7) 1 == 0 && iu i (e + 12) 4 == 0
    && decide (iu i (e + 4) 2 ≤ iu i 40 1) && (iu i 6 1 == 0 || iu i (e + 4) 2 == 0)
    && inImg total (iu i 56 8 + iu i e 4) (iu i (e + 4) 2)
    && (iu i 6 1 == 1 || (normalForm (iu i 7 1) (pieceString i t) && !(vocFlag i 2 && (textUnits (pieceString i t)).contains { raw := false, v := 0x20 }))))
  && pieceControl i (iu i 20 4) && pieceControl i (iu i 24 4) && pieceControl i (iu i 28 4)
  && distinctBy (fun a c => a == c) ((latticePieces i).map (·.1))

/-- The replacement rules of R158. -/
def vocReplaceRules (i : Img) : Bool :=
  let o := iu i 72 8
  o == 0 || ((List.range (iu i o 4)).all (fun k =>
      let e := o + 4 + 68 * k
      decide (1 ≤ iu i e 1 ∧ iu i e 1 ≤ 32) && decide (iu i (e + 1) 1 ≤ 32) && iu i (e + 2) 2 == 0
      && allZero ((i (e + 4) 32).drop (iu i e 1)) && allZero ((i (e + 36) 32).drop (iu i (e + 1) 1))
      && (textUnits ((i (e + 4) 32).take (iu i e 1))).all (fun u => !u.raw)
      && (textUnits ((i (e + 36) 32).take (iu i (e + 1) 1))).all (fun u => !u.raw)
      && (iu i 6 1 == 1 || normalForm (iu i 7 1) ((i (e + 36) 32).take (iu i (e + 1) 1))))
    && adjacent (fun a c => bytesLt a.1 c.1) (vocReplace i))

/-- A vocabulary image passes the checks of R159 that look at the image alone. -/
def vocOk (i : Img) : Bool := vocHeader i && imgCrc i (iu i 80 8) 124 && vocPieceRules i && vocReplaceRules i

/-- The image in a resident slot. -/
def Block.vocab (b : Block) (slot : Nat) : Option Img := (tget b.ob.vocabs slot).map b.imgAt

/-- The slot that holds a VOCAB_ID. -/
def Block.slotOf (b : Block) (vid : Nat) : Option Nat := (b.ob.vocabs.find? (fun e => b.r0 (e.2 + 8) 4 == vid)).map (·.1)

end Sys2Proof.Machine
end

