-- ==== Sys2Proof/Machine/Grammar.lean ====
section
/-! DEFINITION. Compiled grammars: own masks (R186), advancing a configuration (R191), the mask, its passes and the
flags of a configuration (R192, R193), and the image checks of R188. -/
namespace Sys2Proof.Machine
open Sys2Proof

/-- Bit t of terminal mask k (R187). -/
def gTerm (i : Img) (k t : Nat) : Bool :=
  let w := cdiv (iu i 12 4) 512 * 64
  decide (t < iu i 12 4) && (iu i (iu i 48 8 + k * w + t / 8) 1).testBit (t % 8)

/-- Offset of a state record. -/
def gState (i : Img) (s : Nat) : Nat := iu i 32 8 + 32 * s
def gFlag (i : Img) (s n : Nat) : Bool := (iu i (gState i s) 1).testBit n
def gPosCount (i : Img) (s : Nat) : Nat := iu i (gState i s + 1) 1
def gLimit (i : Img) (s : Nat) : Option Nat := if iu i (gState i s + 12) 4 = 0xFFFFFFFF then none else some (iu i (gState i s + 12) 4)

/-- A token is in the own mask of a state (R186). -/
def gOwn (i : Img) (eos s t : Nat) : Bool :=
  t != eos && (List.range (gPosCount i s)).any (fun k => gTerm i (iu i (gState i s + 4 + 2 * k) 2) t)
  && (match gLimit i s with
    | none => true
    | some m => gTerm i m t)

/-- The transitions of a state in record order: (kind, key, next, push). -/
def gTrans (i : Img) (s : Nat) : List (Nat × Nat × Nat × Nat) :=
  (List.range (iu i (gState i s + 20) 4)).map (fun k =>
    let e := iu i 40 8 + 16 * (iu i (gState i s + 16) 4 + k)
    (iu i e 1, iu i (e + 4) 4, iu i (e + 8) 4, iu i (e + 12) 4))

/-- A configuration advanced by a token (R191): none is a violation. Fuel is one more than the depth. -/
def gStepGo (i : Img) (eos t : Nat) : Nat → Nat → List Nat → Option Cfg
  | 0, _, _ => none
  | f + 1, s, stack =>
    if gOwn i eos s t then
      match (gTrans i s).find? (fun e => if e.1 = 0 then e.2.1 == t else gTerm i e.2.1 t) with
      | none => none
      | some e =>
        if e.2.2.2 = 0xFFFFFFFF then some { state := e.2.2.1, stack := stack }
        else if stack.length = 64 then none
        else some { state := e.2.2.1, stack := stack ++ [e.2.2.2] }
    else if gFlag i s 1 && !stack.isEmpty then gStepGo i eos t f (stack.getLast?.getD 0) stack.dropLast
    else none

def gStep (i : Img) (eos : Nat) (c : Cfg) (t : Nat) : Option Cfg := gStepGo i eos t (c.stack.length + 1) c.state c.stack

/-- The chain of R192: the states whose own masks are joined, and whether EOS is set. -/
def gChainGo (i : Img) : Nat → Nat → List Nat → List Nat × Bool
  | 0, _, _ => ([], false)
  | f + 1, s, stack =>
    if stack.isEmpty then ([s], gFlag i s 0)
    else if gFlag i s 1 then
      let r := gChainGo i f (stack.getLast?.getD 0) stack.dropLast
      (s :: r.1, r.2)
    else ([s], false)

def gChain (i : Img) (c : Cfg) : List Nat × Bool := gChainGo i (c.stack.length + 1) c.state c.stack

/-- A configuration is accepting; it is empty (R192, from the flags alone). -/
def gAccepting (i : Img) (c : Cfg) : Bool := (gChain i c).2
def gEmpty (i : Img) (c : Cfg) : Bool := !((gChain i c).1.any (fun s => gFlag i s 2))

/-- Passes of a mask (R193). -/
def gPasses (i : Img) (c : Cfg) : Nat :=
  max 1 (((gChain i c).1.map (fun s => gPosCount i s + (gLimit i s).isSome.toNat)).foldl (· + ·) 0)

/-- The number whose bit k is f k. -/
def bitsFn (n : Nat) (f : Nat → Bool) : Nat := (List.range n).foldl (fun r k => r + (f k).toNat * 2 ^ k) 0

/-- The mask of a configuration as bytes (R187, R192). -/
def gMask (i : Img) (eos : Nat) (c : Cfg) : List Byte :=
  let ch := gChain i c
  let bit := fun (t : Nat) => (decide (t < iu i 12 4) && ch.1.any (fun s => gOwn i eos s t)) || (ch.2 && t == eos)
  (List.range (cdiv (iu i 12 4) 512 * 64)).map (fun y => BitVec.ofNat 8 (bitsFn 8 (fun k => bit (8 * y + k))))

/-- The header values of R185 for a vocabulary of `pieces` pieces. -/
def gHeader (i : Img) (pieces : Nat) : Bool :=
  let total := iu i 56 8
  let states := iu i 16 4
  iu i 0 4 == 0x4752414D && iu i 4 2 == 1 && iu i 6 2 == 0 && iu i 12 4 == pieces
  && decide (1 ≤ states ∧ states ≤ 16777216) && decide (iu i 20 4 < states) && decide (1 ≤ iu i 24 4 ∧ iu i 24 4 ≤ 65535)
  && decide (1 ≤ iu i 28 4 ∧ iu i 28 4 ≤ 268435456) && allZero (i 68 24) && decide (96 ≤ total)
  && inImg total (iu i 32 8) (32 * states) && inImg total (iu i 40 8) (16 * iu i 28 4)
  && inImg total (iu i 48 8) (iu i 24 4 * (cdiv pieces 512 * 64))

/-- The record checks of R188. -/
def gRecords (i : Img) (eos : Nat) : Bool :=
  let states := iu i 16 4
  let terms := iu i 24 4
  let trans := iu i 28 4
  let pieces := iu i 12 4
  (List.range states).all (fun s =>
    let e := gState i s
    decide (gPosCount i s ≤ 4) && (List.range (gPosCount i s)).all (fun k => decide (iu i (e + 4 + 2 * k) 2 < terms))
    && (match gLimit i s with
      | none => true
      | some m => decide (m < terms))
    && decide (iu i (e + 16) 4 + iu i (e + 20) 4 ≤ trans)
    && (gFlag i s 2 == (List.range pieces).any (fun t => gOwn i eos s t)))
  && (List.range trans).all (fun k =>
    let e := iu i 40 8 + 16 * k
    decide (iu i e 1 ≤ 1) && (if iu i e 1 = 0 then decide (iu i (e + 4) 4 < pieces) else decide (iu i (e + 4) 4 < terms))
    && decide (iu i (e + 8) 4 < states) && (iu i (e + 12) 4 == 0xFFFFFFFF || decide (iu i (e + 12) 4 < states)))

/-- A grammar image passes the checks of R188. The vocabulary it was compiled for must be resident (log 13). -/
def Block.grammarOk (b : Block) (i : Img) : Bool :=
  match (b.slotOf (iu i 8 4)).bind b.vocab with
  | none => false
  | some v => gHeader i (vocPieces v) && imgCrc i (iu i 56 8) 92 && gRecords i (iu v 24 4)

/-- The image of a loaded grammar. -/
def Block.grammar (b : Block) (n : Nat) : Option Img := (tget b.ob.grammars n).map b.imgAt

end Sys2Proof.Machine
end

