-- ==== Sys2Proof/Machine/Float.lean ====
section
/-! DEFINITION. Number formats and arithmetic to the bit (R242 to R246, R252, R254 to R256): values are exact
dyadic numbers, and every result is rounded once, to nearest with ties to even. -/
namespace Sys2Proof.Machine
open Sys2Proof

/-- The value of an element: NaN, an infinity, or (-1)^neg * m * 2^e. -/
inductive FV where
  | nan
  | inf (neg : Bool)
  | fin (neg : Bool) (m : Nat) (e : Int)
deriving DecidableEq, Repr

/-- Decode of a format with `eb` exponent and `mb` mantissa bits and a bias. `special` 0: no infinity or NaN,
1: IEEE specials, 2: NaN only at all ones (E4M3). -/
def fdec (eb mb bias special w : Nat) : FV :=
  let neg := w.testBit (eb + mb)
  let e := bits w mb eb
  let m := bits w 0 mb
  if special = 1 && e = 2 ^ eb - 1 then (if m = 0 then .inf neg else .nan)
  else if special = 2 && e = 2 ^ eb - 1 && m = 2 ^ mb - 1 then .nan
  else if e = 0 then .fin neg m (1 - (bias : Int) - mb)
  else .fin neg (2 ^ mb + m) ((e : Int) - bias - mb)

/-- binary32. -/
def dec32 (w : BitVec 32) : FV := fdec 8 23 127 1 w.toNat
/-- bfloat16. -/
def decBf (w : Nat) : FV := fdec 8 7 127 1 w

/-- A signed integer times 2^e. -/
def fvInt (i : Int) (e : Int) : FV := .fin (decide (i < 0)) i.natAbs e

/-- A byte as two's complement. -/
def sint8 (w : Nat) : Int := if w < 128 then (w : Int) else (w : Int) - 256

/-- Round m * 2^e to p bits of mantissa with least exponent emin, to nearest, ties to even. -/
def roundBin (p : Nat) (emin : Int) (m : Nat) (e : Int) : Nat × Int :=
  if m = 0 then (0, emin)
  else
    let t := max (e + (Nat.log2 m + 1 : Nat) - p) emin
    if t ≤ e then (m * 2 ^ (e - t).toNat, t)
    else
      let s := (t - e).toNat
      let q := m / 2 ^ s
      let r := m % 2 ^ s
      let h := 2 ^ (s - 1)
      let q := if r > h || (r = h && q % 2 = 1) then q + 1 else q
      if q = 2 ^ p then (q / 2, t + 1) else (q, t)

/-- The canonical NaN of binary32 (R244). -/
def nan32 : BitVec 32 := 0x7FC00000#32

/-- A binary32 of a format (eb, mb, bias) with IEEE infinities from an exact value. -/
def encIeee (eb mb bias : Nat) (v : FV) : Nat :=
  let s := fun (n : Bool) => n.toNat * 2 ^ (eb + mb)
  match v with
  | .nan => (2 ^ eb - 1) * 2 ^ mb + 2 ^ (mb - 1)
  | .inf n => s n + (2 ^ eb - 1) * 2 ^ mb
  | .fin n m e =>
    let emin : Int := 1 - (bias : Int) - mb
    let r := roundBin (mb + 1) emin m e
    if r.1 < 2 ^ mb then s n + r.1
    else
      let be := (r.2 - emin + 1).toNat
      if be ≥ 2 ^ eb - 1 then s n + (2 ^ eb - 1) * 2 ^ mb else s n + be * 2 ^ mb + (r.1 - 2 ^ mb)

def enc32 (v : FV) : BitVec 32 := BitVec.ofNat 32 (encIeee 8 23 127 v)
/-- R254. -/
def encBf (v : FV) : Nat := encIeee 8 7 127 v

def FV.isNan : FV → Bool
  | .nan => true
  | _ => false
def FV.isZero : FV → Bool
  | .fin _ 0 _ => true
  | _ => false
def FV.neg? : FV → Bool
  | .nan => false
  | .inf n => n
  | .fin n _ _ => n
def FV.negate : FV → FV
  | .nan => .nan
  | .inf n => .inf (!n)
  | .fin n m e => .fin (!n) m e

/-- An exact product (R246 step 1, 2): 0 times infinity is NaN. -/
def fmul : FV → FV → FV
  | .nan, _ => .nan
  | _, .nan => .nan
  | .inf a, .inf b => .inf (a != b)
  | .inf a, .fin b m _ => if m = 0 then .nan else .inf (a != b)
  | .fin a m _, .inf b => if m = 0 then .nan else .inf (a != b)
  | .fin a m e, .fin b n f => .fin (a != b) (m * n) (e + f)

/-- The exact sum of values (R246): NaN if one is NaN or infinities differ; an infinity if one occurs; an exact zero is
-0 only if every value is -0. -/
def fsum (l : List FV) : FV :=
  if l.any FV.isNan then .nan
  else
    let p := l.any (fun v => match v with | .inf false => true | _ => false)
    let n := l.any (fun v => match v with | .inf true => true | _ => false)
    if p && n then .nan else if p then .inf false else if n then .inf true
    else
      let es := l.map (fun v => match v with | .fin _ _ e => e | _ => 0)
      let e0 := es.foldl min (es.headD 0)
      let s := l.foldl (fun (a : Int) v => match v with
        | .fin g m e => let x : Int := m * 2 ^ (e - e0).toNat; if g then a - x else a + x
        | _ => a) 0
      if s = 0 then .fin (l.all (fun v => v.isZero && v.neg?) && !l.isEmpty) 0 0 else .fin (decide (s < 0)) s.natAbs e0

/-- Scale by a power of two. -/
def fscale (k : Int) : FV → FV
  | .fin n m e => .fin n m (e + k)
  | v => v

/-- binary32 addition, subtraction, multiplication and fused multiply-add (R252). -/
def add32 (a b : BitVec 32) : BitVec 32 := enc32 (fsum [dec32 a, dec32 b])
def sub32 (a b : BitVec 32) : BitVec 32 := enc32 (fsum [dec32 a, (dec32 b).negate])
def mul32 (a b : BitVec 32) : BitVec 32 := enc32 (fmul (dec32 a) (dec32 b))
def fma32 (a b c : BitVec 32) : BitVec 32 := enc32 (fsum [fmul (dec32 a) (dec32 b), dec32 c])

/-- binary32 division. -/
def div32 (a b : BitVec 32) : BitVec 32 :=
  match dec32 a, dec32 b with
  | .nan, _ => nan32
  | _, .nan => nan32
  | .inf _, .inf _ => nan32
  | .inf s, .fin t _ _ => enc32 (.inf (s != t))
  | .fin s _ _, .inf t => enc32 (.fin (s != t) 0 0)
  | .fin s m e, .fin t n f =>
    if n = 0 then (if m = 0 then nan32 else enc32 (.inf (s != t)))
    else
      let x := m * 2 ^ 80
      enc32 (.fin (s != t) (2 * (x / n) + (if x % n = 0 then 0 else 1)) (e - f - 81))

/-- floor of the square root, bit by bit from bit k. -/
def isqrtGo : Nat → Nat → Nat → Nat
  | 0, _, r => r
  | k + 1, n, r => let t := r + 2 ^ k; isqrtGo k n (if t * t ≤ n then t else r)
def isqrt (n : Nat) : Nat := isqrtGo (Nat.log2 n / 2 + 1) n 0

/-- binary32 square root. -/
def sqrt32 (a : BitVec 32) : BitVec 32 :=
  match dec32 a with
  | .nan => nan32
  | .inf s => if s then nan32 else a
  | .fin s m e =>
    if m = 0 then a else if s then nan32
    else
      let m := if e % 2 = 0 then m else 2 * m
      let e := if e % 2 = 0 then e else e - 1
      let x := m * 2 ^ 80
      let r := isqrt x
      enc32 (.fin false (2 * r + (if r * r = x then 0 else 1)) (e / 2 - 41))

/-- Reciprocal square root, rounded once. -/
def rsqrt32 (a : BitVec 32) : BitVec 32 :=
  match dec32 a with
  | .nan => nan32
  | .inf s => if s then nan32 else 0
  | .fin s m e =>
    if m = 0 then enc32 (.inf s) else if s then nan32
    else
      let m := if e % 2 = 0 then m else 2 * m
      let e := if e % 2 = 0 then e else e - 1
      let x := 2 ^ 160 / m
      let r := isqrt x
      enc32 (.fin false (2 * r + (if r * r * m = 2 ^ 160 then 0 else 1)) (-(e / 2) - 81))

/-- Order of two values: -1, 0, 1; none when one is NaN. -/
def fcmp (a b : FV) : Option Int :=
  match a, b with
  | .nan, _ => none
  | _, .nan => none
  | .inf s, .inf t => some (if s = t then 0 else if s then -1 else 1)
  | .inf s, _ => some (if s then -1 else 1)
  | _, .inf t => some (if t then 1 else -1)
  | .fin s m e, .fin t n f =>
    let z := min e f
    let x : Int := m * 2 ^ (e - z).toNat
    let y : Int := n * 2 ^ (f - z).toNat
    let x := if s then -x else x
    let y := if t then -y else y
    some (if x < y then -1 else if x = y then 0 else 1)

def lt32 (a b : BitVec 32) : Bool := fcmp (dec32 a) (dec32 b) == some (-1)
def ge32 (a b : BitVec 32) : Bool := fcmp (dec32 a) (dec32 b) == some 1 || fcmp (dec32 a) (dec32 b) == some 0

/-- maximum and minimum of IEEE 754-2019 (R252). -/
def max32 (a b : BitVec 32) : BitVec 32 :=
  match fcmp (dec32 a) (dec32 b) with
  | none => nan32
  | some 0 => if (dec32 a).neg? then b else a
  | some c => if c = 1 then a else b
def min32 (a b : BitVec 32) : BitVec 32 :=
  match fcmp (dec32 a) (dec32 b) with
  | none => nan32
  | some 0 => if (dec32 a).neg? then a else b
  | some c => if c = 1 then b else a

/-- Split into groups of 32 (R252). -/
def groups32 {α : Type} : Nat → List α → List (List α)
  | 0, _ => []
  | f + 1, l => if l.isEmpty then [] else l.take 32 :: groups32 f (l.drop 32)

/-- The sum reduction of R252 over exact values: groups of 32 padded with +0, each rounded once, added in order. -/
def sumRed (l : List FV) : BitVec 32 :=
  (groups32 (l.length + 1) l).foldl (fun acc g =>
    add32 acc (enc32 (fsum (g ++ List.replicate (32 - g.length) (.fin false 0 0))))) 0

/-- A binary32 with every NaN the canonical one (R244). -/
def canon32 (v : BitVec 32) : BitVec 32 := if (dec32 v).isNan then nan32 else v

/-- A finite value in units of 2^z, at most its own exponent; 0 for the others. -/
def FV.units (z : Int) : FV → Int
  | .fin n m e => if n then -((m * 2 ^ (e - z).toNat : Nat) : Int) else (m * 2 ^ (e - z).toNat : Nat)
  | _ => 0

/-- A sum in Fast mode (R253): the exact terms may be added in any order and grouping, each partial sum rounded to binary32, and with `flush` a
subnormal one becomes zero; `x` is the free value that stands for what the order gives. A NaN or an infinity among the terms decides as in R246, and
where every partial sum is exact the result is the sum. Otherwise the result is any value within the error that many roundings can make, and any at
all where a partial sum can overflow (log 11). -/
def fastSum (flush : Bool) (x : BitVec 32) (l : List FV) : BitVec 32 :=
  let s := fsum l
  let tiny : Int := if flush then -126 else -149
  let z := (l.map (fun v => match v with | .fin _ _ e => e | _ => 0)).foldl min (-149)
  let us := l.map (FV.units z)
  let mag := (us.map Int.natAbs).foldl (· + ·) 0
  let err := mag * l.length / 2 ^ 22 + 2 * l.length * 2 ^ (tiny - z).toNat
  let safe := decide (mag + err < 2 ^ (127 - z).toNat)
  let q := 2 ^ max (tiny - z).toNat (Nat.log2 (mag - 1) + 1 - 24)
  match s with
  | .nan => nan32
  | .inf _ => if safe || x.getLsbD 0 then enc32 s else nan32
  | .fin _ _ _ =>
    if safe && us.all (fun u => u % q == 0) then enc32 s
    else if !safe then canon32 x
    else
      let sum := us.foldl (· + ·) 0
      let y := match dec32 x with
        | .fin n m e => FV.units z (.fin n m e)
        | _ => sum
      enc32 (fvInt (max (sum - err) (min (sum + err) y)) z)

/-- Fixed-point precision of the transcendental functions: 2^-320 (log 5). -/
def fixK : Nat := 320
def fixOne : Int := 2 ^ fixK
def fixMul (a b : Int) : Int := a * b / fixOne
def fixDiv (a b : Int) : Int := a * fixOne / b

/-- atanh of a small fixed-point number by its series. -/
def fixAtanh : Nat → Nat → Int → Int → Int → Int
  | 0, _, _, _, s => s
  | f + 1, k, p, z2, s => fixAtanh f (k + 2) (fixMul p z2) z2 (s + p / (k : Int))
def fixLn2 : Int := 2 * fixAtanh 120 1 (fixOne / 3) (fixOne / 9) 0

def fixExpSer : Nat → Nat → Int → Int → Int → Int
  | 0, _, _, _, s => s
  | f + 1, k, t, r, s => let t := fixMul t r / (k : Int); fixExpSer f (k + 1) t r (s + t)

/-- e^x of a fixed-point number as (mantissa, exponent of 2). -/
def fixExp (x : Int) : Int × Int :=
  let n := (2 * x + fixLn2) / (2 * fixLn2)
  (fixExpSer 90 1 fixOne (x - n * fixLn2) fixOne, n)

/-- A value in fixed point. -/
def toFix (neg : Bool) (m : Nat) (e : Int) : Int :=
  let x : Int := if e + fixK ≥ 0 then m * 2 ^ (e + fixK).toNat else (m : Int) / 2 ^ (-(e + fixK)).toNat
  if neg then -x else x

/-- A fixed-point result, known to be inexact, rounded to binary32. -/
def ofFix (x : Int) (k : Int) : BitVec 32 :=
  enc32 (.fin (decide (x < 0)) (2 * x.natAbs + 1) (k - fixK - 1))

/-- exp (R252). -/
def exp32 (a : BitVec 32) : BitVec 32 :=
  match dec32 a with
  | .nan => nan32
  | .inf s => if s then 0 else a
  | .fin s m e =>
    if m = 0 then 0x3F800000#32
    else if !(lt32 a 0x42B20000#32) then 0x7F800000#32          -- x at or above 89
    else if lt32 a 0xC2D20000#32 then 0                        -- x below -105
    else let r := fixExp (toFix s m e); ofFix r.1 r.2

/-- Natural logarithm (R252). -/
def log32 (a : BitVec 32) : BitVec 32 :=
  match dec32 a with
  | .nan => nan32
  | .inf s => if s then nan32 else a
  | .fin s m e =>
    if m = 0 then enc32 (.inf true) else if s then nan32
    else if a = 0x3F800000#32 then 0
    else
      let l := Nat.log2 m
      let y := toFix false m (-(l : Int))
      let z := fixDiv (y - fixOne) (y + fixOne)
      ofFix (2 * fixAtanh 120 1 z (fixMul z z) 0 + ((e + l) * fixLn2)) 0

/-- tanh (R252). -/
def tanh32 (a : BitVec 32) : BitVec 32 :=
  match dec32 a with
  | .nan => nan32
  | .inf s => if s then 0xBF800000#32 else 0x3F800000#32
  | .fin s m e =>
    if m = 0 then a
    else if ge32 (a &&& 0x7FFFFFFF#32) 0x41A00000#32 then (if s then 0xBF800000#32 else 0x3F800000#32)
    else
      let r := fixExp (2 * toFix false m e)
      let v := r.1 * 2 ^ r.2.toNat
      let t := fixDiv (v - fixOne) (v + fixOne)
      ofFix (if s then -t else t) 0

/-- Sigmoid 1 / (1 + e^-x) (R252). -/
def sig32 (a : BitVec 32) : BitVec 32 :=
  match dec32 a with
  | .nan => nan32
  | .inf s => if s then 0 else 0x3F800000#32
  | .fin s m e =>
    if m = 0 then 0x3F000000#32
    else if ge32 a 0x42000000#32 then 0x3F800000#32
    else if lt32 a 0xC2D20000#32 then 0
    else
      let r := fixExp (toFix (!s) m e)
      if r.2 ≥ 0 then ofFix (fixDiv fixOne (fixOne + r.1 * 2 ^ r.2.toNat)) 0
      else ofFix (fixDiv fixOne (fixOne + r.1 / 2 ^ (-r.2).toNat)) 0

def fixErfSer : Nat → Nat → Int → Int → Int → Int
  | 0, _, _, _, s => s
  | f + 1, n, t, x2, s => fixErfSer f (n + 1) (-(fixMul t x2) / ((n : Int) + 1)) x2 (s + t / (2 * (n : Int) + 1))
def fixAtan : Nat → Nat → Int → Int → Int → Int
  | 0, _, _, _, s => s
  | f + 1, k, p, q, s => fixAtan f (k + 2) (-(p / q)) q (s + p / (k : Int))
/-- pi by Machin's formula. -/
def fixPi : Int := 4 * (4 * fixAtan 140 1 (fixOne / 5) 25 0 - fixAtan 60 1 (fixOne / 239) 57121 0)
def fixSqrtPi : Int := (isqrt (fixPi * fixOne).toNat : Int)

/-- erf (R252). -/
def erf32 (a : BitVec 32) : BitVec 32 :=
  match dec32 a with
  | .nan => nan32
  | .inf s => if s then 0xBF800000#32 else 0x3F800000#32
  | .fin s m e =>
    if m = 0 then a
    else if ge32 (a &&& 0x7FFFFFFF#32) 0x40800000#32 then (if s then 0xBF800000#32 else 0x3F800000#32)
    else
      let x := toFix false m e
      let v := fixDiv (2 * fixErfSer 200 0 x (fixMul x x) 0) fixSqrtPi
      ofFix (if s then -v else v) 0

/-- Bits per element and whether the format has scales, by format code (R240). -/
def fmtBits (f : Nat) : Nat := if f = 0 then 32 else if f = 1 then 16 else if f = 4 || f = 5 then 6 else if f = 6 then 4 else 8
def fmtScaled (f : Nat) : Bool := decide (2 ≤ f ∧ f ≤ 7)

/-- Decode of one element of a format code (R242, R246 for MXINT8). -/
def fmtDec (f w : Nat) : FV :=
  match f with
  | 0 => fdec 8 23 127 1 w
  | 1 => decBf w
  | 2 => fdec 4 3 7 2 w
  | 3 => fdec 5 2 15 1 w
  | 4 => fdec 3 2 3 0 w
  | 5 => fdec 2 3 1 0 w
  | 6 => fdec 2 1 1 0 w
  | 7 => fvInt (sint8 w) (-6)
  | _ => fvInt (sint8 w) 0

/-- (mantissa bits, least exponent, largest finite encoding without sign, sign place, E of R255) of an MX element format. -/
def mxParams (f : Nat) : Nat × Int × Nat × Nat × Int :=
  match f with
  | 2 => (3, -9, 0x7E, 7, 8)
  | 3 => (2, -16, 0x7B, 7, 15)
  | 4 => (2, -4, 0x1F, 5, 4)
  | 5 => (3, -3, 0x1F, 5, 2)
  | _ => (1, -1, 0x7, 3, 2)

/-- An element rounded to an MX format with saturation (R255 step 4): its code and whether it saturated. -/
def mxEnc (f : Nat) (v : FV) : Nat × Bool :=
  match v with
  | .fin n m e =>
    if f = 7 then
      let r := roundBin 4096 (-6) m e
      let x := r.1 * 2 ^ (r.2 + 6).toNat
      if x > 127 then (if n then 0x81 else 0x7F, true) else (if n then (256 - x) % 256 else x, false)
    else
      let p := mxParams f
      let r := roundBin (p.1 + 1) p.2.1 m e
      let code := if r.1 < 2 ^ p.1 then r.1 else (r.2 - p.2.1 + 1).toNat * 2 ^ p.1 + (r.1 - 2 ^ p.1)
      let s := n.toNat * 2 ^ p.2.2.2.1
      if code > p.2.2.1 then (s + p.2.2.1, true) else (s + code, false)
  | _ => (0, false)

/-- floor(log2 of the magnitude). -/
def floorLog2 : FV → Int
  | .fin _ m e => e + (Nat.log2 m : Nat)
  | _ => 0

/-- One block of 32 values to an MX format (R255): scale byte, element codes, NaN blocks, saturated elements. -/
def mxBlock (f : Nat) (l : List FV) : Nat × List Nat × Nat × Nat :=
  if l.any (fun v => match v with | .fin _ _ _ => false | _ => true) then (0xFF, l.map (fun _ => 0), 1, 0)
  else if l.all FV.isZero then
    (0x7F, l.map (fun v => if f = 7 then 0 else v.neg?.toNat * 2 ^ (mxParams f).2.2.2.1), 0, 0)
  else
    let nz := l.filter (fun v => !v.isZero)
    let mx := (nz.map floorLog2).foldl max (floorLog2 (nz.headD .nan))
    let x := max (-127) (min 127 (mx - (if f = 7 then 0 else (mxParams f).2.2.2.2)))
    let es := l.map (fun v => mxEnc f (fscale (-x) v))
    ((x + 127).toNat, es.map (·.1), 0, (es.filter (·.2)).length)

/-- A conversion to INT8 (R256): code and whether it counts as saturated. -/
def int8Enc (v : FV) : Nat × Bool :=
  match v with
  | .nan => (0, true)
  | .inf n => (if n then 0x80 else 0x7F, true)
  | .fin n m e =>
    let r := roundBin 4096 0 m e
    let x := r.1 * 2 ^ r.2.toNat
    if n then (if x > 128 then (0x80, true) else ((256 - x) % 256, false))
    else if x > 127 then (0x7F, true) else (x, false)

end Sys2Proof.Machine
end

