-- ==== Sys2Proof/Machine/Operands.lean ====
section
/-! DEFINITION. Operand forms of NSI: the fields of an instruction word (R340, R348, R351, R354, R356, R357, R359,
R363), the register files of an executor (R339) and tiles in a Pip's slice (R239, R240, R241). -/
namespace Sys2Proof.Machine
open Sys2Proof

/-- A field of an instruction word: bits lo to lo + wid - 1, lo at least 10. -/
def nf (w : NsiBody) (lo wid : Nat) : Nat := (w.toNat >>> (lo - 10)) % 2 ^ wid

def nfX (w : NsiBody) : Bool := nf w 10 1 == 1
def nfPG (w : NsiBody) : Nat := nf w 11 3
def nfPN (w : NsiBody) : Bool := nf w 14 1 == 1
/-- The length of an instruction in bytes (R342). -/
def nfLen (w : NsiBody) : Nat := if nfX w then 16 else 8

/-- Key of an executor in the table of executors. -/
def xkey : ExecId → Nat
  | .seq n => n.val
  | .pip c k => 100 + c.val * 32 + k.val
  | .pkr c k => 10000 + c.val * 2 + k.val

/-- EXEC_ID (R350). -/
def xid : ExecId → Nat
  | .seq n => n.val
  | .pip c k => c.val * 32 + k.val
  | .pkr c k => c.val * 2 + k.val

def isSeq : ExecId → Bool
  | .seq _ => true
  | _ => false

def isPip : ExecId → Bool
  | .pip _ _ => true
  | _ => false

def isPkr : ExecId → Bool
  | .pkr _ _ => true
  | _ => false

def Block.ex (b : Block) (x : ExecId) : Exec := tgetD b.rm.execs (xkey x) Exec.clear
def Block.exAt (b : Block) (k : Nat) : Exec := tgetD b.rm.execs k Exec.clear
def Block.setExAt (b : Block) (k : Nat) (e : Exec) : Block := { b with rm := { b.rm with execs := tset b.rm.execs k e } }
def Block.setEx (b : Block) (x : ExecId) (e : Exec) : Block := b.setExAt (xkey x) e

/-- A scalar register: s0 reads 0 (R339). -/
def Exec.rs (e : Exec) (n : Nat) : Word := if n = 0 then 0 else tgetD e.s n 0
/-- A scalar register written: a write of s0 is ignored (R339). -/
def Exec.ws (e : Exec) (n : Nat) (v : Word) : Exec := if n = 0 then e else { e with s := tset e.s n v }
/-- A predicate: p0 reads 1 (R339). -/
def Exec.rp (e : Exec) (n : Nat) : Bool := n == 0 || e.p.testBit n
/-- A predicate written: a write of p0 is ignored (R339). -/
def Exec.wp (e : Exec) (n : Nat) (v : Bool) : Exec := if n = 0 then e else { e with p := setBits e.p n 1 v.toNat }

/-- A posted operation with acquire ordering is not yet performed: the executor touches no memory until it is (R390). -/
def Exec.acquiring (e : Exec) : Bool := e.posted.any (fun p => p.ord % 2 == 1)

/-- A 32-bit immediate sign-extended (R348). -/
def sext32 (n : Nat) : Word := (BitVec.ofNat 32 n).signExtend 64

/-- The immediate of the scalar class. -/
def nfImm (w : NsiBody) : Nat := nf w 31 32
def nfI (w : NsiBody) : Bool := nf w 30 1 == 1
def nfRD (w : NsiBody) : Nat := nf w 15 5
def nfRA (w : NsiBody) : Nat := nf w 20 5
def nfRB (w : NsiBody) : Nat := nf w 25 5

/-- The second operand of the scalar class (R348). -/
def nfOp2 (e : Exec) (w : NsiBody) (ext : BitVec 64) : Word :=
  if nfI w then (if nfX w then ext else sext32 (nfImm w)) else e.rs (nfRB w)

/-- The encoding rules of the scalar class (R348, R349): whether X is allowed, whether only the immediate form
exists, whether RD names a predicate. -/
def scalarEnc (w : NsiBody) (xOk iOnly pd : Bool) : Bool :=
  nf w 63 1 == 0 && (nfI w || nfImm w == 0) && (!nfI w || nfRB w == 0) && (!nfX w || (xOk && nfI w && nfImm w == 0))
  && (!iOnly || nfI w) && (!pd || nf w 18 2 == 0)

/-- The fields of a tile descriptor (R239). -/
def tdBase (d : Word) : Nat := bits d.toNat 0 13 * 64
def tdRows (d : Word) : Nat := bits d.toNat 13 8 + 1
def tdKblk (d : Word) : Nat := bits d.toNat 21 8 + 1
def tdFmt (d : Word) : Nat := bits d.toNat 29 4
def tdPitch (d : Word) : Nat := bits d.toNat 33 13 * 64
def tdScale (d : Word) : Nat := bits d.toNat 46 13 * 64
def tdRowBytes (d : Word) : Nat := 32 * tdKblk d * fmtBits (tdFmt d) / 8

/-- The range rules of R239 and R241: no reserved code or field, PITCH at least a row rounded up to 64 B, and the
tile with its scale area within the slice. -/
def tdOk (d : Word) : Bool :=
  decide (tdFmt d ≤ 8) && bits d.toNat 59 5 == 0 && decide (cdiv (tdRowBytes d) 64 * 64 ≤ tdPitch d)
  && decide (tdBase d + (tdRows d - 1) * tdPitch d + tdRowBytes d ≤ 524288)
  && (!fmtScaled (tdFmt d) || decide (tdScale d + tdRows d * tdKblk d ≤ 524288))

/-- The offset in space 2 of a Pip's slice (R374). -/
def sliceBase : ExecId → Nat
  | .pip c k => c.val * 2 ^ 24 + k.val * 2 ^ 19
  | _ => 0

/-- The encoded element e of row r of a tile (R240). -/
def tileRaw (m : Memory) (base : Nat) (d : Word) (r e : Nat) : Nat :=
  let row := base + tdBase d + r * tdPitch d
  let w := fmtBits (tdFmt d)
  let bit := e * w
  let n := leNat (mrdN m (row + bit / 8) (cdiv (bit % 8 + w) 8))
  bits n (bit % 8) w

/-- The scale byte of block k of row r (R240). -/
def tileScale (m : Memory) (base : Nat) (d : Word) (r k : Nat) : Nat :=
  (mrd m (base + tdScale d + r * tdKblk d + k)).toNat

/-- A row of a tile written from its encoded elements. -/
def tileRowBytes (f : Nat) (l : List Nat) : List Byte :=
  let w := fmtBits f
  let n := (l.foldr (fun x (r : Nat) => x % 2 ^ w + 2 ^ w * r) 0)
  leBytes (l.length * w / 8) n

/-- Element e of row r as a value with its scale applied; for the vector class and VCVT. -/
def tileVal (m : Memory) (base : Nat) (d : Word) (r e : Nat) : FV :=
  let f := tdFmt d
  let v := fmtDec f (tileRaw m base d r e)
  if fmtScaled f then
    let s := tileScale m base d r (e / 32)
    if s = 255 then FV.nan else fscale ((s : Int) - 127) v
  else v

end Sys2Proof.Machine
end

