-- ==== Sys2Proof/Machine/Flags.lean ====
section
/-! DEFINITION. Predicates: the guard of an instruction (R341), the comparisons of the scalar class (R349) and the
results of the scalar operations. -/
namespace Sys2Proof.Machine
open Sys2Proof

/-- The guard of R341 holds. -/
def guardOn (e : Exec) (w : NsiBody) : Bool := (e.rp (nfPG w)).xor (nfPN w)

def cmpEq (a b : Word) : Bool := a == b
def cmpNe (a b : Word) : Bool := a != b
def cmpLt (a b : Word) : Bool := a.slt b
def cmpLtu (a b : Word) : Bool := a.ult b
def cmpLe (a b : Word) : Bool := a.sle b
def cmpLeu (a b : Word) : Bool := a.ule b

def aluShl (a b : Word) : Word := a <<< (b.toNat % 64)
def aluShr (a b : Word) : Word := a >>> (b.toNat % 64)
def aluSra (a b : Word) : Word := a.sshiftRight (b.toNat % 64)
/-- The high 64 bits of the unsigned product. -/
def aluMulhu (a b : Word) : Word := BitVec.ofNat 64 (a.toNat * b.toNat / 2 ^ 64)
def aluMin (a b : Word) : Word := if a.slt b then a else b
def aluMax (a b : Word) : Word := if a.slt b then b else a
def aluMinu (a b : Word) : Word := if a.ult b then a else b
def aluMaxu (a b : Word) : Word := if a.ult b then b else a
/-- BEXT: shift in IMM[5:0], width - 1 in IMM[11:6]. -/
def aluBext (a : Word) (imm : Nat) : Word := BitVec.ofNat 64 ((a.toNat >>> (imm % 64)) % 2 ^ (imm / 64 % 64 + 1))

end Sys2Proof.Machine
end

