-- ==== Sys2Proof/Machine/Hash.lean ====
section
/-! DEFINITION. The hashes the specification names: SHA-384 (R276, R487, R490, R511) and SipHash-2-4 with 128-bit
output (R133, R134). -/
namespace Sys2Proof.Machine
open Sys2Proof

/-- The round constants of SHA-384. -/
def shaKa : List Word := [
  0x428A2F98D728AE22#64, 0x7137449123EF65CD#64, 0xB5C0FBCFEC4D3B2F#64, 0xE9B5DBA58189DBBC#64,
  0x3956C25BF348B538#64, 0x59F111F1B605D019#64, 0x923F82A4AF194F9B#64, 0xAB1C5ED5DA6D8118#64,
  0xD807AA98A3030242#64, 0x12835B0145706FBE#64, 0x243185BE4EE4B28C#64, 0x550C7DC3D5FFB4E2#64,
  0x72BE5D74F27B896F#64, 0x80DEB1FE3B1696B1#64, 0x9BDC06A725C71235#64, 0xC19BF174CF692694#64,
  0xE49B69C19EF14AD2#64, 0xEFBE4786384F25E3#64, 0x0FC19DC68B8CD5B5#64, 0x240CA1CC77AC9C65#64,
  0x2DE92C6F592B0275#64, 0x4A7484AA6EA6E483#64, 0x5CB0A9DCBD41FBD4#64, 0x76F988DA831153B5#64,
  0x983E5152EE66DFAB#64, 0xA831C66D2DB43210#64, 0xB00327C898FB213F#64, 0xBF597FC7BEEF0EE4#64,
  0xC6E00BF33DA88FC2#64, 0xD5A79147930AA725#64, 0x06CA6351E003826F#64, 0x142929670A0E6E70#64,
  0x27B70A8546D22FFC#64, 0x2E1B21385C26C926#64, 0x4D2C6DFC5AC42AED#64, 0x53380D139D95B3DF#64,
  0x650A73548BAF63DE#64, 0x766A0ABB3C77B2A8#64, 0x81C2C92E47EDAEE6#64, 0x92722C851482353B#64]
def shaKb : List Word := [
  0xA2BFE8A14CF10364#64, 0xA81A664BBC423001#64, 0xC24B8B70D0F89791#64, 0xC76C51A30654BE30#64,
  0xD192E819D6EF5218#64, 0xD69906245565A910#64, 0xF40E35855771202A#64, 0x106AA07032BBD1B8#64,
  0x19A4C116B8D2D0C8#64, 0x1E376C085141AB53#64, 0x2748774CDF8EEB99#64, 0x34B0BCB5E19B48A8#64,
  0x391C0CB3C5C95A63#64, 0x4ED8AA4AE3418ACB#64, 0x5B9CCA4F7763E373#64, 0x682E6FF3D6B2B8A3#64,
  0x748F82EE5DEFB2FC#64, 0x78A5636F43172F60#64, 0x84C87814A1F0AB72#64, 0x8CC702081A6439EC#64,
  0x90BEFFFA23631E28#64, 0xA4506CEBDE82BDE9#64, 0xBEF9A3F7B2C67915#64, 0xC67178F2E372532B#64,
  0xCA273ECEEA26619C#64, 0xD186B8C721C0C207#64, 0xEADA7DD6CDE0EB1E#64, 0xF57D4F7FEE6ED178#64,
  0x06F067AA72176FBA#64, 0x0A637DC5A2C898A6#64, 0x113F9804BEF90DAE#64, 0x1B710B35131C471B#64,
  0x28DB77F523047D84#64, 0x32CAAB7B40C72493#64, 0x3C9EBE0A15C9BEBC#64, 0x431D67C49C100D4C#64,
  0x4CC5D4BECB3E42B6#64, 0x597F299CFC657E2A#64, 0x5FCB6FAB3AD6FAEC#64, 0x6C44198C4A475817#64]
def shaK : List Word := shaKa ++ shaKb

/-- The initial hash value of SHA-384. -/
def shaInit : List Word := [
  0xCBBB9D5DC1059ED8#64, 0x629A292A367CD507#64, 0x9159015A3070DD17#64, 0x152FECD8F70E5939#64,
  0x67332667FFC00B31#64, 0x8EB44A8768581511#64, 0xDB0C2E0D64F98FA7#64, 0x47B5481DBEFA4FA4#64]

/-- Big-endian bytes of a value. -/
def beBytes (n v : Nat) : List Byte := (leBytes n v).reverse
/-- The big-endian value of bytes. -/
def beNat (l : List Byte) : Nat := leNat l.reverse

def rotr (x : Word) (n : Nat) : Word := x.rotateRight n

/-- The message schedule, the newest word first, extended by n words. -/
def shaSched : Nat → List Word → List Word
  | 0, l => l
  | n + 1, l =>
    let g := fun i => l.getD i 0
    let s0 := rotr (g 14) 1 ^^^ rotr (g 14) 8 ^^^ (g 14 >>> 7)
    let s1 := rotr (g 1) 19 ^^^ rotr (g 1) 61 ^^^ (g 1 >>> 6)
    shaSched n ((g 15 + s0 + g 6 + s1) :: l)

/-- One round of SHA-384 on the eight working words. -/
def shaRound (v : List Word) (kw : Word) : List Word :=
  let g := fun i => v.getD i 0
  let t1 := g 7 + (rotr (g 4) 14 ^^^ rotr (g 4) 18 ^^^ rotr (g 4) 41) + ((g 4 &&& g 5) ^^^ (~~~(g 4) &&& g 6)) + kw
  let t2 := (rotr (g 0) 28 ^^^ rotr (g 0) 34 ^^^ rotr (g 0) 39) + ((g 0 &&& g 1) ^^^ (g 0 &&& g 2) ^^^ (g 1 &&& g 2))
  [t1 + t2, g 0, g 1, g 2, g 3 + t1, g 4, g 5, g 6]

/-- One 128-byte block. -/
def shaBlock (h : List Word) (m : List Byte) : List Word :=
  let w := (List.range 16).map (fun i => BitVec.ofNat 64 (beNat ((m.drop (8 * i)).take 8)))
  let ws := (shaSched 64 w.reverse).reverse
  let v := (List.zipWith (fun k x => k + x) shaK ws).foldl shaRound h
  List.zipWith (fun a b => a + b) h v

/-- The blocks of a padded message in order. -/
def shaBlocks : Nat → List Word → List Byte → List Word
  | 0, h, _ => h
  | n + 1, h, m => shaBlocks n (shaBlock h (m.take 128)) (m.drop 128)

/-- SHA-384: 48 bytes. -/
def sha384 (m : List Byte) : List Byte :=
  let p := m ++ [0x80] ++ zeros ((239 - m.length % 128) % 128) ++ beBytes 16 (8 * m.length)
  ((shaBlocks (p.length / 128) shaInit p).take 6).flatMap (fun w => beBytes 8 w.toNat)

/-- The four words of SipHash. -/
def sipRound (v : List Word) : List Word :=
  let v0 := v.getD 0 0 + v.getD 1 0
  let v1 := (v.getD 1 0).rotateLeft 13 ^^^ v0
  let v0 := v0.rotateLeft 32
  let v2 := v.getD 2 0 + v.getD 3 0
  let v3 := (v.getD 3 0).rotateLeft 16 ^^^ v2
  let v0 := v0 + v3
  let v3 := v3.rotateLeft 21 ^^^ v0
  let v2 := v2 + v1
  let v1 := v1.rotateLeft 17 ^^^ v2
  let v2 := v2.rotateLeft 32
  [v0, v1, v2, v3]

/-- One message word absorbed with two rounds. -/
def sipAbsorb (v : List Word) (m : Word) : List Word :=
  let v := sipRound (sipRound (v.set 3 (v.getD 3 0 ^^^ m)))
  v.set 0 (v.getD 0 0 ^^^ m)

/-- The exclusive or of the four words. -/
def sipFold (v : List Word) : Word := v.getD 0 0 ^^^ v.getD 1 0 ^^^ v.getD 2 0 ^^^ v.getD 3 0

/-- SipHash-2-4 with 128-bit output: key and result as 16 little-endian bytes. -/
def sipHash (key m : List Byte) : List Byte :=
  let k0 := BitVec.ofNat 64 (lefld key 0 8)
  let k1 := BitVec.ofNat 64 (lefld key 8 8)
  let v := [k0 ^^^ 0x736F6D6570736575#64, k1 ^^^ 0x646F72616E646F6D#64 ^^^ 0xEE#64, k0 ^^^ 0x6C7967656E657261#64, k1 ^^^ 0x7465646279746573#64]
  let n := m.length / 8
  let v := (List.range n).foldl (fun v i => sipAbsorb v (BitVec.ofNat 64 (lefld m (8 * i) 8))) v
  let last := lefld m (8 * n) 7 + (m.length % 256) * 2 ^ 56
  let v := sipAbsorb v (BitVec.ofNat 64 last)
  let v := v.set 2 (v.getD 2 0 ^^^ 0xEE#64)
  let v := sipRound (sipRound (sipRound (sipRound v)))
  let h0 := sipFold v
  let v := v.set 1 (v.getD 1 0 ^^^ 0xDD#64)
  let v := sipRound (sipRound (sipRound (sipRound v)))
  leBytes 8 h0.toNat ++ leBytes 8 (sipFold v).toNat

end Sys2Proof.Machine
end

