-- ==== Sys2Proof/Machine/Regs.lean ====
section
/-! DEFINITION. Register reads and writes: what a read returns (R15, R519, R527), the tests of R417, the
access classes, counter fields (R381) and the command registers. -/
namespace Sys2Proof.Machine
open Sys2Proof

/-- The register that occupies an offset (R518). -/
def findReg (off : Nat) : Option RDesc :=
  if off % 8 ≠ 0 then none
  else regTable.find? (fun r => decide (r.off ≤ off) && decide (off < r.off + 8 * r.n))

/-- A word with bits lo.. of given widths: pairs of place and value. -/
def mkWord (l : List (Nat × Nat)) : Word := BitVec.ofNat 64 ((l.map (fun p => p.2 * 2 ^ p.1)).foldl (· + ·) 0)

/-- Bits of a list of truth values, first lowest. -/
def bitsOf (l : List Bool) : Nat := l.foldr (fun x r => x.toNat + 2 * r) 0

/-- STOP_CAUSE (R527): the highest cause that holds. -/
def Block.stopCause (b : Block) : Nat :=
  if b.sa.seed then 4 else if b.lgr.tableLoss then 3 else if b.lgr.stopped then 2
  else if b.fget F.RQT_CTRL_ADMIT_EN = 0 then 1 else 0

/-- Entries in one of some states. -/
def Block.inStates (b : Block) (l : List Nat) : Nat :=
  (b.rq.table.filter (fun e => l.contains (bits ((e.2.getD 0 0).toNat) 0 4))).length

def Block.semAt (b : Block) (n : Nat) : Sem := tgetD b.mgt.sems n { holder := 0, expiry := 0, lease := 0 }

/-- SEMnn as read (R428). -/
def Block.semWord (b : Block) (n : Nat) : Word :=
  let m := b.semAt n
  mkWord [(4, m.lease), (24, m.holder), (32, if m.holder = 0 then 0 else m.expiry - b.clk.timeUs)]

def Block.heldBy (b : Block) (p : Nat) : Nat := bitsOf ((List.range 32).map (fun n => (b.semAt n).holder == p))

/-- Groups that hold staged values (MGT_CMT_PEND). -/
def Block.stagedGroups (b : Block) : List Nat :=
  b.regs.staged.filterMap (fun e => (findReg e.1).bind (·.group))

/-- LNK_STATnn as read (R457), the stored part holding counts and TEST. -/
def Block.linkWord (b : Block) (l : Nat) : Word :=
  match tget b.io.links l with
  | none => 0
  | some k => mkWord [(0, k.state), (4, k.lanes), (8, k.peerNode), (16, k.peerLink)] ||| b.reg (0x1500 + 8 * l)

/-- LNK_CRDnn as read (R457). -/
def Block.creditWord (b : Block) (l : Nat) : Word :=
  match tget b.io.links l with
  | none => 0
  | some k => mkWord [(0, k.held.1 + k.held.2), (16, k.inflight.1 + k.inflight.2), (32, k.peer.1 + k.peer.2), (48, k.grant.1 + k.grant.2)]

/-- MEM_STKnn as read (R459). -/
def Block.stkWord (b : Block) (n : Nat) : Word :=
  match tget b.io.stks n with
  | none => 0
  | some k => mkWord [(0, bitsOf k.gangs), (3, bitsOf ((List.range 3).map (fun g => k.rebuild.any (fun r => r.1 == g)))),
      (6, k.spares.length), (10, (!k.up).toNat), (16, ((k.rebuild.head?).map (fun r => r.2.2)).getD 0)]

/-- Granules of the hot store: 128 for each bank of an enabled, unretired cluster that passed the bond test (R279). -/
def Block.hotBanks (b : Block) : List Nat :=
  (List.range 64).filter (fun n => b.cp.enabled.testBit n && !(b.cp.retired.testBit n) && !((b.fget F.STA_BOND_FAILED).testBit n))

def Block.hotUsed (b : Block) : Nat := (b.st.hot.map (fun c => c.granules.length)).foldl (· + ·) 0

/-- Pips in enabled clusters and not retired (R268). -/
def Block.pipsLive (b : Block) : Nat :=
  (((List.range 64).filter b.clusterOn).map (fun c => ((List.range 32).filter (fun k => !b.pipRetired c k)).length)).foldl (· + ·) 0

/-- The fields the Keep region gives have been loaded (R22): the KEEP stage has read a copy, or the block has come to RUN. -/
def Block.keepShown (b : Block) : Bool := b.fget F.STA_STAT_KEEP == 1 || b.run?

/-- A text unit is in service (LNK_UNIT_LIVE). -/
def Block.unitLive (b : Block) (kind n : Nat) : Bool := !(tgetD b.cp.units (kind * 64 + n) TextUnit.reset).retired

/-- The word a register reads in RUN, for the registers whose value the block computes when it is read. -/
def Block.view (b : Block) (s : RegSrc) (off : Nat) : Word :=
  let w := b.reg off
  let link := fun (p : Link → Bool) => mkWord [(0, bitsOf ((List.range 64).map (fun l => ((tget b.io.links l).map p).getD false)))]
  if off = 0 then BitVec.ofNat 64 (setBits w.toNat 44 7 ((List.range 64).filter b.clusterOn).length)
  else if off = 0x0828 then mkWord [(0, b.pipsLive)]
  else if (off = 0x0C18 ∨ off = 0x1430) ∧ !b.keepShown then 0
  else if off = 0x0C18 then mkWord [(0, bitsOf ((List.range 32).map (fun i => (tgetD b.cp.units (192 + i / 4) TextUnit.reset).groups.testBit (i % 4))))]
  else if off = 0x1430 then mkWord [(0, bitsOf ((List.range 8).map (b.unitLive 0))), (8, bitsOf ((List.range 32).map (b.unitLive 2)))]
  else if off = 0x0200 then BitVec.ofNat 64 (setBits w.toNat 4 4 b.stopCause)
  else if off = 0x0240 then mkWord [(0, b.inStates [1, 2, 3, 4, 5, 6, 7]), (17, b.inStates [4]), (34, b.inStates [5, 6])]
  else if off = 0x0370 then w ||| mkWord [(32, b.rq.listFree.length)]
  else if off = 0x0388 then ((tget b.mgt.latch (srcKey s)).map (·.1)).getD w
  else if off = 0x0390 then ((tget b.mgt.latch (srcKey s)).map (·.2)).getD w
  else if off = 0x0418 then w ||| mkWord [(32, b.rq.tokFree.length)]
  else if off = 0x0750 then mkWord [(0, (b.rq.side.filter (fun s => s.2.drafted)).length),
      (16, (b.live.filter (fun e => b.eget e E.STATE == 4 && b.eget e E.STIER == 3)).length)]
  else if off = 0x0748 then w ||| mkWord [(24, b.rq.unitFree.length)]
  else if off = 0x0B18 then w ||| mkWord [(32, b.fget F.MDL_WARM_SIZE_UNITS - (b.st.warm.map (fun x => x.2.2.2)).foldl (· + ·) 0)]
  else if off = 0x0B28 then w ||| mkWord [(32, b.fget F.MDL_STATE_SIZE_UNITS - (b.st.states.map (fun x => x.2.2.2)).foldl (· + ·) 0)]
  else if off = 0x0B58 then mkWord [(0, 128 * b.hotBanks.length), (16, 128 * b.hotBanks.length - b.hotUsed),
      (32, ((b.st.hot.filter (fun c => !c.adapter && b.st.pinned.contains c.num)).map (fun c => c.granules.length)).foldl (· + ·) 0)]
  else if off = 0x0B60 then mkWord [(0, (b.st.hot.filter (fun c => c.adapter && c.resident)).length)]
  else if off = 0x0C10 then w ||| mkWord [(16, 256 - ((b.ob.ensembles.map (·.2) ++ (b.ob.acts.filter (fun a => a.what == 9)).map (·.bytes)).map
      (fun l => cdiv l.length 65536)).foldl (· + ·) 0)]
  else if off = 0x0D10 then w ||| mkWord [(16, if b.keepShown then bitsOf ((List.range 16).map (b.unitLive 1)) else 0)]
  else if off = 0x0E98 then mkWord [(0, b.log.staged.length)]
  else if off = 0x1000 then (if s = .portB then 1 else 0)
  else if off = 0x1010 then (if s = .portB then b.mgt.diagB else b.mgt.diagA)
  else if off = 0x1070 then mkWord [(0, bitsOf ((List.range 8).map (fun p => (b.stemAt p).up))), (8, bitsOf ((List.range 8).map (fun p => (b.stemAt p).retired)))]
  else if off = 0x1018 then mkWord [(0, bitsOf ((List.range 16).map (fun g => b.stagedGroups.contains g)))]
  else if 0x1100 ≤ off ∧ off < 0x1200 then b.semWord ((off - 0x1100) / 8)
  else if off = 0x1208 then mkWord [(0, b.heldBy 1), (32, b.heldBy 2)]
  else if off = 0x1410 then link (fun k => k.state == 2 || k.state == 3)
  else if off = 0x1418 then link (fun k => k.state == 4)
  else if off = 0x1420 then link (fun k => k.state == 3)
  else if 0x1500 ≤ off ∧ off < 0x1700 then b.linkWord ((off - 0x1500) / 8)
  else if 0x1700 ≤ off ∧ off < 0x1900 then b.creditWord ((off - 0x1700) / 8)
  else if off = 0x1910 then mkWord [(0, bitsOf ((List.range 12).map (fun n => ((tget b.io.stks n).map (·.up)).getD false))),
      (12, bitsOf ((List.range 36).map (fun i => ((tget b.io.stks (i / 3)).map (fun k => k.gangs.getD (i % 3) false)).getD false)))]
  else if 0x1980 ≤ off ∧ off < 0x19E0 then mkWord [(0, ((tget b.io.stks ((off - 0x1980) / 8)).map (·.out)).getD 0)]
  else if 0x1A00 ≤ off ∧ off < 0x1A60 then b.stkWord ((off - 0x1A00) / 8)
  else if 0x2080 ≤ off ∧ off < 0x20E0 then
    BitVec.ofNat 64 (setBits w.toNat 0 32 (min (w.toNat % 2 ^ 32 + tgetD b.mem.written ((off - 0x2080) / 8) 0 / 2 ^ 40) (2 ^ 32 - 1)))
  else w

/-- Registers that operate under their own rules outside RUN (R519). -/
def ownRules (off : Nat) : Bool :=
  decide (off < 0x100) || decide (0x1000 ≤ off ∧ off < 0x1400) || decide (0x1D00 ≤ off) || off == 0x1C20 || off == 0x1C30
  || off == 0x1C38 || off == 0x0F00 || off == 0x0128 || decide (0x0170 ≤ off ∧ off < 0x01B0)

/-- Registers that read outside RUN though they take no write there (R519): RQT_CTRL, and every register whose
Reset column holds keep. -/
def readsOutside (off : Nat) : Bool :=
  ownRules off || off == 0x0200 || ((findReg off).map (fun r => r.fields.any (·.keep))).getD false

/-- The mask of a field. -/
def fmask (lo wid : Nat) : Nat := (2 ^ wid - 1) * 2 ^ lo

/-- The bits of a register's fields that the start image loads (R21). -/
def RDesc.imgMask (r : RDesc) : Nat := ((r.fields.filter (fun f => f.img)).map (fun f => fmask f.lo f.wid)).foldl (· + ·) 0

/-- What a read of a register returns to a source (R15, R21, R519): fields the image loads show once start has completed, or in Seed mode. -/
def Block.regRead (b : Block) (s : RegSrc) (off : Nat) : Word :=
  if b.run? then b.view s off
  else if !readsOutside off then 0
  else if b.stage = 10 then b.view s off
  else match findReg off with
    | some r => b.view s off &&& ~~~(BitVec.ofNat 64 r.imgMask)
    | none => 0

/-- The OP field of a command register (R417): always reads 0. -/
def opFld (off : Nat) : Option Fld :=
  if 0x1100 ≤ off ∧ off < 0x1200 then some (F.SEM_OP.at ((off - 0x1100) / 8))
  else [F.STA_CMD_OP, F.TICK_SEQ_CMD_OP, F.PG_CMD_OP, F.TOK_SLOT_CMD_OP, F.GRM_CMD_OP, F.STP_CMD_OP, F.PIP_CMD_OP, F.MDL_CMD_OP,
    F.MDL_ADP_CMD_OP, F.ORC_CMD_OP, F.MAT_CMD_OP, F.VRD_CMD_OP, F.MGT_COMMIT_OP, F.LNK_CMD_OP, F.MEM_CMD_OP, F.LIF_CMD_OP].find?
      (fun f => f.off == off)

/-- The nonzero OP a written value carries, 0 for no command. -/
def opOf (off : Nat) (v : Word) : Nat := ((opFld off).map (fun f => bits v.toNat f.lo f.wid)).getD 0

/-- A source holds a semaphore now (R19, R422). -/
def Block.holds (b : Block) (s : RegSrc) (n : Nat) : Bool :=
  let m := b.semAt n
  decide (b.clk.timeUs < m.expiry) && ((m.holder == 1 && s == .portA) || (m.holder == 2 && s == .portB))

/-- A field is touched by a write (R417). -/
def touched (allRo : Bool) (f : FDesc) (isOp : Bool) (old new : Nat) : Bool :=
  if f.resv then new ≠ 0
  else match f.acc with
    | .ro => allRo && decide (old ≠ new)
    | .w1c => decide (new ≠ 0)
    | .rwi => decide (old ≠ new)
    | _ => !(isOp && new == 0)

/-- The tests of R417 in order: 0 or the status of the first that fails. -/
def Block.regTest (b : Block) (s : RegSrc) (r : RDesc) (off : Nat) (v : Word) (busy : Bool) : Nat :=
  let old := (b.regRead s off).toNat
  let allRo := r.fields.all (fun f => f.acc == .ro)
  let isOp := fun (f : FDesc) => ((opFld off).map (fun o => o.lo == f.lo)).getD false
  let val := fun (f : FDesc) => bits v.toNat f.lo f.wid
  let tch := r.fields.filter (fun f => touched allRo f (isOp f) (if isOp f then 0 else bits old f.lo f.wid) (val f))
  let sems := (if tch.isEmpty then [] else r.sem.toList) ++
    (if tch.any (fun f => f.acc == .rwg) then r.group.toList else []) ++
    (if off = 0x1008 && opOf off v ≠ 0 then [bits v.toNat 0 5] else [])
  if sems.any (fun n => !b.holds s n) then 4
  else if tch.any (fun f => f.resv || f.acc == .ro) then 1
  else if (off = 0x1020 && s ≠ .portA || off = 0x1028 && s ≠ .portB) && !tch.isEmpty then 1
  else if tch.any (fun f => f.bad.any (fun g => decide (g.1 ≤ val f ∧ val f ≤ g.2))) then 9
  else if busy && opOf off v ≠ 0 then 2
  else 0

/-- A write merged into a held (mask, value) pair (R15, R16). -/
def mergeHeld (t : Tbl (Word × Word)) (off m v : Nat) : Tbl (Word × Word) :=
  let p := tgetD t off (0, 0)
  tset t off (p.1 ||| BitVec.ofNat 64 m, (p.2 &&& ~~~(BitVec.ofNat 64 m)) ||| BitVec.ofNat 64 (v &&& m))

/-- One field of a register takes a written value by its access class (R15). -/
def Block.putField (b : Block) (off : Nat) (v : Word) (f : FDesc) : Block :=
  let x := bits v.toNat f.lo f.wid
  let fl : Fld := ⟨off, f.lo, f.wid⟩
  if f.resv || ((opFld off).map (fun o => o.lo == f.lo)).getD false || (decide (0x1100 ≤ off ∧ off < 0x1200)) then b
  else match f.acc with
    | .ro => b
    | .w1c => b.fset fl (b.fget fl &&& (2 ^ f.wid - 1 - x))
    | .rw | .rwi => b.fset fl x
    | .rwt => { b with regs := { b.regs with pend := mergeHeld b.regs.pend off (fmask f.lo f.wid) v.toNat } }
    | .rwg => { b with regs := { b.regs with staged := mergeHeld b.regs.staged off (fmask f.lo f.wid) v.toNat } }

/-- When the last fault bit of LGR_FAULT is cleared, FROZEN clears too (R153). -/
def Block.unfreeze (b : Block) : Block := if (b.reg 0x03B0).toNat % 32 = 0 then b.fset F.LGR_FAULT_FROZEN 0 else b

/-- A register write with the tests of R417; `act` is what a nonzero OP does once the write stands. -/
def Block.regWrite (b : Block) (s : RegSrc) (off : Nat) (v : Word) (busy : Bool) (act : Block → Block) : Block :=
  match findReg off with
  | none => b.respond s 6
  | some r =>
    if !(b.run? || ownRules off) then b.respond s 2
    else
      let st := b.regTest s r off v busy
      if st ≠ 0 then b.respond s st
      else
        let b := (r.fields.foldl (fun b f => b.putField off v f) b)
        let b := if off = 0x03B0 then b.unfreeze else b
        let b := b.respond s 0
        if opOf off v = 0 then b else act b

/-- An atomic add to a register (R381, R414): counter fields only; the word before, or a status. -/
def Block.counterAdd (b : Block) (s : RegSrc) (off n : Nat) : Except Nat (Word × Block) :=
  match findReg off with
  | none => .error 6
  | some r =>
    if r.fields.any (·.counter) then
      if !(b.run? || ownRules off) then .error 2
      else .ok (b.view s off, b.setReg off (b.reg off + BitVec.ofNat 64 n))
    else .error 8

/-- A command register's value: pairs of place and value. -/
def cmdWord (l : List (Nat × Nat)) : Word := mkWord l

/-- STATUS of a command register set. -/
def Block.status (b : Block) (f : Fld) (x : Nat) : Block := b.fset f x

end Sys2Proof.Machine
end

