-- ==== Sys2Proof/Machine/Loads.lean ====
section
/-! DEFINITION. The running digest of the configuration (R511), the start of a load or an unload, and the command registers no semaphore
guards (R159, R160, R188, R202), which a sequencer may write as well as a port. -/
namespace Sys2Proof.Machine
open Sys2Proof

/-- CFG extended by an event (R511): register offset, operation, object number, 48 bytes of values or digest. -/
def Block.cfgEvent (b : Block) (off op num : Nat) (l : List Byte) : Block :=
  let e := leBytes 2 off ++ leBytes 1 op ++ zeros 1 ++ leBytes 4 num ++ (padTo l 48).take 48 ++ zeros 8
  let d := sha384 (padTo b.sa.cfg 48 ++ e)
  ({ b with sa := { b.sa with cfg := d } }).fset F.STA_CFG_DIGEST (lefld d 0 8)

/-- A field of a written word. -/
def wfld (v : Word) (f : Fld) : Nat := bits v.toNat f.lo f.wid

/-- A word with some fields set. -/
def wput (l : List (Fld × Nat)) : Word := mkWord (l.map (fun p => (p.1.lo, p.2 % 2 ^ p.1.wid)))

/-- A check of an object is in progress, or an action on it waits for the boundary. -/
def Block.objBusy (b : Block) (kind n : Nat) : Bool :=
  b.ob.checks.any (fun c => c.1 == kind && c.2.1 == n)
  || b.ob.acts.any (fun a => (a.what == 2 * kind + 1 || a.what == 2 * kind + 2) && a.a == n)

/-- A check begins: STATUS 1. -/
def Block.startCheck (b : Block) (kind n base : Nat) (st : Fld) : Block :=
  ({ b with ob := { b.ob with checks := b.ob.checks ++ [(kind, n, base)] } }).status st 1

/-- An unload accepted, or STATUS 3 where there is nothing to unload. -/
def Block.startUnload (b : Block) (kind n off : Nat) (there : Bool) (st : Fld) : Block :=
  if !there then b.status st 3
  else ((b.atBoundary (2 * kind + 2) n 0 0).status st 0).cfgEvent off 2 n []

/-- TOK_SLOT_CMD written (R159, R160). -/
def Block.tokSlotCmd (b : Block) (s : RegSrc) (v : Word) : Block :=
  let n := wfld v F.TOK_SLOT_CMD_SLOT
  let busy := b.objBusy 0 n || b.live.any (fun e => b.eget e E.VOCAB == n)
  b.regWrite s 0x0440 v busy (fun b =>
    if wfld v F.TOK_SLOT_CMD_OP = 1 then b.startCheck 0 n (b.fget F.TOK_SLOT_ADDR_BASE) F.TOK_SLOT_CMD_STATUS
    else b.startUnload 0 n 0x0440 (tget b.ob.vocabs n).isSome F.TOK_SLOT_CMD_STATUS)

/-- GRM_CMD written (R188). -/
def Block.grmCmd (b : Block) (s : RegSrc) (v : Word) : Block :=
  let n := wfld v F.GRM_CMD_NUMBER
  let busy := b.objBusy 1 n || b.live.any (fun e => b.eget e E.GRAMMAR == n)
  b.regWrite s 0x0600 v (n != 0 && busy) (fun b =>
    if n = 0 then b.status F.GRM_CMD_STATUS 2
    else if wfld v F.GRM_CMD_OP = 1 then b.startCheck 1 n (b.fget F.GRM_ADDR_BASE) F.GRM_CMD_STATUS
    else b.startUnload 1 n 0x0600 (tget b.ob.grammars n).isSome F.GRM_CMD_STATUS)

/-- STP_CMD written (R202). -/
def Block.stpCmd (b : Block) (s : RegSrc) (v : Word) : Block :=
  let n := wfld v F.STP_CMD_NUMBER
  let busy := b.objBusy 2 n || b.live.any (fun e => b.eget e E.STOPSET == n)
  b.regWrite s 0x0680 v (n != 0 && busy) (fun b =>
    if n = 0 then b.status F.STP_CMD_STATUS 2
    else if wfld v F.STP_CMD_OP = 1 then b.startCheck 2 n (b.fget F.STP_ADDR_BASE) F.STP_CMD_STATUS
    else b.startUnload 2 n 0x0680 (tget b.ob.stops n).isSome F.STP_CMD_STATUS)

/-- What a nonzero OP written by any source starts in a command register that no semaphore guards. -/
def Block.freeCmd (b : Block) (s : RegSrc) (off : Nat) (v : Word) : Block :=
  if off = 0x0440 then b.tokSlotCmd s v
  else if off = 0x0600 then b.grmCmd s v
  else if off = 0x0680 then b.stpCmd s v
  else b.regWrite s off v false (fun b => b)

end Sys2Proof.Machine
end

