-- ==== Sys2Proof/Machine/Lifetime.lean ====
section
/-! DEFINITION. The Keep region (R456, R501): its copies, the attempt record (R502), the retirement record (R503), checkpoints (R513); what a
start that fails leaves (R495) and Seed mode (R496). -/
namespace Sys2Proof.Machine
open Sys2Proof

/-- The calendar (R486). -/
def Block.calendar (b : Block) : Nat := (b.clk.timeUs + b.fget F.LIF_CAL_OFFSET_US) % 2 ^ 64

/-- Stacks in service, ascending. -/
def Block.stacksUp (b : Block) : List Nat := (b.io.stks.filter (fun e => e.2.up)).map (·.1)

/-- Address of copy g of the Keep region of a stack. -/
def keepAddr (stack g off : Nat) : Nat := (stack * 4 + g) * 2 ^ 24 + off

/-- A Keep record written to every copy of the stacks named (R456), which counts as written bytes of each (R512). -/
def Block.keepPut (b : Block) (stks : List Nat) (off : Nat) (l : List Byte) : Block :=
  stks.foldl (fun b st => (List.range 3).foldl (fun b g =>
    if (b.stackAt st).gangs.getD g false then { b with mem := { b.mem with
      keep := mwrN b.mem.keep (keepAddr st g off) l, written := tset b.mem.written st (tgetD b.mem.written st 0 + l.length) } } else b) b) b

def Block.keepAll (b : Block) (off : Nat) (l : List Byte) : Block := b.keepPut b.stacksUp off l
def Block.keepLow (b : Block) (off : Nat) (l : List Byte) : Block := b.keepPut (b.stacksUp.take 1) off l

/-- Every readable copy of n bytes of the Keep region. -/
def Block.keepCopies (b : Block) (off n : Nat) : List (List Byte) :=
  b.stacksUp.flatMap (fun st => ((List.range 3).filter (fun g => (b.stackAt st).gangs.getD g false)).map (fun g =>
    mrdN b.mem.keep (keepAddr st g off) n))

/-- A record closed by its CRC-32 in its last 4 bytes holds, and is not all zero. -/
def crcHolds (l : List Byte) : Bool :=
  decide (4 ≤ l.length) && lefld l (l.length - 4) 4 == crc32 (l.take (l.length - 4)) && !allZero l

/-- The record of the highest SEQ among some valid ones; SEQ in 8 bytes at `so`. -/
def newest (so : Nat) (l : List (List Byte)) : Option (List Byte) :=
  l.foldl (fun r x => match r with
    | none => some x
    | some y => if lefld x so 8 > lefld y so 8 then some x else r) none

/-- An attempt record (R502). -/
def Block.attemptRecord (b : Block) (outcome cause fails detail : Nat) : List Byte :=
  withCrc (leBytes 8 b.sa.recSeq ++ leBytes 8 b.clk.timeUs ++ leBytes 8 (if b.sa.calSet then b.calendar else 0)
    ++ leBytes 4 b.sa.imageId ++ leBytes 2 b.sa.secVersion ++ leBytes 1 outcome ++ leBytes 1 b.stage ++ leBytes 1 cause ++ leBytes 1 fails
    ++ zeros 2 ++ leBytes 4 detail ++ zeros 20)

/-- The attempt record in force rewritten. -/
def Block.putAttempt (b : Block) (outcome cause fails detail : Nat) : Block :=
  b.keepAll (b.sa.recSeq % 64 * 64) (b.attemptRecord outcome cause fails detail)

/-- A new attempt log record, counted in LIF_STARTS.ATTEMPTS. -/
def Block.newAttempt (b : Block) (outcome cause fails detail : Nat) : Block :=
  let b := b.count F.LIF_STARTS_ATTEMPTS
  let b := { b with sa := { b.sa with recSeq := b.fget F.LIF_STARTS_ATTEMPTS } }
  b.putAttempt outcome cause fails detail

/-- The mask of retired Pips of a cluster, pending ones included. -/
def Block.pipMask (b : Block) (c : Nat) : Nat :=
  (if c % 2 = 0 then b.fget (F.PIP_RET_LOW.at (c / 2)) else b.fget (F.PIP_RET_HIGH.at (c / 2)))
  ||| bitsOf ((List.range 32).map (fun k => b.cp.retiringPips.contains (c, k)))

/-- A text unit: kind 0 lattice, 1 matcher, 2 mask, 3 Orchard. -/
def Block.unit (b : Block) (kind n : Nat) : TextUnit := tgetD b.cp.units (kind * 64 + n) TextUnit.reset
def Block.setUnit (b : Block) (kind n : Nat) (u : TextUnit) : Block :=
  { b with cp := { b.cp with units := tset b.cp.units (kind * 64 + n) u } }

/-- A unit is retired, or its retirement waits for the boundary. -/
def Block.unitOut (b : Block) (kind n : Nat) : Bool :=
  (b.unit kind n).retired || b.ob.acts.any (fun a => a.what == 24 && a.a == kind * 64 + n)

/-- A thread group is retired, or its retirement waits for the boundary (R311). -/
def Block.groupOut (b : Block) (c : Nat) : Bool :=
  !(b.unit 3 (c / 4)).groups.testBit (c % 4) || b.ob.acts.any (fun a => a.what == 23 && a.a == c)

/-- The retirement record (R503). -/
def Block.retirementRecord (b : Block) : List Byte :=
  withCrc (leBytes 8 b.sa.retSeq
    ++ (List.range 64).flatMap (fun c => leBytes 4 (b.pipMask c))
    ++ leBytes 8 (b.cp.retired ||| bitsOf ((List.range 64).map (fun c => b.cp.retiring.contains c)))
    ++ leBytes 4 (bitsOf ((List.range 32).map (fun i => b.groupOut i)))
    ++ leBytes 2 (bitsOf ((List.range 16).map (fun i => b.unitOut 1 i)))
    ++ leBytes 1 (bitsOf ((List.range 8).map (fun i => b.unitOut 0 i)))
    ++ leBytes 1 (bitsOf ((List.range 8).map (fun i => (b.stemAt i).retired)))
    ++ leBytes 4 (bitsOf ((List.range 32).map (fun i => b.unitOut 2 i)))
    ++ zeros 4
    ++ leBytes 8 (bitsOf ((List.range 64).map (fun l => (b.linkAt l).state == 4)))
    ++ (List.range 32).flatMap (fun i => leBytes 1 (tgetD b.io.lanesRetired (2 * i) 0 + 16 * tgetD b.io.lanesRetired (2 * i + 1) 0))
    ++ (List.range 12).flatMap (fun n => leBytes 8 (b.stackAt n).out)
    ++ leBytes 2 (bitsOf ((List.range 12).map (fun n => (b.stackAt n).retired)))
    ++ zeros 6
    ++ leBytes 8 (bitsOf ((List.range 36).map (fun i => !((b.stackAt (i / 3)).gangs.getD (i % 3) true))))
    ++ (List.range 12).flatMap (fun n => (List.range 54).flatMap (fun i => leBytes 1 ((b.stackAt n).posmap.getD i 0)))
    ++ zeros 3004)

/-- Written bytes of each stack carried into whole TiB (R512). -/
def Block.writeTib (b : Block) : Block :=
  let b := b.mem.written.foldl (fun b e => b.count (F.LIF_STK_WRITE_TIB.at e.1) (e.2 / 2 ^ 40)) b
  { b with mem := { b.mem with written := b.mem.written.map (fun e => (e.1, e.2 % 2 ^ 40)) } }

/-- A checkpoint record (R513). -/
def Block.checkpointRecord (b : Block) (seq : Nat) : List Byte :=
  let w := fun (o : Nat) => leBytes 8 (b.reg o).toNat
  withCrc (leBytes 4 0x4C494645 ++ leBytes 4 1 ++ leBytes 8 seq ++ leBytes 8 (b.fget F.STA_MFG_SERIAL) ++ leBytes 8 b.calendar
    ++ w 0x2030 ++ w 0x2038 ++ w 0x2040 ++ (List.range 12).flatMap (fun n => w (0x2080 + 8 * n))
    ++ (List.range 8).flatMap (fun n => w (0x20E0 + 8 * n)) ++ zeros 3876)

/-- A checkpoint written (R513): to the Keep regions, and to LIF_OUT with a report where it is not 0. -/
def Block.checkpoint (b : Block) : Block :=
  let b := b.writeTib
  let seq := b.fget F.LIF_CKPT_SEQ + 1
  let b := b.fset F.LIF_CKPT_SEQ seq
  let r := b.checkpointRecord seq
  let b := b.keepAll (0x2000 + seq % 2 * 4096) r
  let b := { b with sa := { b.sa with ckptUs := b.clk.timeUs } }
  let out := b.fget F.LIF_OUT_ADDR
  if out = 0 then b else (b.agentPut out r 2 none 9 0).report 17 1 seq

/-- The retirement record rewritten, with its checkpoint (R503, R513). -/
def Block.retirementChanged (b : Block) : Block :=
  let b := { b with sa := { b.sa with retSeq := b.sa.retSeq + 1 } }
  (b.keepAll 0x4000 b.retirementRecord).checkpoint

/-- The bits of a register that outlive a power-down of every domain but PD19 and PD17 (R495, R519): of the registers that operate outside RUN
what the image does not give, and every field loaded from the Keep region. -/
def keepMask (r : RDesc) : Word := BitVec.ofNat 64 (((r.fields.filter (fun f => if ownRules r.off then !f.img else f.keep)).map
  (fun f => fmask f.lo f.wid)).foldl (· + ·) 0)

/-- The registers after such a power-down. -/
def Regs.powerDown (r : Regs) : Regs :=
  { r with
    cur := r.cur.map (fun e => match findReg e.1 with
      | some d => (e.1, (e.2 &&& keepMask d) ||| (tgetD Regs.reset.cur e.1 0 &&& ~~~(keepMask d)))
      | none => e)
    pend := r.pend.filter (fun e => ownRules e.1)
    staged := r.staged.filter (fun e => ownRules e.1)
    committed := []
    comPend := [] }

/-- Space 0 as another number of mapped stacks lays it out (R375): each byte keeps its stack and stack byte; stacks no longer mapped drop out. -/
def remapStack (s s' : Nat) (m : Memory) : Memory :=
  if s = s' then m
  else m.foldl (fun r c =>
    let st := c.1 / 4096 % max s 1
    let y := c.1 / 4096 / max s 1 * 4096 + c.1 % 4096
    if st < s' then mwr r ((y / 4096 * s' + st) * 4096 + y % 4096) c.2 else r) []

/-- A text unit as its retirements alone show it (R22). -/
def TextUnit.kept (u : TextUnit) : TextUnit := { TextUnit.reset with retired := u.retired, groups := u.groups }

/-- Every domain but PD19 and PD17 off (R495): what lies in them is lost; space 0 shows stack 00 only. What
the KEEP stage has loaded stays (R22). -/
def Block.powerDown (b : Block) : Block :=
  let n := Block.reset b.sa.key b.mem.keep
  { n with
    regs := b.regs.powerDown
    mgt := b.mgt
    clk := { n.clk with timeUs := b.clk.timeUs, cycles := b.clk.cycles, free := b.clk.free }
    mem := { n.mem with stack := remapStack (max b.stacksS 1) 1 b.mem.stack, written := b.mem.written }
    cp := { n.cp with retired := b.cp.retired, units := b.cp.units.map (fun u => (u.1, u.2.kept)) }
    io := { n.io with stem := b.io.stem, stks := b.io.stks, lanesRetired := b.io.lanesRetired,
                      links := (b.io.links.filter (fun l => l.2.state == 4)).map (fun l => (l.1, { Link.reset with state := 4 })) }
    pw := { n.pw with sensors := b.pw.sensors, badRun := b.pw.badRun, goodRun := b.pw.goodRun, failed := b.pw.failed, energy := b.pw.energy,
                      hotTime := b.pw.hotTime, oeTime := b.pw.oeTime }
    sa := { n.sa with seed := b.sa.seed, f := b.sa.f, recSeq := b.sa.recSeq, failsSinceReset := b.sa.failsSinceReset, lastTod := b.sa.lastTod,
                      calSet := b.sa.calSet, retSeq := b.sa.retSeq, ckptUs := b.sa.ckptUs, ckptCal := b.sa.ckptCal, lines := b.sa.lines }
    tap := b.tap, net := b.net }

/-- The newest valid record of a Keep offset whose SEQ stands first (R501). -/
def Block.keepNewest (b : Block) (off n : Nat) : Option (List Byte) := newest 0 ((b.keepCopies off n).filter crcHolds)

/-- The attempt log as it reads: each slot's newest valid record, zeros where there is none. -/
def Block.attemptLog (b : Block) : List Byte := (List.range 64).flatMap (fun i => (b.keepNewest (64 * i) 64).getD (zeros 64))

/-- The valid checkpoint of the highest SEQ (R501, R513): one of this block. -/
def Block.newestCheckpoint (b : Block) : Option (List Byte) :=
  newest 8 (([0x2000, 0x3000].flatMap (fun o => b.keepCopies o 4096)).filter (fun l =>
    crcHolds l && lefld l 0 4 == 0x4C494645 && lefld l 16 8 == b.sa.key.serial))

/-- Seed mode (R496): its record, checkpoint, event and report, then only stack channel 00, with the logs at the start of space 0. -/
def Block.enterSeed (b : Block) (fails : Nat) : Block :=
  let b := (b.newAttempt 3 (b.fget F.STA_STAT_CAUSE) fails (b.fget F.STA_STAT_DETAIL)).count F.LIF_STARTS_SEEDS
  let b := b.checkpoint
  let log := b.attemptLog
  let ck := (b.newestCheckpoint).getD []
  let up := (b.stackAt 0).up
  let b := b.powerDown
  let b := { b with io := { b.io with stks := b.io.stks.map (fun (k : Nat × Stack) => (k.1, if k.1 = 0 then k.2 else { k.2 with up := false })) },
                    sa := { b.sa with seed := true } }
  let b := (((b.fset F.STA_STAT_STAGE 10).fset F.STA_STAT_FAILS (min fails 15)).fset F.STA_CMD_STATUS 0).fset F.PWR_PD_ON 0xA0000
  let b := ((b.fset F.LNK_NODE_STACKS 1).fset F.LNK_RM_USABLE_BYTES (if up then 3 * (b.sa.lines - 32768) * 512 else 0)).fset F.STA_STAT_KEEP
    (if up then b.fget F.STA_STAT_KEEP else 0)
  let b := if up then (b.wr0 0 log).wr0 0x1000 ck else b
  (b.evt F.STA_EVT_SEED).report 16 2 fails

/-- An attempt fails (R495): its record, STA_STAT and the report, then every domain but PD19 and PD17 goes off and the block waits 100 ms or enters
Seed mode. -/
def Block.startFailed (b : Block) (cause detail : Nat) : Block :=
  let fails := b.sa.f + 1
  let b := b.putAttempt 2 cause fails detail
  let b := ((b.fset F.STA_STAT_CAUSE cause).fset F.STA_STAT_FAILS (min fails 15)).fset F.STA_STAT_DETAIL detail
  let b := { b with sa := { b.sa with failsSinceReset := b.sa.failsSinceReset + 1 } }
  let b := b.report 16 1 (cause + detail * 256)
  if fails < 3 then
    let b := b.powerDown
    let b := { b with sa := { b.sa with retryAt := some (b.clk.timeUs + 100000) } }
    ((b.fset F.STA_STAT_STAGE 11).fset F.STA_CMD_STATUS 0).fset F.PWR_PD_ON 0xA0000
  else b.enterSeed fails

end Sys2Proof.Machine
end

