-- ==== Sys2Proof/Machine/Exec.lean ====
section
/-! DEFINITION. How an executor issues an instruction (R341, R342), raises an exception (R344 to R347), fails its
item (R265, R345), and how a register file starts (R370). -/
namespace Sys2Proof.Machine
open Sys2Proof

/-- An item that fails is counted (R265). -/
def Block.countFail (b : Block) : Block := (b.count F.PIP_CNT_A_ITEM_FAIL).evt F.PIP_EVT_ITEM_FAIL

/-- The draft pass or warm-up that runs fails (R265): counted once, and it stops on every executor. -/
def Block.failDraft (b : Block) : Block :=
  match b.cp.dpass with
  | [] => b
  | j :: rest =>
    let b := if j.failed then b else b.countFail
    { b with
      cp := { b.cp with dpass := { j with failed := true } :: rest }
      rm := { b.rm with execs := b.rm.execs.map (fun p => if p.2.fast then (p.1, { p.2 with halted := true, blocked := .no }) else p) } }

/-- The failure of the item, pass or warm-up an executor runs (R265, R345): counted once, and it stops on every executor. -/
def Block.failItem (b : Block) (k : Nat) : Block :=
  let e := b.exAt k
  if e.halted then b
  else
    match e.item with
    | none => if e.fast then b.failDraft else b.countFail.setExAt k { e with halted := true, blocked := .no }
    | some i =>
      let b := b.countFail
      { b with
        cp := { b.cp with items := b.cp.items.map (fun t => if t.id = i then { t with failed := true } else t) }
        rm := { b.rm with execs := b.rm.execs.map (fun p => if p.2.item = some i then (p.1, { p.2 with halted := true, blocked := .no }) else p) } }

/-- The state of TICK_SEQ_STATn (R371) after a change of a sequencer. -/
def Block.seqState (b : Block) (n st : Nat) : Block := b.fset (F.TICK_SEQ_STAT_STATE.at n) st

/-- A restart (R346): registers cleared, the program at byte 0; more than HALT_MAX in a tick halts (R347). Posted
operations, RM_ERR, jobs and items stand (log 10). -/
def Block.seqRestart (b : Block) (n : Nat) : Block :=
  let e := b.exAt n
  let r := e.restarts + 1
  let b := b.setExAt n { Exec.clear with posted := e.posted, rmErr := e.rmErr, restarts := r }
  let b := (b.count (F.TICK_SEQ_STAT_RESTARTS.at n)).evt F.TICK_SEQ_EVT_RESTART (2 ^ n)
  let b := (b.seqState n 0).report 0 3 n
  if b.fget F.TICK_SEQ_CTRL_HALT_MAX < r then
    let b := b.setExAt n { (b.exAt n) with halted := true }
    let b := (b.seqState n 2).evt F.TICK_SEQ_EVT_HALTED (2 ^ n)
    (b.fset F.RQT_CTRL_ADMIT_EN 0).report 0 4 n
  else b

/-- An exception (R344 to R346): code and detail word. Nothing else of the instruction happens. A sequencer's before the first tick boundary
fails the start (R499, log 40). -/
def Block.raise (b : Block) (x : ExecId) (w : NsiBody) (code info : Nat) : Block :=
  let e := b.ex x
  match x with
  | .seq n =>
    let b := (b.count (F.TICK_SEQ_STAT_TRAPS.at n)).evt F.TICK_SEQ_EVT_TRAP (2 ^ n.val)
    let b := (b.fset (F.TICK_SEQ_STAT_CAUSE.at n) code).fset (F.TICK_SEQ_STAT_EPC.at n) e.pc
    if !b.clk.ticking then b.startFailed 0x0C n
    else if e.trap then b.seqRestart n
    else
      let b := b.setEx x { e with cause := code, epc := e.pc, einfo := info, trap := true, resume := e.pc + nfLen w, pc := 0x100 }
      b.seqState n 1
  | _ =>
    let b := b.setEx x { e with cause := code, epc := e.pc, einfo := info }
    b.failItem (xkey x)

/-- The executor may issue its next instruction now. -/
def Exec.ready (e : Exec) : Bool := !e.halted && e.blocked == .no

/-- Issue of an instruction: `enc` the encoding checks that apply whether or not the guard holds (R341), `has` whether
the executor implements it (R338), `run` its effect. An executor that is halted or waits issues nothing, nor does any before RUN (R500); an item whose kernel
header breaks R370 (`code` 0) fails at its first instruction. -/
def Block.issue (b : Block) (x : ExecId) (w : NsiBody) (enc has : Bool) (run : Exec → Block) : Block :=
  let e := b.ex x
  if !b.run? || !e.ready then b
  else if e.item.isSome && e.code == 0 then b.raise x w 1 0
  else if !enc then b.raise x w 1 0
  else if !guardOn e w then b.setEx x { e with pc := e.pc + nfLen w }
  else if !has then b.raise x w 1 0
  else run e

/-- PROGRESS_US of the contexts an item runs on: the time of its last completed instruction (R274, R289). -/
def Block.noteProgress (b : Block) (item : Option Nat) : Block :=
  match item.bind (fun i => b.cp.items.find? (fun t => t.id == i)) with
  | none => b
  | some t =>
    let b := b.wr0 (b.fget F.MDL_CAT_BASE_BASE + 128 * t.model + 40) (leBytes 8 b.clk.timeUs)
    (b.adaptersFor t.entry t.model).foldl (fun b a => b.wr0 (b.fget F.MDL_ADP_BASE_BASE + 64 * a + 40) (leBytes 8 b.clk.timeUs)) b

/-- The executor's registers changed, the program counter past the instruction (R342). -/
def Block.done (b : Block) (x : ExecId) (w : NsiBody) (e : Exec) : Block :=
  (b.setEx x { e with pc := e.pc + nfLen w }).noteProgress e.item

end Sys2Proof.Machine
end

