-- ==== Sys2Proof/Machine/Streams.lean ====
section
/-! DEFINITION. The streams a tick steps and drafts (R5, R106, R210, R214, R215), the orders a request has in flight, and when a cluster's
drafting ends (R67). -/
namespace Sys2Proof.Machine
open Sys2Proof

/-- The sequencer that owns an entry (R30). -/
def seqOf (e : Nat) : Nat := e / 8192

/-- A sequencer is halted (R347). -/
def Block.seqHalted (b : Block) (n : Nat) : Bool := b.fget (F.TICK_SEQ_STAT_STATE.at n) == 2

/-- An entry is in DECODE. -/
def Block.decoding (b : Block) (e : Nat) : Bool := b.eget e E.STATE == 4

/-- An order of an entry is in flight; a PREFILL one is. -/
def Block.inFlight (b : Block) (e : Nat) : Bool :=
  b.rq.orders.any (fun o => o.entry == e && o.gen == b.eget e E.GENERATION && o.kind != 3)
def Block.prefilling (b : Block) (e : Nat) : Bool :=
  b.rq.orders.any (fun o => o.entry == e && o.gen == b.eget e E.GENERATION && o.kind == 1)

/-- An order is due for an entry; due after those that already are, or before them, each once; no longer due. -/
def Side.isDue (s : Side) (k : Nat) : Bool := s.due.contains k
def Side.dueLast (s : Side) (k : Nat) : Side := if s.isDue k then s else { s with due := s.due ++ [k] }
def Side.dueFirst (s : Side) (k : Nat) : Side := { s with due := k :: s.due.filter (· != k) }
def Side.notDue (s : Side) (k : Nat) : Side := { s with due := s.due.filter (· != k) }

/-- Decode streams per tick, and streams drafting at once, of the configuration (R5). -/
def Block.decodeMax (b : Block) : Nat :=
  let c := b.fget F.STA_IDENT_CONFIG
  if c ≤ 1 then 4096 else if c = 2 then 8192 else 16384
def Block.draftMax (b : Block) : Nat :=
  let c := b.fget F.STA_IDENT_CONFIG
  if c ≤ 1 then 2048 else if c = 2 then 4096 else 8192

/-- The order of R106. -/
def Block.stepBefore (b : Block) (x y : Nat) : Bool :=
  let px := b.eget x E.PRIORITY
  let py := b.eget y E.PRIORITY
  let lx := b.eget x E.LAST_STEP_TICK
  let ly := b.eget y E.LAST_STEP_TICK
  decide (py < px) || (px == py && (decide (lx < ly) || (lx == ly && decide (x ≤ y))))

/-- Entries by PRIORITY, highest first, then by index: the order of allocations within one Publish (R129). -/
def Block.byPriority (b : Block) (l : List Nat) : List Nat :=
  sortBy (fun x y => decide (b.eget y E.PRIORITY < b.eget x E.PRIORITY) || (b.eget x E.PRIORITY == b.eget y E.PRIORITY && decide (x ≤ y))) l

/-- Entries whose owning sequencer is not halted: only for these is anything published (R347). -/
def Block.served (b : Block) : List Nat := b.live.filter (fun e => !b.seqHalted (seqOf e))

/-- A stream is eligible for a step (R106): in DECODE, no result outstanding, no dispatch of its sequence under way. -/
def Block.stepReady (b : Block) (e : Nat) : Bool :=
  b.decoding e && b.eget e E.OUTSTANDING == 0 && (b.side e).acceptDone && !([1, 7, 8].any (b.side e).isDue) && !b.prefilling e
    && (b.side e).firstTok.isNone

/-- Eligible streams in order; the streams stepped in this tick. -/
def Block.stepOrder (b : Block) : List Nat := sortBy b.stepBefore (b.served.filter b.stepReady)
def Block.stepSet (b : Block) : List Nat := b.stepOrder.take b.decodeMax

/-- The draft model of an entry (R210). -/
def Block.draftModel (b : Block) (e : Nat) : Option Nat :=
  let slot := b.eget e E.VOCAB
  (b.rq.drafts.find? (fun d => d.1 == slot && d.2.2 == b.fget (F.TOK_VID_VOCAB_ID.at slot))).map (fun d => d.2.1)

/-- Drafting is on for a stream (R210, R214): EN, a draft model, and a tier other than OFF or a probe due or
begun in this tick. -/
def Block.mayDraft (b : Block) (e : Nat) : Bool :=
  b.fget F.SPC_CTRL_EN == 1 && (b.draftModel e).isSome && (b.eget e E.STIER != 3 || b.eget e E.PROBE_DUE == 1 || (b.side e).drafted)

/-- The conditions of R214 but for the warm draft cache, and the cut-off of R60. -/
def Block.wantsDraft (b : Block) (e : Nat) : Bool := b.mayDraft e && !(b.side e).noDraft

/-- The streams drafted in this tick (R214). -/
def Block.draftSet (b : Block) : List Nat := (b.stepSet.filter (fun e => b.wantsDraft e && b.eget e E.WARM == 1)).take b.draftMax

/-- The widths of a stream's shape (R215): a probe uses MINIMAL. -/
def widthsOf (w : Nat) : List Nat := (List.range 6).map (fun l => bits w (5 * l) 5)
def Block.shape (b : Block) (e : Nat) : List Nat :=
  let t := b.eget e E.STIER
  widthsOf (if t = 0 then b.fget F.SPC_SHAPE_FULL_WIDTHS else if t = 1 then b.fget F.SPC_SHAPE_RED_WIDTHS else b.fget F.SPC_SHAPE_MIN_WIDTHS)
def shapeNodes (w : List Nat) : Nat := w.foldl (· + ·) 0
def shapeDepth (w : List Nat) : Nat := (w.filter (fun x => x != 0)).length

/-- The mask area of a pool that takes masks: ADDR and SLOTS (R196). -/
def Block.maskPool (b : Block) (p : Nat) : Option (Nat × Nat) :=
  match tget b.rq.maskRecs p with
  | none => none
  | some r => if lefld r 8 4 = 0 then none else some (lefld r 0 8, lefld r 8 4)

/-- Streams that warm-ups are granted to in this tick (R212): the first WARM_MAX, in the order of R106, of those that need one and have not found too
few units. -/
def Block.warmGrants (b : Block) : List Nat :=
  (b.stepSet.filter (fun e => b.wantsDraft e && ((b.side e).warmed || (b.eget e E.WARM == 0 && (b.side e).passes != 99)))).take
    (b.fget F.SPC_CTRL_WARM_MAX)

/-- Space 0 offset of a position's entry in a stream's draft cache, where a unit of the stream holds it (R211). -/
def Block.draftEntry (b : Block) (e p : Nat) : Option Nat :=
  let s := b.side e
  if s.unitBase ≤ p / 64 then (s.units[p / 64 - s.unitBase]?).map (fun u => b.fget F.SPC_UNIT_BASE_BASE + u * 131072 + p % 64 * 2048) else none

/-- The entry of one position copied to another. -/
def Block.copyEntry (b : Block) (e src dst : Nat) : Block :=
  match b.draftEntry e src, b.draftEntry e dst with
  | some x, some y => b.wr0 y (b.rd0 x 2048)
  | _, _ => b

/-- The pending compaction applied to a stream's draft cache, once (R218, R229). -/
def Block.compactDraft (b : Block) (e : Nat) : Block :=
  if b.eget e E.WARM = 0 || b.eget e E.CPT_PEND = 0 || (b.side e).compacted then b
  else
    let base := b.eget e E.CPT_BASE
    let b := (List.range (b.eget e E.CPT_COUNT)).foldl (fun b j =>
      let s := bits (b.eget e E.CPT_SRC) (4 * j) 4
      if s = j then b else b.copyEntry e (base + s) (base + j)) b
    b.modSide e (fun s => { s with compacted := true })

/-- The last pass of the deepest shape in use has been issued (R67): Draft has begun, every stream in DECODE has had its Accept, and each drafted
stream's last pass is done or queued. -/
def Block.lastIssued (b : Block) : Bool :=
  b.clk.draftBegun && (b.served.filter b.decoding).all (fun e => (b.side e).acceptDone)
  && b.draftSet.all (fun e => decide (shapeDepth (b.shape e) ≤ (b.side e).passes)
    || b.cp.dpass.any (fun j => !j.warm && b.draftModel e == some j.model && decide (shapeDepth (b.shape e) ≤ j.pass)))

/-- The keys of a cluster's executors: Pips, then Pickers. -/
def clusterKeys (c : Nat) : List Nat := (List.range 32).map (fun k => 100 + c * 32 + k) ++ [10000 + 2 * c, 10001 + 2 * c]

/-- A cluster holds a part of a pass or warm-up that is still running: one of its executors has not ended it. -/
def Block.draftShare (b : Block) (c : Nat) : Bool :=
  !b.cp.dpass.isEmpty && (clusterKeys c).any (fun k => match tget b.rm.execs k with
    | some x => x.fast && !x.halted
    | none => false)

/-- A cluster's drafting for the tick has ended (R67). -/
def Block.draftEnded (b : Block) (c : Nat) : Bool :=
  (b.clk.cutOff || b.lastIssued) && decide (b.cp.dpass.length ≤ 1) && !b.draftShare c

end Sys2Proof.Machine
end

