-- ==== Sys2Proof/Machine/Remote.lean ====
section
/-! DEFINITION. Remote memory operations at their home (R372 to R385, R526): who may reach what, layout and extent,
the state of the target; and how outbound and posted operations complete (R388 to R402). -/
namespace Sys2Proof.Machine
open Sys2Proof

/-- The source of an operation (R381): an executor by its key, a text unit, a Stem port, a link. -/
inductive Src where
  | ex (k : Nat)
  | text
  | stem (p : Nat)
  | link (l : Nat)
deriving DecidableEq, Repr

/-- The kinds of operation of R381. -/
inductive OpKind where
  | read | write | add | cas
deriving DecidableEq, Repr

def Src.reg : Src → RegSrc
  | .ex k => .exec k
  | .text => .exec 999
  | .stem p => .stem p
  | .link l => .link l

/-- The regions of space 0 closed to remote writes (R382): page records, prefix index and token copies, catalogue,
adapter table, profile table, as (base, bytes). -/
def Block.closed (b : Block) : List (Nat × Nat) :=
  [(b.fget F.PG_REC_BASE_BASE, b.fget F.PG_TOTAL_TOTAL * 8),
   (b.fget F.PFX_IDX_BASE_BASE, 2 ^ b.fget F.PFX_CTRL_SIZE_LOG2 * 64),
   (b.fget F.PFX_TOK_BASE_BASE, 2 ^ b.fget F.PFX_CTRL_SIZE_LOG2 * 512),
   (b.fget F.MDL_CAT_BASE_BASE, 8192 * 128), (b.fget F.MDL_ADP_BASE_BASE, 262144 * 64), (b.fget F.VRD_PROF_BASE_BASE, 4096 * 512)]

/-- Two spans share a byte. -/
def overlap (a n c m : Nat) : Bool := decide (a < c + m ∧ c < a + n)

/-- A register offset is that of a counter field (R381). -/
def isCounter (off : Nat) : Bool := ((findReg (off / 8 * 8)).map (fun r => r.fields.any (·.counter))).getD false

/-- R381, R382 and R89 for a space of the own node, spaces 0 to 6. -/
def Block.permits (b : Block) (s : Src) (k : OpKind) (space off len : Nat) : Bool :=
  let wr := k != .read
  let inb := match s with
    | .stem _ => true
    | .link _ => true
    | _ => false
  if space = 0 then !wr || !(b.closed.any (fun r => overlap off len r.1 r.2))
  else if space = 1 then !wr && !(match s with | .link _ => true | _ => false)
  else if space = 2 then !inb
  else if space = 3 then
    !wr || (match s with | .ex x => decide (x < 8 ∧ off / 2 ^ 21 = x ∧ (off + len - 1) / 2 ^ 21 = x) | _ => false)
  else if space = 4 then
    match s with
    | .ex x => decide (x < 8) && (!wr || !(decide (0x1100 ≤ off ∧ off < 0x1200)))
    | .text => false
    | _ => !wr || (k == .add && isCounter off)
  else !inb

/-- The hot context a context-view offset of space 1 names (R374, R376). -/
def Block.ctxOf (b : Block) (off : Nat) : Option Ctx :=
  b.st.hot.find? (fun c => c.adapter == (off.testBit 50) && c.num == bits off 32 18)

/-- Granules of a model or adapter from its record (R274, R289). -/
def Block.granulesOf (b : Block) (adapter : Bool) (n : Nat) : Nat :=
  if adapter then b.r0 (b.fget F.MDL_ADP_BASE_BASE + n * 64 + 12) 4 else b.r0 (b.fget F.MDL_CAT_BASE_BASE + n * 128 + 32) 4

/-- R374, R383: a span of a space of the own node within its layout and extent. -/
def Block.inExtent (b : Block) (space off len : Nat) : Bool :=
  if space = 0 then decide (off + len ≤ b.stacksS * b.usable)
  else if space = 1 then
    if off.testBit 51 then
      decide (bits off 0 32 + len ≤ b.granulesOf (off.testBit 50) (bits off 32 18) * 262144)
      && (off.testBit 50 || decide (bits off 32 18 < 8192))
    else decide (off + len ≤ 2 ^ 31)
  else if space = 2 then decide (off + len ≤ 2 ^ 30)
  else if space = 3 then decide (off + len ≤ 2 ^ 24)
  else if space = 4 then decide (off < 2 ^ 16)
  else if space = 5 then decide (bits off 0 49 + len ≤ 2 ^ 49)
  else decide (bits off 0 46 + len ≤ 2 ^ 46)

/-- R375 to R377: the error an access meets in the state of its target, 0 for none. -/
def Block.targetErr (b : Block) (space off len : Nat) (read : Bool) : Nat :=
  if space = 0 then b.span0 off len read
  else if space = 1 then
    if off.testBit 51 then
      match b.ctxOf off with
      | some c => if c.resident then 0 else 7
      | none => 7
    else if ((List.range (cdiv (off % 2 ^ 25 + len) (2 ^ 25))).any (fun i => !(b.hotBanks.contains (off / 2 ^ 25 + i)))) then 6 else 0
  else if space = 2 then (if b.sliceGone off len then 6 else 0)
  else 0

/-- The die byte of byte i of a context (R376). -/
def Ctx.dieAddr (c : Ctx) (i : Nat) : Nat := c.granules.getD (i / 262144) 0 * 262144 + i % 262144

/-- Bytes of spaces 0 to 3 of the own node. -/
def Block.peek (b : Block) (space off len : Nat) : List Byte :=
  if space = 0 then b.rd0 off len
  else if space = 1 then
    if off.testBit 51 then
      match b.ctxOf off with
      | some c => (List.range len).map (fun i => mrd b.mem.die (c.dieAddr (bits off 0 32 + i)))
      | none => zeros len
    else mrdN b.mem.die off len
  else if space = 2 then mrdN b.mem.slices off len
  else (List.range len).map (fun i => (entryBytes (b.entry ((off + i) / 256))).getD ((off + i) % 256) 0)

/-- One byte of an entry written. -/
def Block.pokeEntry (b : Block) (o : Nat) (x : Byte) : Block :=
  let n := o / 256
  let ws := b.entry n
  let i := o % 256
  let v := BitVec.ofNat 64 (setBits ((ws.getD (i / 8) 0).toNat) (8 * (i % 8)) 8 x.toNat)
  ({ b with rq := { b.rq with table := tset b.rq.table n (ws.set (i / 8) v) } }).noteMirror (b.node * 2 ^ 56 + 3 * 2 ^ 52 + o) [x]

/-- Bytes of spaces 0, 2 and 3 of the own node written. -/
def Block.poke (b : Block) (space off : Nat) (l : List Byte) : Block :=
  if space = 0 then b.wr0 off l
  else if space = 2 then { b with mem := { b.mem with slices := mwrN b.mem.slices off l } }
  else (l.foldl (fun (p : Block × Nat) x => (p.1.pokeEntry p.2 x, p.2 + 1)) (b, off)).1

/-- Steps 3 to 7 of R526 for an operation on the own node: 0 or the code. `bulk` tells a PUT or GET. -/
def Block.homeErr (b : Block) (s : Src) (k : OpKind) (a len : Nat) (bulk size4 : Bool) : Nat :=
  let space := gaSpace a
  let off := gaOff a
  let inb := match s with
    | .stem _ => true
    | .link _ => true
    | _ => false
  if space > 6 then 1
  else if !b.permits s k space off len then 3
  else if space = 4 && (bulk || size4 || off % 8 ≠ 0) then 1
  else if inb && (if bulk then off % 4 ≠ 0 || len % 4 ≠ 0 else off % len ≠ 0) then 2
  else if !b.inExtent space off len then 2
  else if space = 4 && (findReg off).isNone then 1
  else b.targetErr space off len (k != .write)

/-- A read performed at the own node: the bytes, or a code and a detail. -/
def Block.homeRead (b : Block) (s : Src) (a len : Nat) (bulk size4 : Bool) : Except (Nat × Nat) (List Byte) :=
  let e := b.homeErr s .read a len bulk size4
  if e ≠ 0 then .error (e, 0)
  else if gaSpace a = 4 then .ok (leBytes 8 (b.regRead s.reg (gaOff a)).toNat)
  else .ok (b.peek (gaSpace a) (gaOff a) len)

/-- A register write from a source that is no management port: REG_REFUSED with the status as detail (R379). -/
def Block.srcRegWrite (b : Block) (s : Src) (off : Nat) (v : Word) : Except (Nat × Nat) Block :=
  let c := b.freeCmd s.reg off v
  let st := ((tget c.mgt.rsp (srcKey s.reg)).map (·.1)).getD 0
  if st ≠ 0 then .error (4, st) else .ok c

/-- A write performed at the own node. -/
def Block.homeWrite (b : Block) (s : Src) (a : Nat) (l : List Byte) (bulk size4 : Bool) : Except (Nat × Nat) Block :=
  let e := b.homeErr s .write a l.length bulk size4
  if e ≠ 0 then .error (e, 0)
  else if gaSpace a = 4 then b.srcRegWrite s (gaOff a) (BitVec.ofNat 64 (leNat l))
  else .ok (b.poke (gaSpace a) (gaOff a) l)

/-- An atomic performed at the own node (R385): `f` gives the new value from the old, none where nothing is written;
the answer is the old value. Sums wrap at the width. -/
def Block.homeAtomic (b : Block) (s : Src) (k : OpKind) (a : Nat) (size4 : Bool) (f : Nat → Option Nat) : Except (Nat × Nat) (Nat × Block) :=
  let len := if size4 then 4 else 8
  let e := b.homeErr s k a len false size4
  if e ≠ 0 then .error (e, 0)
  else if gaSpace a = 4 then
    let old := (b.regRead s.reg (gaOff a)).toNat
    match f old with
    | none => .ok (old, b)
    | some v =>
      if isCounter (gaOff a) && k == .add then
        match b.counterAdd s.reg (gaOff a) (v + 2 ^ 64 - old) with
        | .ok p => .ok (p.1.toNat, p.2)
        | .error st => .error (4, st)
      else
        match b.srcRegWrite s (gaOff a) (BitVec.ofNat 64 v) with
        | .ok c => .ok (old, c)
        | .error d => .error d
  else
    let old := leNat (b.peek (gaSpace a) (gaOff a) len)
    match f old with
    | none => .ok (old, b)
    | some v => .ok (old, b.poke (gaSpace a) (gaOff a) (leBytes len (v % 2 ^ (8 * len))))

/-- An address of the own node that the block performs itself (spaces other than 5 and 6). -/
def Block.isHome (b : Block) (a : Nat) : Bool := gaNode a == b.node && gaSpace a != 5 && gaSpace a != 6

/-- The rules an outbound span to space 5 or 6 of the own node, or to another node, meets before it leaves (R526). -/
def Block.outErr (b : Block) (xi a len : Nat) : Except Nat Nat :=
  if gaNode a = b.node && !b.inExtent (gaSpace a) (gaOff a) len then .error 2 else b.route xi a

/-- What a bulk operation's other span meets before any byte moves (R383, R526): permission, layout and extent at the own node. -/
def Block.spanErr (b : Block) (s : Src) (k : OpKind) (a len : Nat) : Nat :=
  if b.isHome a then (let e := b.homeErr s k a len true false; if e < 4 then e else 0)
  else if gaNode a = b.node && !b.inExtent (gaSpace a) (gaOff a) len then 2 else 0

/-- EXEC_ID from an executor's key (R350). -/
def keyId (key : Nat) : Nat :=
  let k := key % 100000
  if k < 100 then k else if k < 10000 then k - 100 else k - 10000

/-- The pool whose step area, mask area, order ring or publish counter holds an address (R394). -/
def Block.poolAt (b : Block) (a : Nat) : List Nat :=
  ((b.rq.pools.filter (fun p => decide (p.ring ≤ a ∧ a < p.ring + 64 * 2 ^ p.ringLog2) || p.pubCtr == a)).map (·.num))
  ++ ((b.rq.spcPools.filter (fun p => decide (p.2.1 ≤ a ∧ a < p.2.1 + 2 * p.2.2.1 * 256))).map (·.1))
  ++ ((b.rq.maskRecs.filter (fun p => match b.maskPool p.1 with
      | some m => decide (m.1 ≤ a ∧ a < m.1 + 2 * m.2 * 32768)
      | none => false)).map (·.1))

/-- A posted operation has failed (R401, R402): counted, its code kept if it is the first since the last FENCE. A refusal
with PRIOR_FAILED does not change RM_ERR (R392). -/
def Block.postedFailed (b : Block) (k code : Nat) (p : Posted) : Block :=
  let far := !b.isHome p.a || (p.op < 2 && !b.isHome p.b)
  let b := b.rmFail code far false
  let b := if p.op = 1 then b else { b with rm := { b.rm with failPools := b.rm.failPools ++ (b.poolAt p.a).map (fun q => (q, k)) } }
  let e := b.exAt k
  if code = 11 then b else b.setExAt k { e with rmErr := if e.rmErr = 0 then code else e.rmErr }

/-- A posted operation taken off its executor's list, with its result; a FENCE that waited completes. -/
def Block.postedDone (b : Block) (k : Nat) (p : Posted) (code : Nat) : Block :=
  let b := if code ≠ 0 then b.postedFailed k code p else b
  let e := b.exAt k
  let e := { e with posted := e.posted.filter (fun q => q.id != p.id) }
  match e.blocked with
  | .fence ps none =>
    if e.posted.isEmpty then (b.setExAt k { (e.wp ps (e.rmErr == 0)) with rmErr := 0, blocked := .no }).noteProgress e.item else b.setExAt k e
  | _ => b.setExAt k e

/-- Releases at the head of an executor's list that have gone to a far side but were not sent are refused with
PRIOR_FAILED when RM_ERR is not 0 (R392), else sent. -/
def Block.pump : Nat → Nat → Block → Block
  | 0, _, b => b
  | f + 1, k, b =>
    let e := b.exAt k
    match e.posted with
    | [] => b.trySend
    | p :: _ =>
      let mine := fun (o : OutOp) => match o.purpose with | .posted x id _ => x == k && id == p.id | _ => false
      if p.ord ≥ 2 && p.far > 0 && e.rmErr ≠ 0 && (b.rm.out.filter mine).all (fun o => !o.sent) then
        let b := { b with rm := { b.rm with out := b.rm.out.filter (fun o => !mine o) } }
        Block.pump f k (b.postedDone k p 11)
      else b.trySend

/-- A far span issued for an executor: one packet for each aligned 4 KiB of a bulk span (R410). -/
def Block.farSpan (b : Block) (k id kind route a : Nat) (data : List Byte) (len ord : Nat) (dst : Option Nat) : Block :=
  (splitSpan a len).foldl (fun b (p : Nat × Nat × Nat) =>
    b.outOp { id := 0, kind := kind, route := route, addr := p.1, len := p.2.1, value := 0, compare := 0,
              data := (data.drop p.2.2).take p.2.1, ord := ord, size4 := false, sent := false, issued := 0,
              purpose := .posted k id (dst.map (· + p.2.2)) }) b

/-- Posted operation `id` changed. -/
def Block.modPosted (b : Block) (k id : Nat) (f : Posted → Posted) : Block :=
  let e := b.exAt k
  b.setExAt k { e with posted := e.posted.map (fun q => if q.id = id then f q else q) }

/-- A posted operation with no packets outstanding completes. -/
def Block.settlePosted (b : Block) (k id : Nat) : Block :=
  match (b.exAt k).posted.find? (fun q => q.id == id) with
  | some p => if p.far = 0 then Block.pump 70 k (b.postedDone k p p.err) else b.trySend
  | none => b.trySend

/-- What a far response gave: an error code, or a value, data and CAS_OK. -/
abbrev FarRes := Except Nat (Nat × List Byte × Bool)

/-- The destination half of a bulk read: the data written at the own node, or sent on. -/
def Block.landRead (b : Block) (k id dst : Nat) (ord : Nat) (data : List Byte) : Block :=
  let bad := fun (b : Block) (c : Nat) => b.modPosted k id (fun q => { q with far := q.far - 1, err := if q.err = 0 then c else q.err })
  if b.isHome dst then
    match b.homeWrite (.ex k) dst data true false with
    | .ok c => c.modPosted k id (fun q => { q with far := q.far - 1 })
    | .error e => bad b e.1
  else
    match b.outErr (keyId k) dst data.length with
    | .error c => bad b c
    | .ok r =>
      let n := (splitSpan dst data.length).length
      (b.modPosted k id (fun q => { q with far := q.far - 1 + n })).farSpan k id 1 r dst data data.length ord none

/-- A blocking operation's result (R358, R400): destination, status predicate, value or code. -/
def Exec.blockDone (e : Exec) (rd ps : Nat) (r : Except Nat (Nat × Bool)) : Exec :=
  match r with
  | .ok v => { ((e.ws rd (BitVec.ofNat 64 v.1)).wp ps v.2) with blocked := .no }
  | .error c => { ((e.ws rd (BitVec.ofNat 64 (0xFFFFFFFFFFFFFF00 + c))).wp ps false) with blocked := .no }

/-- A far READ repeated for a WAIT (R410). -/
def Block.waitRead (b : Block) (k a : Nat) (size4 : Bool) : Block :=
  match b.outErr (keyId k) a (if size4 then 4 else 8) with
  | .error _ => b
  | .ok r => b.outOp { id := 0, kind := 0, route := r, addr := a, len := 0, value := 0, compare := 0, data := [], ord := 0,
                       size4 := size4, sent := false, issued := 0, purpose := .block k }

/-- A blocking operation of an executor completes with a far result. -/
def Block.blockRes (b : Block) (k : Nat) (o : OutOp) (r : FarRes) : Block :=
  let e := b.exAt k
  match e.blocked with
  | .far op rd ps =>
    match r with
    | .error c => ((b.rmFail c true false).setExAt k (e.blockDone rd ps (.error c))).noteProgress e.item
    | .ok v => (b.setExAt k (e.blockDone rd ps (.ok (v.1, if op = 6 then v.2.2 else true)))).noteProgress e.item
  | .wait a t rd ps size lim _ =>
    match r with
    | .error c => ((b.rmFail c true false).setExAt k (e.blockDone rd ps (.error c))).noteProgress e.item
    | .ok v =>
      if t ≤ v.1 then (b.setExAt k (e.blockDone rd ps (.ok (v.1, true)))).noteProgress e.item
      else (b.setExAt k { e with blocked := .wait a t rd ps size lim v.1 }).waitRead k o.addr (size == 1)
  | _ => b

/-- An outbound operation completes (R399, R410): with a far result, or with a code. -/
def Block.finishOut (b : Block) (o : OutOp) (r : FarRes) : Block :=
  let b := { b with rm := { b.rm with out := b.rm.out.filter (fun q => q.id != o.id) } }
  match o.purpose with
  | .block k => (b.blockRes k o r).trySend
  | .agent pool seq _ =>
    match r with
    | .error c => (b.agentFailed pool seq c true).trySend
    | .ok _ => b.trySend
  | .posted k id dst =>
    match r with
    | .error c => (b.modPosted k id (fun q => { q with far := q.far - 1, err := if q.err = 0 then c else q.err })).settlePosted k id
    | .ok v =>
      match dst with
      | some a => if o.kind = 0 then (b.landRead k id a o.ord v.2.1).settlePosted k id
                  else (b.modPosted k id (fun q => { q with far := q.far - 1 })).settlePosted k id
      | none => (b.modPosted k id (fun q => { q with far := q.far - 1 })).settlePosted k id

/-- Every outbound operation that meets a condition completes with a code. -/
def Block.finishAll (b : Block) (p : OutOp → Bool) (code : Nat) : Block :=
  (b.rm.out.filter p).foldl (fun b o => if b.rm.out.any (fun q => q.id == o.id) then b.finishOut o (.error code) else b) b

/-- Releases of the block's agents that can no longer be sent because an earlier write of their issuer failed (R392). -/
def Block.agentReleases (b : Block) : Block :=
  b.finishAll (fun o => !o.sent && o.kind == 1 && decide (o.ord ≥ 2) && (match o.purpose with
    | .agent pool seq _ => b.failedFor (failKey pool seq)
    | _ => false)) 11

/-- A read by a text unit (R381): own node from the block's memories, everything else from the far answers. -/
def Block.unitRead (b : Block) (far : List FarRead) (a n : Nat) : Except Nat (List Byte) :=
  if n = 0 then .ok []
  else if b.isHome a then
    match b.homeRead .text a n true false with
    | .ok l => .ok l
    | .error e => .error e.1
  else if gaNode a = b.node && !b.inExtent (gaSpace a) (gaOff a) n then .error 2
  else farRead far a n

/-- A write by a text unit for a sequencer's job: refused writes are counted, the job's sequencer sees them (R393). -/
def Block.unitPut (b : Block) (a : Nat) (l : List Byte) (seq : Nat) : Block :=
  if l.isEmpty then b
  else if b.isHome a then
    match b.homeWrite .text a l true false with
    | .ok c => c
    | .error e => b.agentFailed none seq e.1 false
  else b.agentPut a l 0 none seq 0

/-- A DONE counter raised by a unit with a release atomic add (R359). -/
def Block.unitDone (b : Block) (a seq : Nat) : Block :=
  if b.isHome a then
    match b.homeAtomic .text .add a false (fun v => some ((v + 1) % 2 ^ 64)) with
    | .ok p => p.2
    | .error e => b.agentFailed none seq e.1 false
  else b.agentAdd a none seq 2

end Sys2Proof.Machine
end

