-- ==== Sys2Proof/Machine/Faults.lean ====
section
/-! DEFINITION. Fault windows (R443, R444) and what the retirement of each kind of channel does at once. -/
namespace Sys2Proof.Machine
open Sys2Proof

/-- The lanes of a link in service (R439). -/
def Block.lanesIn (b : Block) (l : Nat) : Nat := 15 - tgetD b.io.lanesRetired l 0 % 16

def popcount (w n : Nat) : Nat := ((List.range w).filter (fun i => n.testBit i)).length

/-- The lanes a link uses (R439): all four, the two lowest in service, or none. -/
def lanesUsed (m : Nat) : Nat :=
  if m % 16 = 15 then 15
  else
    let l := (List.range 4).filter (fun i => m.testBit i)
    if l.length < 2 then 0 else bitsOf ((List.range 4).map (fun i => (l.take 2).contains i))

/-- A link is a pair link (R12). -/
def Block.pairLink (b : Block) (l : Nat) : Bool := b.isPair && decide (56 ≤ l)

/-- Pair links UP or DEGRADED; fewer than PAIR_MIN is reported (R440). -/
def Block.pairLow (b : Block) : Block :=
  if !b.isPair then b
  else
    let n := ((List.range 8).filter (fun i => (b.linkAt (56 + i)).state == 2 || (b.linkAt (56 + i)).state == 3)).length
    if n < b.fget F.LNK_CTRL_PAIR_MIN then (b.evt F.LNK_EVT_PAIR_LOW).report 12 4 n else b

/-- This block is the standby of its Pair and acknowledges (R506, R509). -/
def Block.standby (b : Block) : Bool :=
  b.run? && b.isPair && b.fget F.STA_IDENT_PAIR_ROLE == 1 && (b.fget F.STA_PAIR_STATE == 3 || b.fget F.STA_PAIR_STATE == 4) && !b.pair.taking

/-- The active is fenced (R509): no sync and no write of R507 any more. -/
def Block.fenced (b : Block) : Block :=
  let b := { b with pair := { b.pair with heldWrites := [], mirror := [], copy := [], heads := [] } }
  let b := ((b.fset F.RQT_CTRL_ADMIT_EN 0).fset F.STA_IDENT_PAIR_ROLE 1).fset F.STA_PAIR_STATE 5
  (b.evt F.STA_EVT_FENCED).report 16 6 (b.fget F.STA_PAIR_ACK_ACK)

/-- No pair link remains in service (R509): a standby in READY begins takeover, an active that mirrors is fenced. -/
def Block.peerLost (b : Block) : Block :=
  if !b.run? || !b.pairLinks.isEmpty then b
  else if b.standby && b.fget F.STA_PAIR_STATE == 4 then { b with pair := { b.pair with taking := true } }
  else if b.mirrors then b.fenced
  else b

/-- A training of a link begins (R437): a retraining keeps its counters, a fresh one was set up by the release. -/
def Block.retrain (b : Block) (l : Nat) : Block :=
  let k := b.linkAt l
  if k.state = 2 || k.state = 3 then
    let b := b.setLink l { k with state := 1, ctrl := none }
    let b := (b.count (F.LNK_STAT_RETRAINS.at l)).evt F.LNK_EVT_RETRAIN
    if b.pairLink l then b.pairLow else b
  else b

/-- A link is retired at once (R441); the last pair link in service takes the peer with it (R509). -/
def Block.retireLink (b : Block) (l : Nat) : Block :=
  let k := b.linkAt l
  if k.state = 4 then b
  else
    let b := b.setLink l { k with state := 4, retry := [], ctrl := none, testing := false, wait := [] }
    let b := (b.finishAll (fun o => o.route == 64 + l) 6).agentReleases
    let b := ((b.evt F.LNK_EVT_LINK_RETIRED).count F.LIF_RETIRE_LINK).report 12 3 l
    let b := b.retirementChanged
    if b.pairLink l then b.pairLow.peerLost else b

/-- A lane is retired at once, and its link retrains on what is left or is retired with it (R439). -/
def Block.retireLane (b : Block) (l i : Nat) : Block :=
  let b := { b with io := { b.io with lanesRetired := tset b.io.lanesRetired l (tgetD b.io.lanesRetired l 0 ||| 2 ^ i) } }
  let b := b.setLink l { (b.linkAt l) with lanes := b.lanesIn l }
  let b := ((b.evt F.LNK_EVT_LANE_RETIRED).count F.LIF_RETIRE_LINK).report 12 1 (l + 64 * i)
  let b := b.retirementChanged
  if lanesUsed (b.lanesIn l) = 0 then b.retireLink l else b.retrain l

/-- A Stem port goes down (R408): credits 0, outstanding operations TIMEOUT. -/
def Block.stemDown (b : Block) (p : Nat) : Block :=
  let b := b.setStem p { (b.stemAt p) with up := false, req := 0, rsp := 0, wait := [] }
  (b.finishAll (fun o => o.route == p) 9).agentReleases

/-- A Stem port is retired at once: held down until released (R408). -/
def Block.retireStem (b : Block) (p : Nat) : Block :=
  if (b.stemAt p).retired then b
  else
    let b := (b.setStem p { (b.stemAt p) with retired := true }).stemDown p
    ((b.count F.LIF_RETIRE_LINK).report 12 7 (2 + 256 * p)).retirementChanged

def Block.setStack (b : Block) (n : Nat) (k : Stack) : Block := { b with io := { b.io with stks := tset b.io.stks n k } }

/-- Pages of the WARM pool in gangs that have just been lost: their entries follow R144 at the next Publish. -/
def Block.warmLost (b : Block) (n : Nat) (gangs : List Nat) : Block :=
  match b.rq.pools.find? (fun p => p.kind == 4) with
  | none => b
  | some p =>
    let lost := fun (pg : Nat) => (b.linesOf (gaOff p.base + (pg - p.first) * p.pageBytes) p.pageBytes).any (fun l =>
      l.1 == n && gangs.contains (l.2 / 512 % 3))
    let hit := b.live.filter (fun i => b.eget i E.TIER == 1 && ((List.range p.count).any (fun j =>
      let r := b.r0 (b.fget F.PG_REC_BASE_BASE + (p.first + j) * 8) 8
      bits r 32 3 == 1 && bits r 36 22 == i && lost (p.first + j))))
    hit.foldl (fun b i => b.modSide i (fun s => { s with lost := 1 })) b

/-- A gang is retired (R454); with the third the stack is. -/
def Block.retireStackGangs (b : Block) (n : Nat) (gs : List Nat) (whole : Bool) : Block :=
  let k := b.stackAt n
  let now := gs.filter (fun g => k.gangs.getD g false)
  let k := { k with gangs := gs.foldl (fun l g => l.set g false) k.gangs, rebuild := k.rebuild.filter (fun r => !gs.contains r.1) }
  let gone := whole || k.gangs.all (fun x => !x)
  let b := b.setStack n (if gone then { k with up := false, retired := true } else k)
  let b := now.foldl (fun b g => ((b.evt F.MEM_EVT_GANG_RETIRED).count F.LIF_RETIRE_MEMORY).report 13 2 (n + 16 * g)) b
  let b := if gone then ((b.evt F.MEM_EVT_STACK_RETIRED).count F.LIF_RETIRE_MEMORY).report 13 3 n else b
  (b.warmLost n gs).retirementChanged

/-- A stack is retired at once (R454). -/
def Block.retireStack (b : Block) (n : Nat) : Block :=
  if (b.stackAt n).retired then b else b.retireStackGangs n [0, 1, 2] true

/-- The position (0 to 53) a pseudo-channel holds. -/
def Stack.posOf (k : Stack) (pch : Nat) : Option Nat := (List.range 54).find? (fun i => k.posmap.getD i 64 == pch)

/-- A pseudo-channel out of service at once (R453): spared with a rebuild, or retired with its gang. A spare that fails leaves
the spares. A position taken up during a rebuild begins the gang's walk again at its first line (log 69: so that every line is written to it). -/
def Block.retirePch (b : Block) (n pch : Nat) : Block :=
  let k := b.stackAt n
  if k.out.testBit pch then b
  else
    let k := { k with out := k.out ||| 2 ^ pch, spares := k.spares.filter (fun s => s != pch) }
    match k.posOf pch with
    | none => ((b.setStack n k).count F.LIF_RETIRE_MEMORY).retirementChanged
    | some i =>
      if !k.gangs.getD (i / 18) false then ((b.setStack n k).count F.LIF_RETIRE_MEMORY).retirementChanged else
      let g := i / 18
      let all := ((k.rebuild.find? (fun r => r.1 == g)).map (fun r => r.2.1)).getD []
      let going := all.filter (· != i)
      match k.spares with
      | sp :: rest =>
        if b.fget F.MEM_CTRL_SPARE_EN = 1 && going.length < 2 then
          let k := { k with spares := rest, posmap := k.posmap.set i sp,
                            rebuild := if all.isEmpty then k.rebuild ++ [(g, [i], 0)]
                              else k.rebuild.map (fun r => if r.1 = g then (g, going ++ [i], 0) else r) }
          let b := (((b.setStack n k).evt F.MEM_EVT_SPARED).count F.LIF_RETIRE_MEMORY).report 13 1 (n + 16 * pch + 1024 * sp)
          b.retirementChanged
        else ((b.setStack n k).count F.LIF_RETIRE_MEMORY).retireStackGangs n [g] false
      | [] => ((b.setStack n k).count F.LIF_RETIRE_MEMORY).retireStackGangs n [g] false

/-- Retirement of a channel of kind k (R443). Pips, clusters, Orchard groups, matchers, lattice and mask engines leave at the next tick
boundary. -/
def Block.retireChannel (b : Block) (kind c : Nat) : Block :=
  match kind with
  | 0 => b.retireLane (c / 4) (c % 4)
  | 1 => b.retireLink c
  | 2 => b.retirePch (c / 64) (c % 64)
  | 3 => b.retireStack c
  | 4 => b.retireStem c
  | 5 =>
    if b.cp.retiringPips.contains (c / 32, c % 32) || b.pipRetired (c / 32) (c % 32) then b
    else
      let b := { b with cp := { b.cp with retiringPips := b.cp.retiringPips ++ [(c / 32, c % 32)] } }
      ((b.count F.LIF_RETIRE_COMPUTE).report 7 1 c).retirementChanged
  | 6 =>
    if b.cp.retiring.contains c || b.cp.retired.testBit c then b
    else
      let b := { b with cp := { b.cp with retiring := b.cp.retiring ++ [c] } }
      ((b.count F.LIF_RETIRE_COMPUTE).report 7 2 c).retirementChanged
  | 7 =>
    if b.groupOut c then b
    else ((((b.atBoundary 23 c 0 0).evt F.ORC_EVT_GROUP_RETIRED).count F.LIF_RETIRE_COMPUTE).report 9 1 c).retirementChanged
  | 8 =>
    if b.unitOut 1 c then b
    else ((((b.atBoundary 24 (64 + c) 0 0).evt F.MAT_EVT_RETIRED).count F.LIF_RETIRE_COMPUTE).report 10 1 c).retirementChanged
  | 9 =>
    if b.unitOut 0 c then b
    else (((b.atBoundary 24 c 0 0).count F.LIF_RETIRE_COMPUTE).report 12 7 (3 + 256 * c)).retirementChanged
  | _ =>
    if b.unitOut 2 c then b
    else (((b.atBoundary 24 (128 + c) 0 0).count F.LIF_RETIRE_COMPUTE).report 12 7 (4 + 256 * c)).retirementChanged

/-- A fault recorded in a channel's window (R444); a cluster fault counts as both (R443). -/
def Block.fault (b : Block) (kind c : Nat) (unc : Bool) : Block :=
  let key := kind * 65536 + c
  let win := b.fget (F.LNK_FW_WINDOW_MS.at kind) * 1000
  let h := (tgetD b.io.hist key []).filter (fun e => decide (b.clk.timeUs ≤ e.1 + win))
  let permanent := unc && h.any (·.2)
  let h := h ++ [(b.clk.timeUs, unc)]
  let permanent := permanent || decide (b.fget (F.LNK_FW_LIMIT.at kind) < h.length)
  let b := { b with io := { b.io with hist := tset b.io.hist key h } }
  if permanent then b.retireChannel kind c else b

/-- An empty fault window (R445). -/
def Block.clearWindow (b : Block) (kind c : Nat) : Block :=
  { b with io := { b.io with hist := tdel b.io.hist (kind * 65536 + c) } }

/-- The pseudo-channel at a position of a gang. -/
def Block.pchAt (b : Block) (n g p : Nat) : Nat := n * 64 + (b.stackAt n).posmap.getD (18 * g + p) 0

/-- A read that stayed uncorrectable was answered to its requester (R451): re-read, counted, reported, and attributed to each pseudo-channel that
supplied an erasure, in whose window it counts (R264, R443). -/
def Block.ueAnswered (b : Block) (off n : Nat) : Block :=
  let bad := (b.linesOf off n).find? (fun l => (tget b.mem.badLines (lineKey l.1 l.2)).isSome)
  match bad with
  | none => b
  | some l =>
    let ps := tgetD b.mem.badLines (lineKey l.1 l.2) []
    let b := (((b.count F.MEM_CNT_B_REREAD).count F.MEM_CNT_B_UE).evt F.MEM_EVT_UE).report 13 4
      (l.1 + 16 * (l.2 / 512 % 3) + 64 * (l.2 / 512 / 3))
    (ps.map (b.pchAt l.1 (l.2 / 512 % 3))).foldl (fun b c => b.fault 2 c true) b

end Sys2Proof.Machine
end

