-- ==== Sys2Proof/Machine/Matcher.lean ====
section
/-! DEFINITION. Matcher sets: the automaton (R313 to R315), its image checks (R316), and stop sets (R201 to R204). -/
namespace Sys2Proof.Machine
open Sys2Proof

/-- The next state of a set on a symbol (R315). -/
def mNext (i : Img) (state x : Nat) : Nat :=
  let c := if x < iu i 12 4 then iu i (iu i 40 8 + 2 * x) 2 else 0
  let dense := iu i 24 4
  if state < dense then iu i (iu i 48 8 + (state * iu i 16 2 + c) * 4) 4
  else
    let r := iu i 56 8 + 16 * (state - dense)
    match (List.range (iu i (r + 8) 4)).find? (fun k => iu i (iu i (r + 4) 4 + 8 * k) 2 == c) with
    | some k => iu i (iu i (r + 4) 4 + 8 * k + 4) 4
    | none => iu i r 4

/-- The patterns on the accept list of a state. -/
def mAccept (i : Img) (state : Nat) : List Nat :=
  let o := iu i (iu i 64 8 + 4 * state) 4
  if o = 0xFFFFFFFF then [] else (List.range (iu i o 4)).map (fun k => iu i (o + 4 + 4 * k) 4)

def mAction (i : Img) (p : Nat) : Nat := iu i (iu i 72 8 + 8 * p) 1
def mCategory (i : Img) (p : Nat) : Nat := iu i (iu i 72 8 + 8 * p + 1) 1
def mLength (i : Img) (p : Nat) : Nat := iu i (iu i 72 8 + 8 * p + 4) 4

/-- The better of the hits at one position: greater LENGTH, then lower id (R315). -/
def mFirst (i : Img) (l : List Nat) : Option Nat :=
  l.foldl (fun r p => match r with
    | none => some p
    | some q => if mLength i q < mLength i p || (mLength i q == mLength i p && decide (p < q)) then some p else r) none

/-- A matcher run (R315, R319): end state, counts by category, first BLOCK, FLAG and any hit. -/
def mRun (i : Img) (start : Nat) (xs : List Nat) : MatchRes :=
  let r := xs.foldl (fun (p : Nat × Nat × MatchRes) x =>
    let st := mNext i p.1 x
    let hits := mAccept i st
    let pick := fun (old : Option (Nat × Nat)) (ok : Nat → Bool) => match old with
      | some h => some h
      | none => (mFirst i (hits.filter ok)).map (fun q => (q, p.2.1))
    let counts := hits.foldl (fun (c : List Nat) q => c.modify (mCategory i q) (fun v => min (v + 1) 0xFFFFFFFF)) p.2.2.counts
    (st, p.2.1 + 1, { p.2.2 with counts := counts, block := pick p.2.2.block (fun q => mAction i q == 2),
                                 flag := pick p.2.2.flag (fun q => mAction i q == 1), first := pick p.2.2.first (fun _ => true) }))
    (start, 0, { status := 0, endState := start, symbols := xs.length, counts := List.replicate 16 0, block := none, flag := none, first := none })
  { r.2.2 with endState := r.1 }

/-- A job that returned no matches: READ_ERROR 1 or FAULT 2 (R320). -/
def mFailed (st : Nat) : MatchRes :=
  { status := st, endState := 0, symbols := 0, counts := List.replicate 16 0, block := none, flag := none, first := none }

/-- The header rules of R313 for a vocabulary of `pieces` pieces (ALPHABET 1). -/
def mHeader (i : Img) (pieces : Option Nat) : Bool :=
  let total := iu i 80 8
  let states := iu i 20 4
  let dense := iu i 24 4
  let cl := iu i 16 2
  iu i 0 4 == 0x4D415443 && iu i 4 2 == 1 && decide (iu i 6 1 ≤ 1) && iu i 7 1 == 0
  && (if iu i 6 1 = 0 then iu i 8 4 == 0 && iu i 12 4 == 256 else pieces == some (iu i 12 4))
  && decide (1 ≤ cl ∧ cl ≤ 4096) && iu i 18 2 == 0 && decide (1 ≤ states ∧ states ≤ 16777216) && decide (dense ≤ states)
  && decide (iu i 28 4 < states) && decide (1 ≤ iu i 32 4 ∧ iu i 32 4 ≤ 1048576) && iu i 36 4 == 0 && allZero (i 88 36)
  && decide (128 ≤ total) && inImg total (iu i 40 8) (2 * iu i 12 4) && inImg total (iu i 48 8) (dense * cl * 4)
  && inImg total (iu i 56 8) (16 * (states - dense)) && inImg total (iu i 64 8) (4 * states) && inImg total (iu i 72 8) (8 * iu i 32 4)

/-- Spans of the tables and of the sparse entries, which no accept list may share (R316). -/
def mTables (i : Img) : List (Nat × Nat) :=
  let states := iu i 20 4
  let dense := iu i 24 4
  [(0, 128), (iu i 40 8, 2 * iu i 12 4), (iu i 48 8, dense * iu i 16 2 * 4), (iu i 56 8, 16 * (states - dense)), (iu i 64 8, 4 * states),
   (iu i 72 8, 8 * iu i 32 4)]
  ++ (List.range (states - dense)).map (fun k => (iu i (iu i 56 8 + 16 * k + 4) 4, 8 * iu i (iu i 56 8 + 16 * k + 8) 4))

/-- The layouts of R314 and the ranges of R316. -/
def mRecords (i : Img) : Bool :=
  let total := iu i 80 8
  let states := iu i 20 4
  let dense := iu i 24 4
  let cl := iu i 16 2
  let pats := iu i 32 4
  let tabs := mTables i
  (List.range (iu i 12 4)).all (fun x => decide (iu i (iu i 40 8 + 2 * x) 2 < cl))
  && (List.range (dense * cl)).all (fun k => decide (iu i (iu i 48 8 + 4 * k) 4 < states))
  && (List.range (states - dense)).all (fun k =>
    let r := iu i 56 8 + 16 * k
    let f := iu i (r + 4) 4
    let n := iu i (r + 8) 4
    decide (iu i r 4 < states) && iu i (r + 12) 4 == 0 && decide (n ≤ cl) && inImg total f (8 * n)
    && (List.range n).all (fun j => decide (iu i (f + 8 * j) 2 < cl) && iu i (f + 8 * j + 2) 2 == 0 && decide (iu i (f + 8 * j + 4) 4 < states))
    && adjacent (fun a c => decide (a < c)) ((List.range n).map (fun j => iu i (f + 8 * j) 2)))
  && (List.range states).all (fun s =>
    let o := iu i (iu i 64 8 + 4 * s) 4
    let n := iu i o 4
    o == 0xFFFFFFFF || (inImg total o 4 && decide (1 ≤ n ∧ n ≤ 65536) && inImg total o (4 + 4 * n)
      && (mAccept i s).all (fun p => decide (p < pats)) && adjacent (fun a c => decide (a < c)) (mAccept i s)
      && tabs.all (fun t => !(decide (o < t.1 + t.2 ∧ t.1 < o + 4 + 4 * n)))))
  && (List.range pats).all (fun p =>
    let e := iu i 72 8 + 8 * p
    decide (iu i e 1 ≤ 2) && decide (iu i (e + 1) 1 ≤ 15) && iu i (e + 2) 2 == 0 && decide (1 ≤ iu i (e + 4) 4 ∧ iu i (e + 4) 4 ≤ 65535))

/-- A matcher set image passes the checks of R316; the vocabulary of a token set must be resident (log 13). -/
def Block.matcherOk (b : Block) (i : Img) : Bool :=
  mHeader i (((b.slotOf (iu i 8 4)).bind b.vocab).map vocPieces) && imgCrc i (iu i 80 8) 124 && mRecords i

/-- The strings of a stop set (R201). -/
def stopStrings (i : Img) : List (List Byte) :=
  (List.range (iu i 6 2)).map (fun k =>
    let e := iu i 16 8 + 8 * k
    i (iu i e 4) (iu i (e + 4) 1))

/-- The automaton of a stop set, with its own offsets. -/
def stopAutomaton (i : Img) : Img := fun o n => i (iu i 24 8 + o) n

/-- A stop set image passes the checks of R202. -/
def Block.stopOk (b : Block) (i : Img) : Bool :=
  let total := iu i 32 8
  let n := iu i 6 2
  iu i 0 4 == 0x53545053 && iu i 4 2 == 1 && decide (1 ≤ n ∧ n ≤ 256) && decide (1 ≤ iu i 8 1 ∧ iu i 8 1 ≤ 128)
  && allZero (i 9 7) && allZero (i 40 20) && decide (64 ≤ total) && inImg total (iu i 16 8) (8 * n) && inImg total (iu i 24 8) 128
  && imgCrc i total 60
  && (List.range n).all (fun k =>
    let e := iu i 16 8 + 8 * k
    decide (1 ≤ iu i (e + 4) 1 ∧ iu i (e + 4) 1 ≤ 128) && iu i (e + 5) 3 == 0 && inImg total (iu i e 4) (iu i (e + 4) 1))
  && (stopStrings i).all (fun s => (textUnits s).all (fun u => !u.raw))
  && ((stopStrings i).map List.length).foldl max 0 == iu i 8 1
  && distinctBy (fun a c => a == c) (stopStrings i)
  && iu (stopAutomaton i) 6 1 == 0 && inImg total (iu i 24 8) (iu (stopAutomaton i) 80 8) && b.matcherOk (stopAutomaton i)

def Block.matcherSet (b : Block) (n : Nat) : Option Img := (tget b.ob.msets n).map b.imgAt
def Block.stopSet (b : Block) (n : Nat) : Option Img := (tget b.ob.stops n).map b.imgAt

/-- A string ends at the end of some bytes. -/
def endsWith (l s : List Byte) : Bool := s.isSuffixOf l

/-- The stop that completes first among strings over `old ++ new` (R203): index of the string, and how many bytes of `new` are taken by
the completing position. Ends within `new` only; the earliest start wins. -/
def stopHit (strs : List (List Byte)) (old : List Byte) : Nat → List Byte → Option (Nat × Nat)
  | _, [] => none
  | k, x :: r =>
    let cur := old ++ [x]
    let hits := ((List.range strs.length).map (fun n => (n, strs.getD n []))).filter (fun e => endsWith cur e.2)
    match hits.foldl (fun (h : Option (Nat × List Byte)) e => match h with
        | none => some e
        | some g => if g.2.length < e.2.length then some e else h) none with
    | some e => some (e.1, k + 1)
    | none => stopHit strs cur (k + 1) r

/-- Lengths of suffixes of bytes that begin on a character boundary. -/
def onBoundary (l : List Byte) (n : Nat) : Bool :=
  let x := ((l.drop (l.length - n)).headD 0).toNat
  !(decide (128 ≤ x ∧ x < 192))

/-- The stop holdback (R204): the longest suffix of at most `limit` bytes that is a proper start of a string. -/
def stopHold (strs : List (List Byte)) (l : List Byte) (limit : Nat) : Nat :=
  (List.range (min limit l.length + 1)).foldl (fun r n =>
    if n > 0 && onBoundary l n && strs.any (fun s => decide (n < s.length) && (l.drop (l.length - n)).isPrefixOf s) then n else r) 0

end Sys2Proof.Machine
end

