-- ==== Sys2Proof/Machine/Orchard.lean ====
section
/-! DEFINITION. Tree ensembles: image checks (R296 to R300), the walk (R305) and the scores (R306). -/
namespace Sys2Proof.Machine
open Sys2Proof

def oOutputs (i : Img) : Nat := iu i 7 1
def oFeatures (i : Img) : Nat := iu i 8 2
def oTrees (i : Img) : Nat := iu i 10 2

/-- Offset of a tree record; of node n of a tree. -/
def oTree (i : Img) (t : Nat) : Nat := iu i 32 8 + 16 * t
def oNode (i : Img) (t n : Nat) : Nat := iu i 40 8 + 16 * (iu i (oTree i t) 4 + n)
def oCount (i : Img) (t : Nat) : Nat := iu i (oTree i t + 4) 4

/-- Offset of the bitmap of a CAT node. -/
def oBitmap (i : Img) (e : Nat) : Nat := iu i 48 8 + 64 * iu i (e + 4) 4

/-- The threshold of a NUM node as binary32: a BF16 threshold widened (R298). -/
def oThreshold (i : Img) (e : Nat) : BitVec 32 :=
  if iu i (e + 2) 1 = 2 then BitVec.ofNat 32 (iu i (e + 4) 2 * 65536) else BitVec.ofNat 32 (iu i (e + 4) 4)

/-- One walk of a tree (R305): the leaf's index and value, records visited, decisions on a missing value. -/
def oWalk (i : Img) (vec : List (BitVec 32)) (t : Nat) : Nat → Nat → Nat → Nat → Nat × BitVec 32 × Nat × Nat
  | 0, n, steps, miss => (n, 0, steps, miss)
  | f + 1, n, steps, miss =>
    let e := oNode i t n
    let kind := iu i (e + 2) 1
    if kind = 0 then (n, BitVec.ofNat 32 (iu i (e + 4) 4), steps + 1, miss)
    else
      let x := vec.getD (iu i e 2) 0
      let left := iu i (e + 8) 4
      let right := iu i (e + 12) 4
      if kind = 3 then
        let bm := oBitmap i e
        let isMiss := x == 0xFFFFFFFF#32
        let member := if isMiss then (iu i (bm + 4) 1).testBit 0
          else if x.toNat < iu i bm 4 then (iu i (bm + 8 + x.toNat / 8) 1).testBit (x.toNat % 8) else false
        oWalk i vec t f (if member then left else right) (steps + 1) (miss + isMiss.toNat)
      else if (dec32 x).isNan then
        oWalk i vec t f (if (iu i (e + 3) 1).testBit 0 then right else left) (steps + 1) (miss + 1)
      else oWalk i vec t f (if lt32 x (oThreshold i e) then left else right) (steps + 1) miss

/-- The scores of a vector from the leaf values of every tree (R306). -/
def oScores (i : Img) (leaves : List (BitVec 32)) : List (BitVec 32) :=
  let n := oOutputs i
  let s := (List.range n).map (fun o =>
    let mine := ((List.range (oTrees i)).filter (fun t => iu i (oTree i t + 8) 1 == o)).map (fun t => dec32 (leaves.getD t 0))
    add32 (BitVec.ofNat 32 (iu i (64 + 4 * o) 4)) (if mine.isEmpty then 0 else sumRed mine))
  match iu i 6 1 with
  | 1 => s.map sig32
  | 2 =>
    let m := (s.drop 1).foldl max32 (s.headD 0)
    let e := s.map (fun x => exp32 (sub32 x m))
    let z := sumRed (e.map dec32)
    e.map (fun x => div32 x z)
  | _ => s

/-- A vector evaluated: leaf indices, scores, STEPS, MISSING. -/
def oEval (i : Img) (vec : List (BitVec 32)) : List Nat × List (BitVec 32) × Nat × Nat :=
  let w := (List.range (oTrees i)).map (fun t => oWalk i vec t (oCount i t) 0 0 0)
  (w.map (·.1), oScores i (w.map (fun r => r.2.1)), (w.map (fun r => r.2.2.1)).foldl (· + ·) 0, (w.map (fun r => r.2.2.2)).foldl (· + ·) 0)

/-- The longest path from node n, counted in records, children having greater indices. -/
def oDepths (i : Img) (t : Nat) : List Nat :=
  (List.range (oCount i t)).foldl (fun (d : List Nat) k =>
    let n := oCount i t - 1 - k
    let e := oNode i t n
    let at_ := fun (c : Nat) => d.getD (c - n - 1) 0
    (if iu i (e + 2) 1 = 0 then 1 else 1 + max (at_ (iu i (e + 8) 4)) (at_ (iu i (e + 12) 4))) :: d) []

/-- Finite with a magnitude of at most 2^64. -/
def oFinite (w : BitVec 32) : Bool := decide (w.toNat % 2 ^ 31 ≤ 0x5F800000)

/-- The checks of R300, with the zeros that R297 and R298 require of a record (log 64). -/
def orchardOk (i : Img) : Bool :=
  let total := iu i 56 8
  let out := oOutputs i
  let feats := oFeatures i
  let trees := oTrees i
  let nodes := iu i 12 4
  let bm := iu i 16 4
  iu i 0 4 == 0x4F524348 && iu i 4 2 == 1 && decide (iu i 6 1 ≤ 2) && decide (1 ≤ out ∧ out ≤ 16) && (iu i 6 1 != 2 || decide (2 ≤ out))
  && decide (1 ≤ feats ∧ feats ≤ 4096) && decide (1 ≤ trees ∧ trees ≤ 16384) && decide (1 ≤ nodes ∧ nodes ≤ 1048576)
  && bm % 64 == 0 && iu i 20 4 == 0 && allZero (i (64 + 4 * out) (64 - 4 * out)) && allZero (i 128 60) && decide (192 ≤ total)
  && inImg total (iu i 24 8) feats && inImg total (iu i 32 8) (16 * trees) && inImg total (iu i 40 8) (16 * nodes) && inImg total (iu i 48 8) bm
  && imgCrc i total 188
  && (List.range feats).all (fun k => decide (iu i (iu i 24 8 + k) 1 ≤ 1))
  && (List.range out).all (fun o => oFinite (BitVec.ofNat 32 (iu i (64 + 4 * o) 4)))
  && distinctBy (fun (a c : Nat × Nat) => decide (a.1 < c.1 + c.2 ∧ c.1 < a.1 + a.2)) ((List.range trees).map (fun t => (iu i (oTree i t) 4, oCount i t)))
  && (List.range trees).all (fun t =>
    let cnt := oCount i t
    let depth := iu i (oTree i t + 9) 1
    decide (1 ≤ cnt ∧ cnt ≤ 65536) && decide (iu i (oTree i t) 4 + cnt ≤ nodes) && decide (iu i (oTree i t + 8) 1 < out)
    && decide (1 ≤ depth ∧ depth ≤ 64) && allZero (i (oTree i t + 10) 6)
    && (List.range cnt).all (fun n =>
      let e := oNode i t n
      let kind := iu i (e + 2) 1
      let l := iu i (e + 8) 4
      let r := iu i (e + 12) 4
      decide (kind ≤ 3) && decide (iu i (e + 3) 1 ≤ (if kind = 1 ∨ kind = 2 then 1 else 0)) && (kind != 2 || iu i (e + 6) 2 == 0)
      && (if kind = 0 then oFinite (BitVec.ofNat 32 (iu i (e + 4) 4)) && iu i e 2 == 0 && l == 0 && r == 0
        else decide (n < l ∧ l < cnt ∧ n < r ∧ r < cnt) && decide (iu i e 2 < feats)
          && iu i (iu i 24 8 + iu i e 2) 1 == (if kind = 3 then 1 else 0)
          && (if kind = 3 then
              let o := 64 * iu i (e + 4) 4
              let cats := iu i (oBitmap i e) 4
              decide (o + 8 ≤ bm) && decide (1 ≤ cats ∧ cats ≤ 65536) && decide (o + cdiv (8 + cdiv cats 8) 64 * 64 ≤ bm)
              && decide (iu i (oBitmap i e + 4) 1 ≤ 1) && iu i (oBitmap i e + 5) 3 == 0
            else !(dec32 (oThreshold i e)).isNan && oThreshold i e != 0x80000000#32)))
    && (oDepths i t).headD 0 == depth)

/-- Node store units of an ensemble (R300). -/
def oUnits (l : List Byte) : Nat := cdiv l.length 65536

/-- Units held by images copied and waiting for the boundary (R300). -/
def Block.storeHeld (b : Block) : Nat := ((b.ob.acts.filter (fun a => a.what == 9)).map (fun a => oUnits a.bytes)).foldl (· + ·) 0

/-- The image of a loaded ensemble. -/
def Block.ensemble (b : Block) (n : Nat) : Option Img := (tget b.ob.ensembles n).map imgOf

/-- Free node store units (R312). -/
def Block.storeFree (b : Block) : Nat := 256 - ((b.ob.ensembles.map (fun e => oUnits e.2)).foldl (· + ·) 0 + b.storeHeld)

end Sys2Proof.Machine
end

