-- ==== Sys2Proof/Machine/Log.lean ====
section
/-! DEFINITION. The writes that wait for the pair (R507), the verdict log (R332 to R334) with its leaf arena, and the
values of a screening profile (R321). -/
namespace Sys2Proof.Machine
open Sys2Proof

/-- The block is the active of a READY pair, whose outward writes wait for a sync (R507). -/
def Block.holdsOut (b : Block) : Bool := b.fget F.STA_PAIR_STATE == 4 && b.fget F.STA_IDENT_PAIR_ROLE == 0

/-- A counter written outward with a release put: at once, once the standby holds the state it announces (R507), or never (R509). -/
def Block.announce (b : Block) (a v : Nat) (pool : Option Nat) (seq what : Nat) : Block :=
  if b.fget F.STA_PAIR_STATE = 5 then b
  else if b.holdsOut then { b with pair := { b.pair with heldWrites := b.pair.heldWrites ++
    [{ epoch := b.pair.epoch + 1, addr := a, data := leBytes 8 v, pool := pool, seq := seq, what := what }] } }
  else b.agentPut a (leBytes 8 v) 2 pool seq what

/-- A counter register the surroundings read, raised at once, once the standby holds the state (R507), or never (R509). -/
def Block.announceReg (b : Block) (f : Fld) (v : Nat) : Block :=
  if b.fget F.STA_PAIR_STATE = 5 then b
  else if b.holdsOut then
    { b with pair := { b.pair with heldWrites := b.pair.heldWrites ++
      [{ epoch := b.pair.epoch + 1, addr := b.node * 2 ^ 56 + 4 * 2 ^ 52 + f.off, data := leBytes 8 v, pool := none, seq := 8, what := 0 }] } }
  else b.fset f v

/-- Records of the ring and the next slot's room (R334). -/
def Block.logRoom (b : Block) : Bool :=
  decide (b.fget F.VRD_LOG_SEQ_SEQ - b.fget F.VRD_LOG_TAKEN_TAKEN < 2 ^ b.fget F.VRD_LOG_CFG_SIZE_LOG2)

/-- The ring address of a record. -/
def Block.logSlot (b : Block) (seq : Nat) : Nat := b.fget F.VRD_LOG_BASE_BASE + seq % 2 ^ b.fget F.VRD_LOG_CFG_SIZE_LOG2 * 128

/-- Staged records written to the ring while it has room. -/
def Block.logDrainGo : Nat → Block → Block
  | 0, b => b
  | f + 1, b =>
    match b.log.staged with
    | [] => b
    | r :: rest =>
      if b.logRoom then
        let seq := lefld r 0 8
        let b := b.agentPut (b.logSlot seq) r 0 none 10 0
        Block.logDrainGo f (({ b with log := { b.log with staged := rest } }).fset F.VRD_LOG_SEQ_SEQ seq)
      else b

/-- A drained batch with its counter write (R334). -/
def Block.logDrain (b : Block) : Block :=
  let c := Block.logDrainGo (b.log.staged.length) b
  if c.log.staged.length = b.log.staged.length then c
  else c.announce (c.fget F.VRD_LOG_CTR_ADDR) (c.fget F.VRD_LOG_SEQ_SEQ) none 10 0

/-- A record of a body of 112 bytes after its SEQ and before its last 4 reserved bytes enters the staging area. -/
def Block.logStage (b : Block) (body : List Byte) : Block :=
  let seq := b.log.seq + 1
  let r := withCrc ((padTo (leBytes 8 seq ++ body) 124).take 124)
  ({ b with log := { b.log with seq := seq, staged := b.log.staged ++ [r] } }).noteMirror (privAddr 4 seq) r

def Block.logFull (b : Block) : Bool := decide (4096 ≤ b.log.staged.length)

/-- The head of a record from KIND to CAUSE (R332). -/
def logHead (kind verdict flags entry gen tick time tenant domain profile cause : Nat) : List Byte :=
  leBytes 1 kind ++ leBytes 1 verdict ++ leBytes 2 flags ++ leBytes 2 entry ++ leBytes 2 gen ++ leBytes 8 tick ++ leBytes 8 time
  ++ leBytes 2 tenant ++ leBytes 2 domain ++ leBytes 2 profile ++ leBytes 2 cause

/-- A LOSS event once the staging area has room (R333, R334). -/
def Block.logLoss (b : Block) : Block :=
  if b.log.lost = 0 || b.logFull then b
  else
    let b := b.logStage (logHead 4 0xFF 0 0 0 b.tick b.clk.timeUs 0 0 0 5 ++ leBytes 8 b.log.lost)
    { b with log := { b.log with lost := 0 } }

/-- Draining, the LOSS event it may make room for, and its own draining. -/
def Block.logPump (b : Block) : Block := (b.logDrain.logLoss).logDrain

/-- What a remote write or add of a register starts beside its value: a raised VRD_LOG_TAKEN makes room for staged records (R334). -/
def Block.afterRegWrite (b : Block) (a : Nat) : Block := if gaSpace a = 4 ∧ gaOff a = 0x0E30 then b.logPump else b

/-- A record that finds the staging area full is lost (R334). -/
def Block.logLose (b : Block) : Block :=
  let b := (b.count F.VRD_CNT_D_LOG_LOST).evt F.VRD_EVT_LOG_FULL
  { b with log := { b.log with lost := b.log.lost + 1 } }

/-- A CANCELLED or EVENT record written, or lost. -/
def Block.logRecord (b : Block) (body : List Byte) : Block :=
  if b.logFull then b.logLose else (b.logStage body).logPump

/-- An EVENT record (R333): code and the bytes from byte 40. -/
def Block.logEvent (b : Block) (code : Nat) (data : List Byte) : Block :=
  b.logRecord (logHead 4 0xFF 0 0 0 b.tick b.clk.timeUs 0 0 0 code ++ data)

/-- The head of a record about an entry. -/
def Block.logEntryHead (b : Block) (e kind verdict flags cause : Nat) : List Byte :=
  logHead kind verdict flags e (b.eget e E.GENERATION) b.tick b.clk.timeUs (b.eget e E.TENANT) (b.eget e E.DOMAIN) (b.eget e E.PROFILE) cause

/-- The entry's latest record noted (R332), if the record was staged. -/
def Block.noteSeq (b : Block) (e : Nat) (before : Nat) : Block :=
  if b.log.seq > before then b.eset e E.VRD_SEQ (before + 1) else b

/-- A CANCELLED record (R42, R103). -/
def Block.logCancelled (b : Block) (e cause : Nat) : Block :=
  let before := b.log.seq
  (b.logRecord (b.logEntryHead e 3 0xFF 0 cause)).noteSeq e before

/-- Space in the leaf arena for n bytes, after the last space given out and clear of every record TAKEN has not passed
(R334; the place is this model's choice, log 14). -/
def Block.leafRoom (b : Block) (n : Nat) : Option Nat :=
  let size := 2 ^ b.fget F.VRD_LEAF_CFG_SIZE_LOG2
  let live := b.log.leaf.filter (fun l => decide (b.fget F.VRD_LOG_TAKEN_TAKEN < l.1))
  let free := fun (o : Nat) => decide (o + n ≤ size) && !(live.any (fun l => overlap o n l.2.1 l.2.2))
  let next := ((b.log.leaf.getLast?).map (fun l => l.2.1 + l.2.2)).getD 0
  if free next then some next else if free 0 then some 0 else none

/-- A field of a profile record (R321): n bytes at an offset. -/
def Block.prof (b : Block) (p o n : Nat) : Nat := b.r0 (b.fget F.VRD_PROF_BASE_BASE + 512 * p + o) n
def Block.profFlag (b : Block) (p k : Nat) : Bool := (b.prof p 0 4).testBit k

/-- Offset of the input or output screen block in a profile record. -/
def scrOff (output : Bool) : Nat := if output then 96 else 32

/-- The classifier, ensemble and thresholds of a screen, primary or Sloe. -/
def Block.scrModel (b : Block) (p : Nat) (output sloe : Bool) : Nat := b.prof p (scrOff output + (if sloe then 2 else 0)) 2
def Block.scrEnsemble (b : Block) (p : Nat) (output sloe : Bool) : Nat := b.prof p (scrOff output + (if sloe then 5 else 4)) 1
def Block.scrThold (b : Block) (p : Nat) (output sloe : Bool) : BitVec 32 :=
  BitVec.ofNat 32 (b.prof p (scrOff output + (if sloe then 16 else 8)) 4)
def Block.scrTblock (b : Block) (p : Nat) (output sloe : Bool) : BitVec 32 :=
  BitVec.ofNat 32 (b.prof p (scrOff output + (if sloe then 20 else 12)) 4)
def Block.scrDec (b : Block) (p : Nat) (output : Bool) : Nat := b.prof p (scrOff output + 6) 1
def Block.scrFeatures (b : Block) (p : Nat) (output : Bool) : Nat := b.prof p (scrOff output + 7) 1
def Block.scrByteSet (b : Block) (p : Nat) (output : Bool) : Nat := b.prof p (scrOff output + 24) 2
def Block.scrTokenSet (b : Block) (p : Nat) (output : Bool) : Nat := b.prof p (scrOff output + 26) 2
def Block.deepModel (b : Block) (p : Nat) (sloe : Bool) : Nat := b.prof p (if sloe then 162 else 160) 2

/-- The record of a screening verdict from FIRST_TOKEN on (R332). -/
def Block.verdictTail (b : Block) (e : Nat) (s : Screen) (ids : List Nat) (leafRef leafCount : Nat) : List Byte :=
  let p := b.eget e E.PROFILE
  let model := b.scrModel p s.output s.sloe
  let ad := b.adaptersFor e model
  let hitOf := fun (f : MatchRes → Option (Nat × Nat)) =>
    match (s.bset.bind f), (s.tset.bind f) with
    | some h, _ => (h.1, false)
    | none, some h => (h.1, true)
    | none, none => (0xFFFFFFFF, false)
  leBytes 4 s.first ++ leBytes 4 s.count ++ leBytes 2 model ++ leBytes 2 s.deepRan
  ++ leBytes 1 s.ensRan ++ leBytes 1 ad.length ++ leBytes 2 (b.prof p 16 2)
  ++ (List.range 4).flatMap (fun k => leBytes 4 (ad.getD k 0xFFFFFFFF)) ++ leBytes 4 s.score.toNat
  ++ leBytes 4 (if s.deep.st = 2 then (s.deep.outs.getD (b.prof p 164 1) 0).toNat else 0x7FC00000)
  ++ leBytes 4 (hitOf (·.block)).1 ++ leBytes 4 (hitOf (·.flag)).1
  ++ (sha384 (ids.flatMap (leBytes 4))).take 16 ++ leBytes 8 leafRef ++ leBytes 4 leafCount

/-- FLAGS of a verdict record (R332). A record is written only when its verdict is posted or applied, so FINAL is set. -/
def Screen.flags (s : Screen) (leaves : Bool) : Nat :=
  let tok := fun (f : MatchRes → Option (Nat × Nat)) => (s.bset.bind f).isNone && (s.tset.bind f).isSome
  bitsOf [s.sloe || s.deepSloe, s.retried, s.deepRan != 0xFFFF, s.overrun, s.late, s.fault, leaves, true, tok (·.block), tok (·.flag)]

/-- The leaf indices of a screen appended to the leaf arena for the record about to be staged (R334). -/
def Block.leafAppend (b : Block) (e : Nat) (s : Screen) : Block × Nat × Nat :=
  if !(b.profFlag (b.eget e E.PROFILE) 4) || s.leaves.isEmpty then (b, 0, 0)
  else
    match b.leafRoom (4 * s.leaves.length) with
    | none => ((b.count F.VRD_CNT_D_LEAF_DROP).evt F.VRD_EVT_LEAF_DROP, 0, 0)
    | some o =>
      let b := b.wr0 (b.fget F.VRD_LEAF_BASE_BASE + o) (s.leaves.flatMap (leBytes 4))
      ({ b with log := { b.log with leaf := (b.log.leaf.filter (fun l => decide (b.fget F.VRD_LOG_TAKEN_TAKEN < l.1))) ++
        [(b.log.seq + 1, o, 4 * s.leaves.length)] } }, o, s.leaves.length)

/-- A verdict's record written (R332, R334): the verdict that stands, INDETERMINATE where the log has no room. -/
def Block.logVerdict (b : Block) (e : Nat) (s : Screen) (verdict : Nat) (ids : List Nat) : Block × Nat :=
  if b.logFull then (b.logLose, 3)
  else
    let before := b.log.seq
    let r := b.leafAppend e s
    let b := r.1
    let flags := s.flags (decide (0 < r.2.2))
    let b := b.logStage (b.logEntryHead e (if s.output then 2 else 1) verdict flags 0 ++ b.verdictTail e s ids r.2.1 r.2.2)
    ((b.logPump).noteSeq e before, verdict)

/-- Verdict counters (R336). -/
def Block.countVerdict (b : Block) (output : Bool) (v : Nat) : Block :=
  match output, v with
  | false, 0 => b.count F.VRD_CNT_IN_A_PASS
  | false, 1 => b.count F.VRD_CNT_IN_B_HOLD
  | false, 2 => b.count F.VRD_CNT_IN_A_BLOCK
  | false, _ => b.count F.VRD_CNT_IN_B_INDET
  | true, 0 => b.count F.VRD_CNT_OUT_A_PASS
  | true, 1 => b.count F.VRD_CNT_OUT_B_HOLD
  | true, 2 => b.count F.VRD_CNT_OUT_A_BLOCK
  | true, _ => b.count F.VRD_CNT_OUT_B_INDET

/-- A screening item before any unit has run. -/
def Screen.new (id : Nat) (output long : Bool) (first count ordFirst : Nat) (toks : List Nat) (bytes : List Byte) (deadline : Nat) : Screen where
  id := id
  output := output
  long := long
  first := first
  count := count
  ordFirst := ordFirst
  toks := toks
  bytes := bytes
  deadline := deadline
  stage := 0
  lang := { st := 0, outs := [] }
  cls := { st := 0, outs := [] }
  ens := { st := 0, outs := [] }
  deep := { st := 0, outs := [] }
  bset := none
  tset := none
  bsetWait := false
  tsetWait := false
  sloe := false
  deepSloe := false
  retried := false
  late := false
  overrun := false
  fault := false
  absent := false
  verdict := none
  score := 0
  leaves := []
  ids := []
  ext := none
  ensRan := 0
  deepRan := 0xFFFF
  reachedUs := 0

/-- A screening item of an entry changed. -/
def Block.modScreen (b : Block) (e sid : Nat) (f : Screen → Screen) : Block :=
  b.modSide e (fun s => { s with screens := s.screens.map (fun c => if c.id = sid then f c else c) })

/-- The screen of an item. -/
def Block.screenOf (b : Block) (sid : Nat) : Option (Nat × Screen) :=
  b.rq.side.findSome? (fun e => (e.2.screens.find? (fun c => c.id == sid)).map (fun c => (e.1, c)))

end Sys2Proof.Machine
end

