-- ==== Sys2Proof/Machine/Store.lean ====
section
/-! DEFINITION. The model store (R271 to R293): loads into the warm region, fills of the hot store, eviction, pins,
stream state. Models and tenant adapters share the operations; `ad` tells an adapter. -/
namespace Sys2Proof.Machine
open Sys2Proof

/-- The lowest start of n free places among `total`, clear of the spans in use. -/
def firstFit (used : List (Nat × Nat)) (total n : Nat) : Option Nat :=
  let ok := fun (o : Nat) => decide (o + n ≤ total) && !(used.any (fun u => overlap o n u.1 u.2))
  (sortNat (0 :: used.map (fun u => u.1 + u.2))).find? ok

/-- The lowest run of n numbers in an ascending list of free ones. -/
def runFit (free : List Nat) (n : Nat) : Option Nat := free.find? (fun o => (List.range n).all (fun k => free.contains (o + k)))

/-- Numbers returned to an ascending free list. -/
def giveBack (free l : List Nat) : List Nat := sortNat (free ++ l.filter (fun x => !free.contains x))

/-- The record of a model or adapter: address. -/
def Block.objAddr (b : Block) (ad : Bool) (n : Nat) : Nat :=
  if ad then b.fget F.MDL_ADP_BASE_BASE + 64 * n else b.fget F.MDL_CAT_BASE_BASE + 128 * n
def Block.objPut (b : Block) (ad : Bool) (n o k v : Nat) : Block := b.wr0 (b.objAddr ad n + o) (leBytes k v)

def Block.objState (b : Block) (ad : Bool) (n : Nat) : Nat := if ad then b.adp n 3 1 else b.cat n 0 1
def Block.setObjState (b : Block) (ad : Bool) (n v : Nat) : Block := b.objPut ad n (if ad then 3 else 0) 1 v
def Block.objHot (b : Block) (ad : Bool) (n : Nat) : Nat := if ad then b.adp n 4 1 else b.cat n 2 1
def Block.setObjHot (b : Block) (ad : Bool) (n v : Nat) : Block := b.objPut ad n (if ad then 4 else 2) 1 v
def Block.objSource (b : Block) (ad : Bool) (n : Nat) : Nat := if ad then b.adp n 16 8 else b.cat n 8 8
def Block.objBytes (b : Block) (ad : Bool) (n : Nat) : Nat := if ad then b.adp n 32 4 else b.cat n 16 8
def Block.objWarm (b : Block) (ad : Bool) (n : Nat) : Nat := if ad then b.adp n 24 8 else b.cat n 24 8
def Block.objGranules (b : Block) (ad : Bool) (n : Nat) : Nat := if ad then b.adp n 12 4 else b.cat n 32 4
def Block.objLastUse (b : Block) (ad : Bool) (n : Nat) : Nat := if ad then b.adp n 36 4 else b.cat n 48 4
def Block.objProgress (b : Block) (ad : Bool) (n : Nat) : Nat := if ad then b.adp n 40 8 else b.cat n 40 8
def Block.setLastUse (b : Block) (ad : Bool) (n : Nat) : Block := b.objPut ad n (if ad then 36 else 48) 4 (b.tick % 2 ^ 32)

/-- A field of a WARM model's image header (R271). -/
def Block.hdr (b : Block) (n o k : Nat) : Nat := b.r0 (b.objWarm false n + o) k

/-- The 128-byte image header of a model in any state (R271): of the warm copy, as last read from the image, or as it stands at SOURCE. -/
def Block.headBytes (b : Block) (n : Nat) : List Byte :=
  let src := b.objSource false n
  if b.objState false n = 3 then b.rd0 (b.objWarm false n) 128
  else match tget b.st.heads n with
    | some l => l
    | none => if gaSpace src = 0 && gaNode src == b.node then b.rd0 (gaOff src) 128 else (List.range 128).map (Config.coldHeader src)

/-- A field of a model's image header (R271). -/
def Block.header (b : Block) (n o k : Nat) : Nat := lefld (b.headBytes n) o k

/-- The kinds of R271 a class of work runs (R272). -/
def classKind (cls : Nat) : Option Nat :=
  match cls with
  | 1 => some 1
  | 2 => some 2
  | 3 => some 3
  | 4 => some 4
  | 5 => some 2
  | _ => none

/-- Items queued for a model or adapter. -/
def Block.itemsFor (b : Block) (ad : Bool) (n : Nat) : List Item :=
  b.cp.items.filter (fun t => if ad then (b.adaptersFor t.entry t.model).contains n else t.model == n)

/-- A copy leaves the warm region. -/
def Block.freeWarm (b : Block) (ad : Bool) (n : Nat) : Block :=
  { b with st := { b.st with warm := b.st.warm.filter (fun w => !(w.1 == ad && w.2.1 == n)) } }

/-- Room for a load in the warm region (R277), returning models to COLD where that makes it. -/
def Block.warmRoom (b : Block) (units : Nat) : Option (Nat × Block) :=
  let total := b.fget F.MDL_WARM_SIZE_UNITS
  let fit := fun (b : Block) => firstFit (b.st.warm.map (fun w => (w.2.2.1, w.2.2.2))) total units
  match fit b with
  | some u => some (u, b)
  | none =>
    let cand := (b.st.warm.filter (fun w => !w.1 && b.cat w.2.1 0 1 == 3 && (b.cat w.2.1 3 1).testBit 1 && b.cat w.2.1 4 4 == 0
      && b.cat w.2.1 2 1 == 0 && (b.itemsFor false w.2.1).isEmpty)).map (fun w => w.2.1)
    let order := sortBy (fun x y => decide (b.cat x 48 4 < b.cat y 48 4) || (b.cat x 48 4 == b.cat y 48 4 && decide (x ≤ y))) cand
    let drop := fun (b : Block) (n : Nat) => (b.setObjState false n 1).freeWarm false n
    match fit (order.foldl drop b) with
    | none => none
    | some _ =>
      let c := order.foldl (fun c n => match fit c with
        | some _ => c
        | none => drop c n) b
      (fit c).map (fun u => (u, c))

/-- When the load of an object began, where one is in flight. -/
def Block.loading (b : Block) (ad : Bool) (n : Nat) : Option Nat := (b.st.loads.find? (fun l => l.1 == ad && l.2.1 == n)).bind (·.2.2)

/-- A load started, or waiting for room (R276, R277). Needs of one object share one load. -/
def Block.startLoad (b : Block) (ad : Bool) (n : Nat) : Block :=
  let rest := b.st.loads.filter (fun l => !(l.1 == ad && l.2.1 == n))
  if (b.loading ad n).isSome then b
  else
    match b.warmRoom (cdiv (b.objBytes ad n) 2097152) with
    | none => ({ b with st := { b.st with loads := rest ++ [(ad, n, none)] } }).count F.MDL_CNT_C_WARM_WAIT
    | some (u, c) =>
      let c := { c with st := { c.st with loads := rest ++ [(ad, n, some c.clk.timeUs)], warm := c.st.warm ++ [(ad, n, u, cdiv (c.objBytes ad n) 2097152)] } }
      (c.setObjState ad n 2).objPut ad n 24 8 (c.fget F.MDL_WARM_BASE + u * 2097152)

/-- The header of a model image (R271); `total` the image's size. -/
def modelHeaderOk (i : Img) (total : Nat) : Bool :=
  let kind := iu i 6 1
  iu i 0 4 == 0x4D4F444C && iu i 4 2 == 1 && decide (kind ≤ 4) && decide (iu i 7 1 ≤ 1)
  && decide (iu i 12 4 ≤ (if kind = 0 then 60000000 else 1000000000)) && decide (iu i 28 4 ≤ 524288)
  && (if kind = 3 then iu i 32 4 % 65536 == 0 && decide (iu i 32 4 ≤ 262144) else iu i 32 4 == 0)
  && (kind != 0 || decide (iu i 36 4 ≤ 512)) && (if kind = 0 then decide (iu i 40 4 ≤ 2048) else iu i 40 4 == 0)
  && decide (iu i 44 1 ≤ 64) && (decide (2 ≤ kind) || iu i 44 1 == 0) && iu i 45 3 == 0 && allZero (i 88 36) && decide (128 ≤ total)
  && iu i 80 8 == total && inImg total (iu i 64 8) (iu i 24 4) && inImg total (iu i 72 8) (iu i 16 8) && imgCrc i total 124

/-- Banks of the hot store with their free granules. -/
def Block.freeGranules (b : Block) : List (Nat × List Nat) :=
  let used := b.st.hot.flatMap (·.granules)
  b.hotBanks.map (fun k => (k, (List.range 128).filter (fun g => !used.contains (k * 128 + g))))

def Block.freeCount (b : Block) : Nat := (b.freeGranules.map (fun f => f.2.length)).foldl (· + ·) 0

/-- The placement of R280: one granule at each bank in turn. -/
def placeGo : Nat → Nat → List (Nat × List Nat) → List Nat
  | 0, _, _ => []
  | _, 0, _ => []
  | f + 1, g + 1, l =>
    match l with
    | [] => []
    | (k, fr) :: rest =>
      match fr with
      | [] => placeGo f (g + 1) (rest ++ [(k, [])])
      | x :: more => (k * 128 + x) :: placeGo f g (rest ++ [(k, more)])

def Block.place (b : Block) (g : Nat) : List Nat :=
  let l := b.freeGranules
  let best := l.foldl (fun (r : Nat × Nat) e => if r.2 < e.2.length then (e.1, e.2.length) else r) (0, 0)
  let at_ := (l.takeWhile (fun e => e.1 != best.1)).length
  placeGo ((g + 1) * (l.length + 1)) g (l.drop at_ ++ l.take at_)

/-- A context of the hot store. -/
def Block.ctx (b : Block) (ad : Bool) (n : Nat) : Option Ctx := b.st.hot.find? (fun c => c.adapter == ad && c.num == n)
def Block.resident (b : Block) (ad : Bool) (n : Nat) : Bool := ((b.ctx ad n).map (·.resident)).getD false

/-- A context leaves the hot store: HOT 0, granules freed. -/
def Block.unhot (b : Block) (ad : Bool) (n : Nat) : Block :=
  ({ b with st := { b.st with hot := b.st.hot.filter (fun c => !(c.adapter == ad && c.num == n)) } }).setObjHot ad n 0

/-- Stream state of a pair (R286) is there, or the model needs none. -/
def Block.hasState (b : Block) (e model : Nat) : Bool :=
  b.cat model 1 1 != 3 || b.header model 32 4 == 0 || b.st.states.any (fun s => s.1 == e && s.2.1 == model)

/-- An item waits for no adapter fill and no stream state (R288, R291). -/
def Block.itemReady (b : Block) (t : Item) : Bool :=
  (b.adaptersFor t.entry t.model).all (b.resident true) && b.hasState t.entry t.model

/-- The conditions of a resident context: in use, idle, blocked. -/
def Block.inUse (b : Block) (ad : Bool) (n : Nat) : Bool := (b.itemsFor ad n).any (fun t => t.begun && !t.suspended && !t.clusters.isEmpty)
def Block.idleCtx (b : Block) (ad : Bool) (n : Nat) : Bool := (b.itemsFor ad n).isEmpty
def Block.blockedCtx (b : Block) (ad : Bool) (n : Nat) : Bool := !(b.itemsFor ad n).isEmpty && (b.itemsFor ad n).all (fun t => !b.itemReady t)

/-- A context may give way to a fill: an adapter's alone where only those may, and never a pinned one (R283, R288, R290). -/
def Block.mayLeave (b : Block) (adaptersOnly : Bool) (c : Ctx) : Bool := (c.adapter || !adaptersOnly) && (c.adapter || b.cat c.num 4 4 == 0)

/-- Candidates for eviction in the order of R288. -/
def Block.evictOrder (b : Block) (adaptersOnly : Bool) : List Ctx :=
  let c := b.st.hot.filter (fun c => c.resident && b.mayLeave adaptersOnly c && !b.inUse c.adapter c.num && decide (c.filledTick + 1 + b.fget F.MDL_CTRL_RESIDE_MIN ≤ b.tick))
  let by_ := fun (k : Ctx → Nat) (x y : Ctx) => decide (k x < k y) || (k x == k y && decide (x.num ≤ y.num))
  sortBy (by_ (fun c => b.objLastUse c.adapter c.num)) (c.filter (fun c => b.idleCtx c.adapter c.num))
  ++ sortBy (by_ (fun c => b.objProgress c.adapter c.num)) (c.filter (fun c => b.blockedCtx c.adapter c.num))

/-- An object waits for a fill. -/
def Block.fillLater (b : Block) (ad : Bool) (n : Nat) : Block :=
  if b.st.fillWait.contains (ad, n) then b else { b with st := { b.st with fillWait := b.st.fillWait ++ [(ad, n)] } }

/-- A fill waits; counted at each attempt that finds no room (log 17). -/
def Block.fillWaits (b : Block) (ad : Bool) (n : Nat) : Block := (b.count F.MDL_CNT_C_FILL_WAIT).fillLater ad n

/-- A context evicted (R288); one with items queued waits for a new fill. -/
def Block.evict (b : Block) (ad : Bool) (n : Nat) : Block :=
  let c := (b.unhot ad n).count F.MDL_CNT_A_EVICT
  if b.idleCtx ad n then c else c.fillLater ad n

/-- An object is WARM and holds no granule. -/
def Block.fillable (b : Block) (ad : Bool) (n : Nat) : Bool := b.objState ad n == 3 && (b.ctx ad n).isNone

/-- The hot adapters are as many as may be (R290). -/
def Block.adaptersFull (b : Block) (ad : Bool) : Bool := ad && decide (4096 ≤ (b.st.hot.filter (·.adapter)).length)

/-- A fill started, evicting contexts where that makes room (R280, R288, R290), or waiting. -/
def Block.fillNow (b : Block) (ad : Bool) (n : Nat) : Block :=
  if !b.fillable ad n then b
  else
    let g := b.objGranules ad n
    let full := b.adaptersFull ad
    let cand := b.evictOrder full
    let sum := (cand.map (fun c => c.granules.length)).foldl (· + ·) 0
    if b.freeCount + sum < g || (full && cand.isEmpty) then b.fillWaits ad n
    else
      let b := match full, cand with
        | true, c :: _ => b.evict c.adapter c.num
        | _, _ => b
      let b := cand.foldl (fun b c => if g ≤ b.freeCount || (b.ctx c.adapter c.num).isNone then b else b.evict c.adapter c.num) b
      if b.freeCount < g then b.fillWaits ad n
      else
        let c : Ctx := { adapter := ad, num := n, granules := b.place g, resident := false, filledTick := 0, began := b.clk.timeUs }
        let b := { b with st := { b.st with hot := b.st.hot ++ [c], fillWait := b.st.fillWait.filter (fun w => w != (ad, n)) } }
        b.setObjHot ad n 1

/-- The earliest deadline of the items queued for an object. -/
def Block.fillBy (b : Block) (ad : Bool) (n : Nat) : Nat := ((b.itemsFor ad n).map (·.deadline)).foldl min (2 ^ 64)

/-- Pinned models that wait for a fill (R283, R285). -/
def Block.pinnedWaits (b : Block) : List Nat := b.st.pinned.filter (fun n => b.st.fillWait.contains (false, n) && b.fillable false n)

/-- Pinned fills come before any other (R285): they are tried first, and `f` follows once none of them waits. -/
def Block.afterPinned (b : Block) (f : Block → Block) : Block :=
  let c := b.pinnedWaits.foldl (fun b n => b.fillNow false n) b
  if c.pinnedWaits.isEmpty then f c else c

/-- A fill an item needs (R281), behind the pinned ones that wait. -/
def Block.startFill (b : Block) (ad : Bool) (n : Nat) : Block :=
  if !b.fillable ad n then b
  else if !ad && b.st.pinned.contains n then b.fillNow ad n
  else (b.fillLater ad n).afterPinned (fun b => b.fillNow ad n)

/-- Waiting fills tried again (R285, R288): pinned models first, then by the earliest deadline; a fill nothing needs any more is given
up, and one whose items are not ready stays. -/
def Block.retryFills (b : Block) : Block :=
  let pinned := fun (w : Bool × Nat) => !w.1 && b.st.pinned.contains w.2
  let wanted := b.st.fillWait.filter (fun w => pinned w || !b.idleCtx w.1 w.2)
  let order := sortBy (fun x y => decide (b.fillBy x.1 x.2 ≤ b.fillBy y.1 y.2)) (wanted.filter (fun w => !pinned w))
  { b with st := { b.st with fillWait := wanted } }.afterPinned (fun b =>
    order.foldl (fun (b : Block) (w : Bool × Nat) => if !w.1 && b.blockedCtx w.1 w.2 then b else b.fillNow w.1 w.2) b)

/-- The models whose items an adapter's fill has made ready are filled where they are not hot (R288). -/
def Block.fillReady (b : Block) (adapter : Nat) : Block :=
  ((b.itemsFor true adapter).filter b.itemReady).foldl (fun b t => if b.resident false t.model then b else b.startFill false t.model) b

/-- What an item needs of the store (R277, R281, R291): loads and fills are started, and LAST_USE is set when it is queued. -/
def Block.needObject (b : Block) (ad : Bool) (n : Nat) : Block :=
  if b.objState ad n = 1 then b.startLoad ad n else if b.objState ad n = 3 then b.startFill ad n else b

/-- Stream state for a pair of entry and model, first-fit (R286): the units, or a wait. -/
def Block.stateAlloc (b : Block) (e model : Nat) : Block :=
  if b.hasState e model then b
  else
    let n := b.header model 32 4 / 65536
    match firstFit (b.st.states.map (fun s => (s.2.2.1, s.2.2.2))) (b.fget F.MDL_STATE_SIZE_UNITS) n with
    | some u => { b with st := { b.st with states := b.st.states ++ [(e, model, u, n)] } }
    | none => b.count F.MDL_CNT_C_STATE_WAIT

/-- Stream state of a model the block no longer has (R286). -/
def Block.dropStates (b : Block) (model : Nat) : Block := { b with st := { b.st with states := b.st.states.filter (fun s => s.2.1 != model) } }

def Block.freeStates (b : Block) (e : Nat) : Block := { b with st := { b.st with states := b.st.states.filter (fun s => s.1 != e) } }

/-- Pinned granules, with a model's added (R284). -/
def Block.pinnedWith (b : Block) (l : List Nat) : Nat :=
  ((b.st.pinned ++ l.filter (fun n => !b.st.pinned.contains n)).map (b.objGranules false)).foldl (· + ·) 0

/-- R284 holds for pins on some models. -/
def Block.pinOk (b : Block) (l : List Nat) : Bool :=
  l.all (fun n => b.cat n 0 1 == 3) && decide (b.pinnedWith l + b.fget F.MDL_CTRL_FREE_MIN ≤ 128 * b.hotBanks.length)

/-- A pin taken (R283); a newly pinned model is filled in the next main window. -/
def Block.pin (b : Block) (n : Nat) : Block :=
  let b := b.objPut false n 4 4 (b.cat n 4 4 + 1)
  let b := if b.st.pinned.contains n then b else { b with st := { b.st with pinned := sortNat (n :: b.st.pinned) } }
  if (b.ctx false n).isSome then b else b.fillLater false n

def Block.unpin (b : Block) (n : Nat) : Block :=
  let b := b.objPut false n 4 4 (b.cat n 4 4 - 1)
  if b.cat n 4 4 = 0 then { b with st := { b.st with pinned := b.st.pinned.filter (· != n) } } else b

/-- An object's source lies in the block's own space 0. -/
def Block.objHere (b : Block) (ad : Bool) (n : Nat) : Bool := gaNode (b.objSource ad n) == b.node && gaSpace (b.objSource ad n) == 0

/-- What a load reads at its source (R276): nothing where the source cannot be read. -/
def Block.objData (b : Block) (ad : Bool) (n : Nat) (far : List FarRead) : Option (List Byte) :=
  let src := b.objSource ad n
  let total := b.objBytes ad n
  if b.objHere ad n then
    if b.span0 (gaOff src) total true = 0 ∧ gaOff src + total ≤ b.stacksS * b.usable then some (b.rd0 (gaOff src) total) else none
  else (farRead far src total).toOption

/-- A load ends (R276): the copy, its checks, and STATUS of the command that waits for it. -/
def Block.loadDone (b : Block) (ad : Bool) (n : Nat) (far : List FarRead) : Block :=
  match b.loading ad n with
  | none => b
  | some _ =>
    let total := b.objBytes ad n
    if !b.objHere ad n && !b.clk.mainWindow then b
    else
      let data := b.objData ad n far
      let b := { b with st := { b.st with loads := b.st.loads.filter (fun l => !(l.1 == ad && l.2.1 == n)) } }
      let b := match data with
        | some l => b.wr0 (b.objWarm ad n) l
        | none => b
      let good := match data with
        | none => false
        | some l => if ad then sha384 l == (tget b.st.adpDigest n).getD []
                    else sha384 l == b.rd0 (b.objAddr false n + 64) 48 && modelHeaderOk (imgOf l) total
      let b := if good then
          let b := (b.setObjState ad n 3).count F.MDL_CNT_B_LOADS
          if ad then b.objPut true n 12 4 (cdiv total 262144)
          else
            let b := { b with st := { b.st with heads := tset b.st.heads n (((data.getD []).take 128)) } }
            (b.objPut false n 1 1 (b.hdr n 6 1)).objPut false n 32 4 (cdiv (b.hdr n 24 4 + b.hdr n 16 8) 262144)
        else ((b.freeWarm ad n).setObjState ad n 4).count F.MDL_CNT_B_LOAD_FAIL
      let b := if !ad && b.st.cmdModel == some n then
          ({ b with st := { b.st with cmdModel := none } }).fset F.MDL_CMD_STATUS (if good then 0 else 2)
        else b
      if ad && b.st.cmdAdapter == some n then ({ b with st := { b.st with cmdAdapter := none } }).fset F.MDL_ADP_CMD_STATUS (if good then 0 else 2)
      else b

/-- The bytes of a context: a model's code then its weights, or the whole adapter (log 20). -/
def Block.ctxBytes (b : Block) (ad : Bool) (n : Nat) : List Byte :=
  if ad then b.rd0 (b.objWarm true n) (b.objBytes true n)
  else b.rd0 (b.objWarm false n + b.hdr n 64 8) (b.hdr n 24 4) ++ b.rd0 (b.objWarm false n + b.hdr n 72 8) (b.hdr n 16 8)

/-- The last granule of a fill is written (R281). -/
def Block.fillDone (b : Block) (ad : Bool) (n : Nat) : Block :=
  match b.ctx ad n with
  | none => b
  | some c =>
    if c.resident || !b.clk.mainWindow then b
    else
      let data := b.ctxBytes ad n
      let die := ((List.range c.granules.length).foldl (fun m k =>
        mwrN m (c.granules.getD k 0 * 262144) ((data.drop (k * 262144)).take 262144)) b.mem.die)
      let b := { b with mem := { b.mem with die := die },
                        st := { b.st with hot := b.st.hot.map (fun (x : Ctx) => if x.adapter = ad && x.num = n then { x with resident := true, filledTick := b.tick } else x) } }
      let b := (b.setObjHot ad n 2).count F.MDL_CNT_A_FILLS
      if ad then b else b.objPut false n 36 4 (b.tick % 2 ^ 32)

/-- The cost of an item (R273) in cluster-cycles. -/
def Block.itemCost (b : Block) (t : Item) : Nat :=
  let ranks := (b.adaptersFor t.entry t.model).map (fun a => cdiv (b.adp a 2 1) 32)
  b.header t.model 48 8 + t.tokens * (b.header t.model 56 4 + b.header t.model 60 4 * ranks.foldl (· + ·) 0)

end Sys2Proof.Machine
end

