-- ==== Sys2Proof/Machine/Items.lean ====
section
/-! DEFINITION. Pip work: clusters and their items (R66 to R70, R84, R364, R365, R370), and screening from the units
of an item to its verdict (R322, R325 to R331). -/
namespace Sys2Proof.Machine
open Sys2Proof

/-- A screening item of an entry. -/
def Block.scr (b : Block) (e sid : Nat) : Option Screen := (b.side e).screens.find? (fun c => c.id == sid)

/-- Clusters that work: enabled and not retired. -/
def Block.clusters (b : Block) : List Nat := (List.range 64).filter b.clusterOn

/-- The class a cluster serves: the one it is lent to for the frame (R82), or its own. -/
def Block.clsOf (b : Block) (c : Nat) : Nat := (tget b.cp.lent c).getD (tgetD b.cp.cls c 0)

/-- The item a cluster works on. -/
def Block.busyItem (b : Block) (c : Nat) : Option Item := b.cp.items.find? (fun t => t.clusters.contains c)

def Block.modItem (b : Block) (id : Nat) (f : Item → Item) : Block :=
  { b with cp := { b.cp with items := b.cp.items.map (fun (t : Item) => if t.id = id then f t else t) } }

def Block.setCls (b : Block) (c k : Nat) : Block := { b with cp := { b.cp with cls := tset b.cp.cls c k } }

/-- A cluster takes a class as its own: no move of it waits, and it is lent to none. -/
def Block.takeCls (b : Block) (c k : Nat) : Block :=
  ({ b with cp := { b.cp with moving := tdel b.cp.moving c, lent := tdel b.cp.lent c } }).setCls c k

/-- A cluster moves to a class now, or once its item completes or is suspended (R70). -/
def Block.moveCluster (b : Block) (c k : Nat) : Block :=
  if (b.busyItem c).isSome then { b with cp := { b.cp with moving := tset b.cp.moving c k } } else b.takeCls c k

/-- A cluster whose item has left it takes the class it was to move to. -/
def Block.clusterFree (b : Block) (c : Nat) : Block :=
  match tget b.cp.moving c with
  | none => b
  | some k => b.takeCls c k

/-- Unretired Pips of a cluster. -/
def Block.pipsOf (b : Block) (c : Nat) : List Nat := (List.range 32).filter (fun k => !b.pipRetired c k)

/-- The order of waiting items (R84): deadline, then priority, then admission time. -/
def itemBefore (x y : Item) : Bool :=
  decide (x.deadline < y.deadline) || (x.deadline == y.deadline && (decide (y.prio < x.prio) || (x.prio == y.prio && decide (x.admitAt ≤ y.admitAt))))

/-- queue(c) of R84: begun items in the order they began, then the waiting ones in order. -/
def Block.queueOf (b : Block) (cls : Nat) : List Item :=
  let mine := b.cp.items.filter (fun t => t.cls == cls)
  mine.filter (·.begun) ++ sortBy itemBefore (mine.filter (fun t => !t.begun))

/-- Where an executor's registers lie while its item is suspended (R66). -/
def parkKey (id k : Nat) : Nat := 100000 * (id + 1) + k

/-- The outbound operations of an executor follow its registers. -/
def Block.rekey (b : Block) (k k' : Nat) : Block :=
  { b with rm := { b.rm with out := b.rm.out.map (fun (o : OutOp) =>
      match o.purpose with
      | .posted x i d => if x = k then { o with purpose := .posted k' i d } else o
      | .block x => if x = k then { o with purpose := .block k' } else o
      | _ => o) } }

/-- A fetch of a cluster some Pip has popped or released. -/
def Block.poppedFetch (b : Block) (c : Nat) (f : Fetch) : Bool :=
  decide (f.left ≠ f.mask.toNat)
  || (List.range 32).any (fun k => ((b.exAt (100 + c * 32 + k)).popped.flatMap (·.2)).any (fun t => t.fetch == f.id))

/-- An executor's registers set aside (R66): a Picker's fetches that no Pip has popped are discarded and run again (R263). `v` is the block before any
of the cluster's executors is set aside. -/
def Block.parkExec (b v : Block) (id c k : Nat) : Block :=
  match tget b.rm.execs k with
  | none => b
  | some e =>
    let kept := fun (i : Nat) => ([10000 + 2 * c, 10001 + 2 * c].flatMap (fun p => (v.exAt p).fetches)).any (fun f => f.id == i && v.poppedFetch c f)
    let e' := { e with
      fetches := e.fetches.map (fun (f : Fetch) => if v.poppedFetch c f then f else { f with arrived := false, err := false, pushed := false, again := false })
      q := e.q.map (fun p => (p.1, p.2.filter (fun (t : Token) => kept t.fetch))) }
    ({ b with rm := { b.rm with execs := tset (tset b.rm.execs (parkKey id k) e') k Exec.clear } }).rekey k (parkKey id k)

/-- The registers of a resumed item back in place. -/
def Block.unpark (b : Block) (id k : Nat) : Block :=
  match tget b.rm.execs (parkKey id k) with
  | none => b
  | some e => ({ b with rm := { b.rm with execs := tdel (tset b.rm.execs k e) (parkKey id k) } }).rekey (parkKey id k) k

/-- Parked registers of an item are lost with it. -/
def Block.dropParked (b : Block) (id : Nat) : Block :=
  { b with rm := { b.rm with execs := b.rm.execs.filter (fun e => e.1 / 100000 != id + 1) } }

/-- An item is parked on a cluster. -/
def Block.parkedOn (b : Block) (id c : Nat) : Bool := (clusterKeys c).any (fun k => (tget b.rm.execs (parkKey id k)).isSome)

/-- The time a cluster has worked on an item, added to what it has spent. -/
def Block.spentNow (b : Block) (t : Item) : Nat := t.spent + (if t.clusters.isEmpty then 0 else (b.clk.cycles - t.since) * t.clusters.length)

/-- One item that runs is suspended: its registers are set aside and its clusters are free. -/
def Block.suspendItem (b : Block) (t : Item) : Block :=
  let b := t.clusters.foldl (fun b c => (clusterKeys c).foldl (fun d k => d.parkExec b t.id c k) b) b
  let b := b.modItem t.id (fun u => { u with suspended := true, spent := b.spentNow u, clusters := [] })
  t.clusters.foldl (fun b c => b.clusterFree c) b

/-- Every item that runs is suspended as Draft begins (R66). -/
def Block.suspendAll (b : Block) : Block := (b.cp.items.filter (fun t => !t.clusters.isEmpty)).foldl (fun b t => b.suspendItem t) b

/-- Bytes of a model's context, and its kernel header (R370). -/
def Block.ctxAt (b : Block) (model o n : Nat) : List Byte := b.peek 1 (2 ^ 51 + model * 2 ^ 32 + o) n

/-- The rules of a kernel header: every entry within CODE, the warm-up entries only in a DRAFT image, the rest 0. -/
def Block.kernelOk (b : Block) (model : Nat) : Bool :=
  let h := b.ctxAt model 0 64
  let n := b.hdr model 24 4
  decide (64 ≤ n) && allZero (h.drop 24) && (List.range 6).all (fun i => decide (lefld h (4 * i) 4 < n))
  && (b.cat model 1 1 == 0 || allZero ((h.drop 12).take 12))

/-- The registers an item or draft job starts with on one cluster (R370). `entry` is 0 for an item or pass, 3 for a warm-up. -/
def Block.startKernel (b : Block) (c model record entry : Nat) (item : Option Nat) (fast : Bool) : Block :=
  let pips := b.pipsOf c
  let code := if b.kernelOk model then b.hdr model 24 4 else 0
  let ctx := b.node * 2 ^ 56 + 2 ^ 52 + 2 ^ 51 + model * 2 ^ 32
  let put := fun (b : Block) (k idx part : Nat) =>
    let e := b.exAt k
    let f := { Exec.clear with posted := e.posted, rmErr := e.rmErr, item := item, fast := fast, code := code,
                               pc := lefld (b.ctxAt model (4 * (entry + part)) 4) 0 4 }
    let w := fun (n : Nat) => BitVec.ofNat 64 n
    b.setExAt k ((((f.ws 1 (w record)).ws 2 (w idx)).ws 3 (w pips.length)).ws 4 (w ctx))
  let b := (List.range pips.length).foldl (fun b i => put b (100 + c * 32 + pips.getD i 0) i 0) b
  put (put b (10000 + 2 * c) 0 1) (10001 + 2 * c) 1 2

/-- Registers of an item set aside on clusters that are no longer of its class are lost: its rows there are run again. -/
def Block.dropStrays (b : Block) (t : Item) : Block :=
  ((List.range 64).filter (fun d => b.clsOf d != t.cls && b.parkedOn t.id d)).foldl (fun b d =>
    { b with rm := { b.rm with execs := b.rm.execs.filter (fun e => !((clusterKeys d).any (fun k => parkKey t.id k == e.1))) } }) b

/-- A deep stage that begins to run (R328, R332): the model its record names, and one count however often it is substituted or resumed. -/
def Block.deepBegins (b : Block) (t : Item) : Block :=
  match t.screen with
  | none => b
  | some sid =>
    if t.begun || t.part ≠ 3 then b
    else
      let b := if (b.scr t.entry sid).any (fun s => s.deepRan == 0xFFFF) then b.count F.VRD_CNT_C_DEEP else b
      b.modScreen t.entry sid (fun s => { s with deepRan := t.model })

/-- A cluster takes a share of an item (R84), or resumes the share whose registers it holds; elsewhere a share starts anew, with the same
result (R251). -/
def Block.beginOn (b : Block) (c : Nat) (t : Item) : Block :=
  let u := { t with begun := true, suspended := false, clusters := t.clusters ++ [c], spent := b.spentNow t, since := b.clk.cycles }
  let others := b.cp.items.filter (fun (x : Item) => x.id != t.id)
  let items := if t.begun then b.cp.items.map (fun (x : Item) => if x.id = t.id then u else x)
    else others.filter (·.begun) ++ [u] ++ others.filter (fun (x : Item) => !x.begun)
  let b := (({ b with cp := { b.cp with items := items } }).deepBegins t).dropStrays t
  if b.parkedOn t.id c then (clusterKeys c).foldl (fun b k => b.unpark t.id k) b
  else b.startKernel c t.model t.record 0 (some t.id) false

/-- Cluster-cycles per µs of a number of clusters times 512: the effective frequency of R472 in R273. -/
def Block.rate512 (b : Block) (cs : List Nat) : Nat :=
  (cs.map (fun c => (b.pipsOf c).length)).foldl (· + ·) 0 * b.clk.mhz * b.fget F.PWR_STAT_DUTY

/-- The parts of the main window: its start and length in µs after the boundary. -/
def Block.windowStart (b : Block) : Nat := b.fget F.TICK_TURN_TURN_US
def Block.windowLen (b : Block) : Nat := b.fget F.TICK_PERIOD_PERIOD_US - b.fget F.TICK_TURN_TURN_US

/-- A lent cluster takes only an item whose cost fits in the rest of the frame (R82). -/
def Block.fitsFrame (b : Block) (c : Nat) (t : Item) : Bool :=
  (tget b.cp.lent c).isNone
  || decide ((b.itemCost t - b.spentNow t) * 512 ≤ (b.windowStart + (b.clk.frame + 1) * b.windowLen / 8 - b.tickUs) * b.rate512 [c])

/-- The item a free cluster of a class takes (R84): the one whose share it holds, else the first in order; an item's rows do not run out
while it runs (log 16). -/
def Block.nextItem (b : Block) (cls c : Nat) : Option Item :=
  let ready := (b.queueOf cls).filter (fun t => !t.failed && b.resident false t.model && b.itemReady t && b.fitsFrame c t)
  match ready.find? (fun t => b.parkedOn t.id c) with
  | some t => some t
  | none => ready.head?

/-- The code order of R69, R82 and R84. -/
def clsOrder : List Nat := [3, 1, 2, 5, 4]

/-- A free cluster whose own class has no ready work is lent for the rest of the frame to the first class in order with an item that fits (R82):
the class, and the item. -/
def Block.lendTo (b : Block) (c : Nat) : Option (Nat × Item) :=
  let own := tgetD b.cp.cls c 0
  let back := { b with cp := { b.cp with lent := tdel b.cp.lent c } }
  if b.monitored || !b.clk.mainWindow || (tget b.cp.moving c).isSome || (own != 0 && (back.nextItem own c).isSome) then none
  else clsOrder.foldl (fun (r : Option (Nat × Item)) j => match r with
    | some x => some x
    | none => if j = own then none
      else ({ b with cp := { b.cp with lent := tset b.cp.lent c j } }.nextItem j c).map (fun t => (j, t))) none

/-- A free cluster takes an item: of the class it serves, or under the table of one it is lent to; before the main window of class 3 alone, once
its drafting has ended (R67). -/
def Block.serveCluster (b : Block) (c : Nat) : Block :=
  if (b.busyItem c).isSome || b.draftShare c || decide (1 < b.cp.dpass.length) then b
  else if b.clk.mainWindow then
    let k := b.clsOf c
    match (if k = 0 then none else b.nextItem k c) with
    | some t => b.beginOn c t
    | none => match b.lendTo c with
      | some (j, t) => ({ b with cp := { b.cp with lent := tset b.cp.lent c j } }).beginOn c t
      | none => b
  else if b.clk.ticking && b.draftEnded c then
    let d := b.takeCls c 3
    match d.nextItem 3 c with
    | some t => d.beginOn c t
    | none => b
  else b

/-- Every free cluster takes what it can, the lowest-numbered first. -/
def Block.dispatchItems (b : Block) : Block := b.clusters.foldl (fun b c => b.serveCluster c) b

/-- An item enters the queue of its class: LAST_USE, and the loads, fills and state it needs (R277, R281, R286, R291). -/
def Block.addItem (b : Block) (t : Item) : Block :=
  let b := { b with cp := { b.cp with items := b.cp.items ++ [t] } }
  let b := (b.setLastUse false t.model).needObject false t.model
  let b := (b.adaptersFor t.entry t.model).foldl (fun b a => (b.setLastUse true a).needObject true a) b
  (b.stateAlloc t.entry t.model).dispatchItems

/-- The tokens a STREAM model without state runs before the first item queued of the pair (R286): the last WINDOW of the `before` tokens of the
turn that come before the item's own. -/
def Block.catchUp (b : Block) (e model before : Nat) : Nat :=
  if b.hasState e model || b.cp.items.any (fun t => t.entry == e && t.model == model) then 0 else min (b.header model 36 4) before

/-- Tokens generated in the turn before an item's own: all there are, or those before the first one of its screen. -/
def Block.turnBefore (b : Block) (e : Nat) (screen : Option Nat) : Nat :=
  let s := b.side e
  match screen.bind (b.scr e) with
  | some c => if c.output then c.ordFirst + s.turn - s.ord else s.turn
  | none => s.turn

/-- A model that has become WARM, and turns out to be a STREAM model, gives its queued items their catch-up tokens and state (R286). -/
def Block.streamReady (b : Block) (model : Nat) : Block :=
  if b.cat model 1 1 ≠ 3 then b
  else
    let mine := b.itemsFor false model
    let firsts := mine.filter (fun t => (mine.find? (fun u => u.entry == t.entry)).any (fun u => u.id == t.id) && t.catchUp == 0 && !b.hasState t.entry model)
    firsts.foldl (fun b t =>
      let n := min (b.header model 36 4) (b.turnBefore t.entry t.screen)
      (b.modItem t.id (fun u => { u with catchUp := n, tokens := u.tokens + n })).stateAlloc t.entry model) b

/-- An item of the block's own for a unit of a screen: 1 language, 2 classifier, 3 deep (R325, R328). -/
def Block.addScreenItem (b : Block) (e sid part cls model tokens deadline : Nat) (retry : Bool) : Block :=
  let id := b.rq.nextItem
  let n := tokens + b.catchUp e model (b.turnBefore e (some sid))
  let t : Item :=
    { id := id, cls := cls, model := model, entry := e, gen := b.eget e E.GENERATION, deadline := deadline, tokens := n,
      prio := b.eget e E.PRIORITY, profile := b.eget e E.PROFILE, input := 0, output := 0, done := 0, tag := 0, retry := retry,
      screen := some sid, part := part, admitAt := b.eget e E.ADMIT_TIME, sloe := false, begun := false, suspended := false, spent := 0,
      clusters := [], failed := false, catchUp := n - tokens, record := 0, since := 0 }
  let b := { b with rq := { b.rq with nextItem := id + 1 } }
  b.addItem t

/-- Executors an item leaves. -/
def Block.leaveExecs (b : Block) (id : Nat) : Block :=
  let b := b.dropParked id
  { b with rm := { b.rm with execs := b.rm.execs.map (fun p => if p.2.item = some id then
      (p.1, { p.2 with item := none, halted := true, blocked := .no, fetches := [], q := [], popped := [] }) else p) } }

/-- An item leaves its queue and its clusters. -/
def Block.dropItem (b : Block) (id : Nat) : Block :=
  match b.cp.items.find? (fun t => t.id == id) with
  | none => b
  | some t =>
    let b := b.leaveExecs id
    let b := { b with cp := { b.cp with items := b.cp.items.filter (fun (u : Item) => u.id != id) } }
    t.clusters.foldl (fun b c => b.clusterFree c) b

/-- Items of a screen, or of an entry's screens, are abandoned. -/
def Block.dropScreenItems (b : Block) (sids : List Nat) : Block :=
  (b.cp.items.filter (fun t => match t.screen with
    | some s => sids.contains s
    | none => false)).foldl (fun b t => b.dropItem t.id) b

/-- Text units of a kind (R359). -/
def unitCount (kind : Nat) : Nat := if kind = 1 then 16 else if kind = 2 then 32 else 8

/-- A unit takes jobs: not retired, and an Orchard engine with a thread group that is not (R311). -/
def Block.unitUp (b : Block) (kind n : Nat) : Bool :=
  !(b.unit kind n).retired && (kind != 3 || (List.range 4).any (fun g => !b.groupOut (4 * n + g)))

def Block.unitsUp (b : Block) (kind : Nat) : List Nat := (List.range (unitCount kind)).filter (b.unitUp kind)

/-- The unit holding the fewest jobs, ties to the lowest number (R359). -/
def Block.leastUnit (b : Block) (kind : Nat) : Option Nat :=
  ((b.unitsUp kind).foldl (fun (r : Option (Nat × Nat)) n =>
    let k := (b.unit kind n).jobs.length
    match r with
    | none => some (n, k)
    | some p => if k < p.2 then some (n, k) else r) none).map (·.1)

/-- The unit kind of a job of the block's own. -/
def jobUnit (k : Nat) : Nat := if k = 1 then 0 else if k = 2 ∨ k = 3 then 2 else if k = 6 then 3 else 1

/-- An invocation a unit has refused (R303, R318). -/
def Block.countRefused (b : Block) (kind : Nat) : Block :=
  if kind = 1 then b.count F.MAT_CNT_A_REFUSED else if kind = 3 then b.count F.ORC_CNT_A_REFUSED else b

/-- A job of the block's own given to a unit with room, where there is one. -/
def Block.placeJob (b : Block) (j : Job) : Option Block :=
  let kind := jobUnit j.kind
  match b.leastUnit kind with
  | none => none
  | some n =>
    let u := b.unit kind n
    if u.jobs.length < 16 then some (b.setUnit kind n { u with jobs := u.jobs ++ [j] }) else none

/-- A job of the block's own that waits for room (R33): a mask before those of streams that come after its own (R106, R195), any other last. -/
def Block.keepJob (b : Block) (j : Job) : Block :=
  let mask := fun (x : Job) => x.kind == 2 || x.kind == 3
  let stays := fun (x : Job) => !(mask j && mask x && x.entry != j.entry && b.stepBefore j.entry x.entry)
  { b with cp := { b.cp with later := b.cp.later.takeWhile stays ++ j :: b.cp.later.dropWhile stays } }

/-- A job of the block's own given to a unit with room, or refused, the refusal counted once, and kept until there is one (R33, log 64). -/
def Block.ownJob (b : Block) (j : Job) : Block :=
  match b.placeJob j with
  | some c => c
  | none => (b.countRefused (jobUnit j.kind)).keepJob j

/-- The block's own jobs that wait for a kind of unit, invoked again in order (R33). -/
def Block.retryLater (b : Block) (kind : Nat) : Block :=
  let mine := b.cp.later.filter (fun j => jobUnit j.kind == kind)
  let b := { b with cp := { b.cp with later := b.cp.later.filter (fun j => jobUnit j.kind != kind) } }
  mine.foldl (fun b j => (b.placeJob j).getD (b.keepJob j)) b

def Block.mkJob (b : Block) (kind e sub : Nat) : Job :=
  { kind := kind, num := 0, img := none, store := [], start := 0, input := [], desc := [], entry := e, gen := b.eget e E.GENERATION, sub := sub,
    seq := none, tick := b.tick, vecs := [], rerr := [] }

/-- The matcher state record of an entry (R327). -/
def Block.mstate (b : Block) (e : Nat) : Nat := b.fget F.VRD_MSTATE_BASE_BASE + 16 * e

/-- A word of an unsigned number as binary32, to nearest even. -/
def natF32 (n : Nat) : BitVec 32 := enc32 (fvInt n 0)

/-- The value of a feature source (R322) for a screen; `cat` the type of the feature. -/
def Block.feature (b : Block) (e : Nat) (s : Screen) (src : Nat) (cat : Bool) : BitVec 32 :=
  let k := src / 256
  let i := src % 256
  let missing := if cat then 0xFFFFFFFF#32 else nan32
  let cnt := fun (r : Option MatchRes) => match r with
    | some m => natF32 (m.counts.getD i 0)
    | none => nan32
  if k = 1 then s.cls.outs.getD i 0
  else if k = 2 then cnt s.bset
  else if k = 3 then cnt s.tset
  else if k = 4 then (if b.r0 (b.mstate e + 8) 2 = 0xFFFF then 0xFFFFFFFF#32 else BitVec.ofNat 32 (b.r0 (b.mstate e + 8) 2))
  else if k = 5 then (if b.r0 (b.mstate e + 8) 2 = 0xFFFF then nan32 else BitVec.ofNat 32 (b.r0 (b.mstate e + 12) 4))
  else if k = 6 then natF32 s.count
  else if k = 7 then BitVec.ofNat 32 (b.eget e E.TENANT)
  else if k = 8 then natF32 (b.eget e E.PRIORITY)
  else if k = 9 then (if s.deep.st = 2 then s.deep.outs.getD (b.prof (b.eget e E.PROFILE) 164 1) 0 else nan32)
  else if k = 10 then (s.ext.getD []).getD i 0
  else missing

/-- The external words of an entry's tenant (R322). -/
def Block.extWords (b : Block) (e : Nat) : List (BitVec 32) :=
  (List.range 16).map (fun i => BitVec.ofNat 32 (b.r0 (b.fget F.VRD_EXT_BASE_BASE + 64 * b.eget e E.TENANT + 4 * i) 4))

/-- The feature vector of a screen's ensemble. -/
def Block.features (b : Block) (e : Nat) (s : Screen) (ens : Nat) : List (BitVec 32) :=
  let p := b.eget e E.PROFILE
  let types := (b.ensemble ens).map (fun i => (List.range (b.scrFeatures p s.output)).map (fun k => iu i (iu i 24 8 + k) 1 == 1))
  (List.range (b.scrFeatures p s.output)).map (fun k =>
    b.feature e s (b.prof p ((if s.output then 384 else 256) + 2 * k) 2) ((types.getD []).getD k false))

/-- A screen reaches a verdict. -/
def Block.reach (b : Block) (e sid v : Nat) : Block :=
  b.modScreen e sid (fun s => { s with verdict := some v, stage := 3, reachedUs := b.clk.timeUs })

/-- An item whose model is EMPTY or FAILED (R324): INDETERMINATE at once. -/
def Block.screenAbsent (b : Block) (e sid : Nat) : Block :=
  ((b.evt F.VRD_EVT_MODEL_ABSENT).modScreen e sid (fun s => { s with absent := true, fault := true })).reach e sid 3

/-- A model that a screening item can be queued for. -/
def Block.modelThere (b : Block) (model : Nat) : Bool := b.objState false model != 0 && b.objState false model != 4

/-- The state a set run of a screen starts in (R327): the set's START for an input item, the stored state for an output item. -/
def Block.setStart (b : Block) (e : Nat) (s : Screen) (kind : Nat) (i : Img) : Nat :=
  if s.output then b.r0 (b.mstate e + (if kind = 4 then 0 else 4)) 4 else iu i 28 4

/-- The set jobs of a screen (R315, R325, R326); a set with no input has run at once. -/
def Block.startSets (b : Block) (e sid : Nat) : Block :=
  match b.scr e sid with
  | none => b
  | some s =>
    let p := b.eget e E.PROFILE
    let one := fun (b : Block) (set kind : Nat) (empty : Bool) (put : MatchRes → Screen → Screen) (wait : Screen → Screen) =>
      if set = 0 then b
      else if (b.unitsUp 1).isEmpty then b.modScreen e sid (put (mFailed 2))
      else if empty then
        match b.matcherSet set with
        | none => b.modScreen e sid (put (mFailed 1))
        | some i => b.modScreen e sid (put (mRun i (b.setStart e s kind i) []))
      else
        let start := ((b.matcherSet set).map (b.setStart e s kind)).getD 0
        (b.modScreen e sid wait).ownJob { (b.mkJob kind e sid) with
          num := set, img := tget b.ob.msets set, start := start, input := if kind = 4 then s.bytes.map BitVec.toNat else s.toks }
    let b := one b (b.scrByteSet p s.output) 4 s.bytes.isEmpty (fun r c => { c with bset := some r }) (fun c => { c with bsetWait := true })
    one b (b.scrTokenSet p s.output) 5 s.toks.isEmpty (fun r c => { c with tset := some r }) (fun c => { c with tsetWait := true })

/-- The classifier and the sets of a screen are queued. -/
def Block.startCls (b : Block) (e sid : Nat) : Block :=
  match b.scr e sid with
  | none => b
  | some s =>
    let p := b.eget e E.PROFILE
    let model := b.scrModel p s.output false
    if !b.modelThere model then b.screenAbsent e sid
    else
      let b := b.modScreen e sid (fun c => { c with cls := { st := 1, outs := [] } })
      let n := if s.output then s.count else s.ids.length
      (b.addScreenItem e sid 2 (if s.output then 3 else if s.long then 5 else 2) model n s.deadline s.retried).startSets e sid

/-- A screen's first unit: language identification for an input item (R325), the classifier for an output item. -/
def Block.startScreen (b : Block) (e sid : Nat) : Block :=
  match b.scr e sid with
  | none => b
  | some s =>
    if s.output then b.startCls e sid
    else
      let model := b.fget F.MDL_CTRL_LANGID
      if !b.modelThere model then b.screenAbsent e sid
      else (b.modScreen e sid (fun c => { c with lang := { st := 1, outs := [] } })).addScreenItem e sid 1 1 model s.ids.length
        s.deadline s.retried

/-- A unit failed (R328): INDETERMINATE, or the single retry of R330. -/
def Block.screenFailed (b : Block) (e sid : Nat) : Block :=
  match b.scr e sid with
  | none => b
  | some s =>
    let b := b.dropScreenItems [sid]
    if b.profFlag (b.eget e E.PROFILE) (if s.output then 2 else 1) && !s.retried && !s.absent then
      let b := (b.count F.VRD_CNT_C_RETRY).evt F.VRD_EVT_RETRY
      let b := b.modScreen e sid (fun c => { Screen.new c.id c.output c.long c.first c.count c.ordFirst c.toks c.bytes c.deadline with
        retried := true, late := c.late, ids := c.ids })
      b.startScreen e sid
    else (b.modScreen e sid (fun c => { c with fault := true })).reach e sid 3

/-- decide of R328. -/
def decide328 (sc th tb : BitVec 32) (flagged : Bool) : Nat :=
  if (dec32 sc).isNan then 3 else if ge32 sc tb then 2 else if ge32 sc th || flagged then 1 else 0

/-- The ensemble of a screen queued with its features (R322): the external words are read as the item's features are first assembled. -/
def Block.startEnsemble (b : Block) (e sid : Nat) (s : Screen) (ens : Nat) : Block :=
  if (b.unitsUp 3).isEmpty then b.screenFailed e sid
  else
    let s := { s with ext := some (s.ext.getD (b.extWords e)) }
    let b := b.modScreen e sid (fun c => { c with ens := { st := 1, outs := [] }, ext := s.ext })
    b.ownJob { (b.mkJob 6 e sid) with num := ens, store := (tget b.ob.ensembles ens).getD [], vecs := [b.features e s ens] }

/-- The deep stage (R328): class 4 with the deadline of the item that raised the flag. -/
def Block.startDeep (b : Block) (e sid : Nat) (s : Screen) : Block :=
  let p := b.eget e E.PROFILE
  let model := b.deepModel p false
  if !b.modelThere model then b.screenAbsent e sid
  else
    let b := b.modScreen e sid (fun c => { c with stage := 1, deep := { st := 1, outs := [] } })
    b.addScreenItem e sid 3 4 model (if s.output then s.count else s.ids.length) s.deadline s.retried

/-- A screen moved on once a unit has returned (R328). Stage 0 runs the units, 1 the deep stage, 2 the ensemble again. -/
def Block.judge (b : Block) (e sid : Nat) : Block :=
  match b.scr e sid with
  | none => b
  | some s =>
    let p := b.eget e E.PROFILE
    let ens := b.scrEnsemble p s.output s.sloe
    let th := b.scrThold p s.output s.sloe
    let tb := b.scrTblock p s.output s.sloe
    let setBad := fun (r : Option MatchRes) => (r.map (fun m => decide (m.status ≠ 0))).getD false
    let score := fun (b : Block) (x : BitVec 32) => b.modScreen e sid (fun c => { c with score := x })
    if s.verdict.isSome then b
    else if s.stage = 0 then
      if s.lang.st = 1 || s.cls.st = 1 || s.ens.st = 1 || s.bsetWait || s.tsetWait then b
      else if s.lang.st = 3 || s.cls.st = 3 || s.ens.st = 3 || setBad s.bset || setBad s.tset then b.screenFailed e sid
      else if s.cls.st = 0 then b.startCls e sid
      else if ens ≠ 0 && s.ens.st = 0 then b.startEnsemble e sid s ens
      else
        let hit := fun (f : MatchRes → Option (Nat × Nat)) => (s.bset.bind f).isSome || (s.tset.bind f).isSome
        if hit (·.block) then b.reach e sid 2
        else
          let sc := (if ens ≠ 0 then s.ens.outs else s.cls.outs).getD (b.scrDec p s.output) 0
          let b := score b sc
          let v := decide328 sc th tb (hit (·.flag))
          if v = 1 && b.deepModel p false ≠ 0xFFFF then b.startDeep e sid s else b.reach e sid v
    else if s.stage = 1 then
      if s.deep.st = 1 then b
      else if s.deep.st = 3 then b.screenFailed e sid
      else if ens ≠ 0 then (b.modScreen e sid (fun c => { c with stage := 2 })).startEnsemble e sid s ens
      else
        let sc := s.deep.outs.getD (b.prof p 164 1) 0
        (score b sc).reach e sid (decide328 sc (BitVec.ofNat 32 (b.prof p 168 4)) (BitVec.ofNat 32 (b.prof p 172 4)) false)
    else if s.stage = 2 then
      if s.ens.st = 1 then b
      else if s.ens.st = 3 then b.screenFailed e sid
      else
        let sc := s.ens.outs.getD (b.scrDec p s.output) 0
        (score b sc).reach e sid (decide328 sc th tb false)
    else b

/-- What language identification gave, kept in the matcher state record (R528). -/
def Block.keepLanguage (b : Block) (e : Nat) (outs : List (BitVec 32)) : Block :=
  let x := outs.getD 0 0
  match (List.range 1024).find? (fun n => natF32 n == x || (n == 0 && x == 0x80000000#32)) with
  | some n => (b.w0m (b.mstate e + 8) 2 n).w0m (b.mstate e + 12) 4 (outs.getD 1 0).toNat
  | none => (b.w0m (b.mstate e + 8) 2 0xFFFF).w0m (b.mstate e + 12) 4 0x7FC00000

/-- A unit of a screen that ran on Pips has returned. -/
def Block.unitBack (b : Block) (t : Item) (sid status : Nat) (outs : List (BitVec 32)) : Block :=
  match b.screenOf sid with
  | none => b
  | some (e, _) =>
    let r : UnitRes := { st := if status = 0 then 2 else 3, outs := if status = 0 then outs else [] }
    let b := if t.part = 1 then (if status = 0 then b.keepLanguage e outs else b).modScreen e sid (fun c => { c with lang := r })
      else if t.part = 2 then b.modScreen e sid (fun c => { c with cls := r })
      else b.modScreen e sid (fun c => { c with deep := r })
    b.judge e sid

/-- The 128-byte result of an ENQ item (R365). -/
def itemResult (t : Item) (status : Nat) (outs : List (BitVec 32)) : List Byte :=
  withCrc ((padTo (leBytes 4 t.tag ++ leBytes 1 status ++ leBytes 1 t.sloe.toNat ++ leBytes 2 t.model ++ leBytes 4 t.tokens ++ zeros 4
    ++ (if status = 0 then (outs.take 16).flatMap (fun x => leBytes 4 x.toNat) else [])) 124).take 124)

/-- An item ends with a status (R365): its result and DONE, or its screen's unit. -/
def Block.endItem (b : Block) (t : Item) (status : Nat) (outs : List (BitVec 32)) : Block :=
  let b := b.dropItem t.id
  let b := match t.screen with
    | some sid => b.unitBack t sid status outs
    | none => (b.agentPut t.output (itemResult t status outs) 0 none (t.entry / 8192) 0).agentAdd t.done none (t.entry / 8192) 2
  b.dispatchItems

/-- ITEM_DONE (R365): status 0 OK, 1 FAILED, 3 READ_ERROR; an item that an exception has failed ends FAILED, and every failure
counts once (R265). Status 2 is the monitor's, so any other value reads as READ_ERROR. -/
def execItemDone (item status : Nat) (outs : List (BitVec 32)) (s : State) : Host.Outcome State Fault Refusal :=
  s.run (fun b =>
    match b.cp.items.find? (fun t => t.id == item) with
    | none => b
    | some t =>
      let st := if t.failed then 1 else if status ≤ 1 then status else 3
      let b := if st = 1 && !t.failed then (b.count F.PIP_CNT_A_ITEM_FAIL).evt F.PIP_EVT_ITEM_FAIL else b
      let b := b.noteProgress (some item)
      b.endItem t st outs)

end Sys2Proof.Machine
end

