-- ==== Sys2Proof/Machine/Pages.lean ====
section
/-! DEFINITION. Cache pages (R115 to R118, R129), the prefix index (R133 to R140), page lists, and the token extents of
R164. -/
namespace Sys2Proof.Machine
open Sys2Proof

/-- "No page" (R115). -/
def noPage : Nat := 0xFFFFFFFF

/-- An owner field of a page that has no owner (R128). -/
def noOwner : Nat := 0x3FFFFF

/-- The record of a page (R116). -/
def Block.pageRec (b : Block) (p : Nat) : Nat := b.r0 (b.fget F.PG_REC_BASE_BASE + 8 * p) 8
def Block.pageLink (b : Block) (p : Nat) : Nat := bits (b.pageRec p) 0 32
def Block.pageState (b : Block) (p : Nat) : Nat := bits (b.pageRec p) 32 3
def Block.pagePend (b : Block) (p : Nat) : Bool := (b.pageRec p).testBit 35
def Block.pageOwner (b : Block) (p : Nat) : Nat := bits (b.pageRec p) 36 22

/-- A page record written (R505 mirrors it). -/
def Block.setPage (b : Block) (p link state owner : Nat) (pend : Bool) : Block :=
  b.w0m (b.fget F.PG_REC_BASE_BASE + 8 * p) 8 (link + state * 2 ^ 32 + pend.toNat * 2 ^ 35 + owner * 2 ^ 36)

/-- A page changes state and owner, its link and RETIRE_PEND kept. -/
def Block.movePage (b : Block) (p state owner : Nat) : Block := b.setPage p (b.pageLink p) state owner (b.pagePend p)
def Block.linkPage (b : Block) (p link : Nat) : Block := b.setPage p link (b.pageState p) (b.pageOwner p) (b.pagePend p)

/-- A page becomes RETIRED. -/
def Block.retirePage (b : Block) (p : Nat) : Block :=
  let b := b.setPage p 0 4 0 false
  { b with rq := { b.rq with freed := b.rq.freed.filter (· != p) } }

/-- A page becomes FREE, the most recently freed (R129). -/
def Block.freeNow (b : Block) (p : Nat) : Block :=
  let b := b.setPage p 0 0 0 false
  { b with rq := { b.rq with freed := p :: b.rq.freed.filter (· != p) } }

/-- A page becomes FREE, or RETIRED where RETIRE_PEND is set (R118). -/
def Block.freePage (b : Block) (p : Nat) : Block := if b.pagePend p then b.retirePage p else b.freeNow p

/-- Tokens in a page (R147). -/
def Block.pageTokens (b : Block) : Nat := 16 * 2 ^ b.fget F.PG_CTRL_PAGE_SIZE

/-- The pool whose range holds a page. -/
def Block.poolOf (b : Block) (p : Nat) : Option Pool :=
  b.rq.pools.find? (fun q => q.kind != 0 && decide (q.first ≤ p ∧ p < q.first + q.count))

def Block.pool (b : Block) (n : Nat) : Option Pool := b.rq.pools.find? (fun q => q.num == n)

/-- The cache bytes of a page (R119). -/
def Pool.pageAddr (q : Pool) (p : Nat) : Nat := q.base + (p - q.first) * q.pageBytes

def Pool.pages (q : Pool) : List Nat := (List.range q.count).map (q.first + ·)

/-- FREE pages of a pool. -/
def Block.freePages (b : Block) (q : Pool) : List Nat := q.pages.filter (fun p => b.pageState p == 0)

/-- Index record i (R135): a field, and a field written. -/
def Block.idx (b : Block) (i o n : Nat) : Nat := b.r0 (b.fget F.PFX_IDX_BASE_BASE + 64 * i + o) n
def Block.setIdx (b : Block) (i o n v : Nat) : Block := b.w0m (b.fget F.PFX_IDX_BASE_BASE + 64 * i + o) n v
def Block.idxValid (b : Block) (i : Nat) : Bool := (b.idx i 29 1).testBit 0
def Block.idxStale (b : Block) (i : Nat) : Bool := (b.idx i 29 1).testBit 1

/-- An index record is dropped and its page freed, unless a page error has retired it. -/
def Block.dropIdx (b : Block) (i : Nat) : Block :=
  let p := b.idx i 16 4
  let b := b.setIdx i 29 1 0
  if b.pageState p = 2 then b.freePage p else b

/-- PREFIX pages of a pool whose record has no pin, for eviction: oldest LAST_USE, then lowest page (R129). -/
def Block.evictable (b : Block) (q : Pool) : List Nat :=
  let c := q.pages.filter (fun p => b.pageState p == 2 && b.idx (b.pageOwner p) 48 4 == 0)
  sortBy (fun x y => decide (b.idx (b.pageOwner x) 56 8 < b.idx (b.pageOwner y) 56 8)
    || (b.idx (b.pageOwner x) 56 8 == b.idx (b.pageOwner y) 56 8 && decide (x ≤ y))) c

/-- A PREFIX page evicted for an allocation (R129); one with RETIRE_PEND becomes RETIRED as it leaves, and the next is evicted. -/
def Block.evictPage (q : Pool) : Nat → Block → Option (Nat × Block)
  | 0, _ => none
  | f + 1, b =>
    match b.evictable q with
    | [] => none
    | p :: _ =>
      let c := b.dropIdx (b.pageOwner p)
      if b.pagePend p then Block.evictPage q f c else some (p, { c with rq := { c.rq with freed := c.rq.freed.filter (· != p) } })

/-- One page of a pool allocated (R129): the last freed, else the lowest never allocated, else one evicted. -/
def Block.allocPage (b : Block) (q : Pool) : Option (Nat × Block) :=
  let inPool := fun (p : Nat) => decide (q.first ≤ p ∧ p < q.first + q.count)
  match b.rq.freed.find? inPool with
  | some p => some (p, { b with rq := { b.rq with freed := b.rq.freed.filter (· != p) } })
  | none =>
    match (b.freePages q).head? with
    | some p => some (p, b)
    | none => Block.evictPage q (b.evictable q).length b

/-- n pages of a pool, or nothing (R132). -/
def Block.allocPages : Nat → Block → Pool → Option (List Nat × Block)
  | 0, b, _ => some ([], b)
  | n + 1, b, q =>
    match b.allocPage q with
    | none => none
    | some (p, c) => (Block.allocPages n (c.setPage p 0 1 noOwner false) q).map (fun r => (p :: r.1, r.2))

/-- The page list of an entry from head to tail: PREFIX pages, then the pages it owns. -/
def Block.pageListGo (b : Block) : Nat → Nat → List Nat → List Nat
  | 0, _, l => l
  | n + 1, p, l => if p = noPage then l else Block.pageListGo b n (b.pageLink p) (p :: l)

def Block.pfxPages (b : Block) (e : Nat) : Nat := b.eget e E.PREFIX_LEN / b.pageTokens

def Block.pageList (b : Block) (e : Nat) : List Nat :=
  let n := b.pfxPages e + b.eget e E.PAGE_COUNT
  if n = 0 then [] else b.pageListGo n (b.eget e E.PAGE_TAIL) []

/-- The pages an entry owns, in order. -/
def Block.ownPages (b : Block) (e : Nat) : List Nat := (b.pageList e).drop (b.pfxPages e)

/-- The list of an entry set: links, head, tail; `own` follow the PREFIX pages. -/
def Block.setList (b : Block) (e : Nat) (pfx own : List Nat) : Block :=
  let l := pfx ++ own
  let b := (List.range l.length).foldl (fun b i => if i < pfx.length then b
    else b.linkPage (l.getD i 0) (if i = 0 then noPage else l.getD (i - 1) noPage)) b
  ((b.eset e E.PAGE_HEAD (l.head?.getD noPage)).eset e E.PAGE_TAIL (l.getLast?.getD noPage)).eset e E.PAGE_COUNT own.length

/-- The key of an isolation domain (R133). -/
def Block.domainKey (b : Block) (d : Nat) : List Byte :=
  sipHash (padTo b.sa.rootKey 16) (leBytes 2 d ++ leBytes 1 (b.fget F.PFX_CTRL_KEY_EPOCH) ++ zeros 5)

/-- The adapters of an entry in hash and index form: ascending, unused places all ones. -/
def Block.adapterBytes (b : Block) (e : Nat) : List Byte :=
  let a := b.adapters e
  (List.range 4).flatMap (fun k => leBytes 4 (a.getD k 0xFFFFFFFF))

/-- The identifier of an entry's vocabulary. -/
def Block.vocabId (b : Block) (e : Nat) : Nat := ((b.vocab (b.eget e E.VOCAB)).map (fun i => iu i 8 4)).getD 0

/-- H(j) of R134 from H(j − 1) and the block's ids. -/
def Block.blockHash (b : Block) (e : Nat) (prev : List Byte) (ids : List Nat) : List Byte :=
  sipHash (b.domainKey (b.eget e E.DOMAIN)) (padTo prev 16 ++ leBytes 4 (b.vocabId e) ++ leBytes 2 (b.eget e E.MODEL_EPOCH)
    ++ leBytes 1 (b.fget F.PG_CTRL_PAGE_SIZE) ++ leBytes 1 (b.eget e E.ADAPTER_COUNT) ++ b.adapterBytes e ++ ids.flatMap (leBytes 4))

/-- The records of the set a hash maps to. -/
def Block.idxSet (b : Block) (h : List Byte) : List Nat :=
  let s := leNat h % 2 ^ (b.fget F.PFX_CTRL_SIZE_LOG2 - 3)
  (List.range 8).map (8 * s + ·)

/-- The token copy of a record. -/
def Block.idxTok (b : Block) (i : Nat) : Nat := b.fget F.PFX_TOK_BASE_BASE + 512 * i

/-- A record is the confirmed block of an entry (R136): its hash already matches. -/
def Block.idxMatches (b : Block) (e i parent : Nat) (ids : List Nat) : Bool :=
  b.idx i 20 4 == parent && b.idx i 24 2 == b.eget e E.DOMAIN && b.idx i 26 2 == b.eget e E.MODEL_EPOCH
  && b.idx i 28 1 == b.fget F.PG_CTRL_PAGE_SIZE && b.idx i 52 4 == b.vocabId e && b.idx i 31 1 == b.eget e E.ADAPTER_COUNT
  && b.rd0 (b.fget F.PFX_IDX_BASE_BASE + 64 * i + 32) 16 == b.adapterBytes e
  && b.rd0 (b.idxTok i) (4 * ids.length) == ids.flatMap (leBytes 4)

/-- Records of a set that hold a hash and may hit. -/
def Block.idxHash (b : Block) (h : List Byte) : List Nat :=
  (b.idxSet h).filter (fun i => b.idxValid i && !b.idxStale i && b.rd0 (b.fget F.PFX_IDX_BASE_BASE + 64 * i) 16 == padTo h 16)

def Block.pinIdx (b : Block) (i : Nat) : Block := (b.setIdx i 48 4 (b.idx i 48 4 + 1)).setIdx i 56 8 b.tick

/-- A pin released; the page of a STALE record without pins is freed at the next Publish (R118, R140). -/
def Block.unpinIdx (b : Block) (i : Nat) : Block :=
  let b := b.setIdx i 48 4 (b.idx i 48 4 - 1)
  if b.idx i 48 4 = 0 && b.idxStale i then { b with rq := { b.rq with staleFree := b.rq.staleFree ++ [i] } } else b

/-- The lookup of R136 over the full blocks of a prompt. -/
def Block.lookupGo : Nat → Block → Nat → List Byte → Nat → List Nat → Block
  | 0, b, _, _, _, _ => b
  | f + 1, b, e, prev, parent, ids =>
    let n := b.pageTokens
    if ids.length < n then b
    else
      let blk := ids.take n
      let h := b.blockHash e prev blk
      let b := b.count F.PFX_CNT_A_LOOKUP
      let c := b.idxHash h
      let bad := (c.filter (fun i => !b.idxMatches e i parent blk)).length
      let b := b.count F.PFX_CNT_B_FALSE_MATCH bad
      match c.find? (fun i => b.idxMatches e i parent blk) with
      | none => b
      | some i =>
        let b := (b.count F.PFX_CNT_A_HIT).pinIdx i
        let pg := b.idx i 16 4
        let b := b.modSide e (fun s => { s with pins := s.pins ++ [i] })
        let b := if parent = noPage then b.eset e E.PAGE_HEAD pg else b
        let b := (b.eset e E.PAGE_TAIL pg).eadd e E.PREFIX_LEN n
        Block.lookupGo f b e h pg (ids.drop n)

/-- The prefix lookup of an entry. -/
def Block.lookup (b : Block) (e : Nat) (ids : List Nat) : Block :=
  if b.fget F.PFX_CTRL_EN = 0 then b else Block.lookupGo ids.length b e [] noPage ids

/-- Every pin of an entry released (R40, R137, R140). -/
def Block.unpinAll (b : Block) (e : Nat) : Block :=
  let b := (b.side e).pins.foldl (fun b i => b.unpinIdx i) b
  b.modSide e (fun s => { s with pins := [] })

/-- A page registered (R138, R139): true where it was. DESIGN CHOICE (log 65): a block whose identical record already stands, whichever Intake
inserted it, is not inserted again and counts no INSERT_SKIP, and of records that share the oldest LAST_USE the lowest-numbered is taken. -/
def Block.register (b : Block) (e p : Nat) (prev : List Byte) (parent : Nat) (ids : List Nat) : Bool × Block :=
  let h := b.blockHash e prev ids
  if (b.idxHash h).any (fun i => b.idxMatches e i parent ids) then (false, b)
  else
    let set := b.idxSet h
    let free := (set.filter (fun i => b.idxValid i && !b.idxStale i && b.idx i 48 4 == 0)).foldl (fun (r : Option Nat) i => match r with
      | none => some i
      | some j => if b.idx i 56 8 < b.idx j 56 8 then some i else r) none
    let slot := match set.find? (fun i => !b.idxValid i) with
      | some i => some (i, b)
      | none => free.map (fun i => (i, b.dropIdx i))
    match slot with
    | none => (false, b.count F.PFX_CNT_B_INSERT_SKIP)
    | some (i, c) =>
      let rec_ := padTo h 16 ++ leBytes 4 p ++ leBytes 4 parent ++ leBytes 2 (c.eget e E.DOMAIN) ++ leBytes 2 (c.eget e E.MODEL_EPOCH)
        ++ leBytes 1 (c.fget F.PG_CTRL_PAGE_SIZE) ++ leBytes 1 1 ++ leBytes 1 (c.eget e E.DECODE_POOL) ++ leBytes 1 (c.eget e E.ADAPTER_COUNT)
        ++ c.adapterBytes e ++ leBytes 4 1 ++ leBytes 4 (c.vocabId e) ++ leBytes 8 c.tick
      let c := (c.wr0m (c.fget F.PFX_IDX_BASE_BASE + 64 * i) rec_).wr0m (c.idxTok i) (padTo (ids.flatMap (leBytes 4)) 512)
      let c := c.movePage p 2 i
      let c := c.modSide e (fun s => { s with pins := s.pins ++ [i] })
      (true, (c.eadd e E.PREFIX_LEN c.pageTokens).esub e E.PAGE_COUNT 1)

/-- Token directory (R164): extent offset, capacity and ids stored of an entry. -/
def Block.dir (b : Block) (e : Nat) : Nat := b.fget F.TOK_DIR_BASE_BASE + 16 * e
def Block.extent (b : Block) (e : Nat) : Nat := b.r0 (b.dir e) 8
def Block.extentCap (b : Block) (e : Nat) : Nat := b.r0 (b.dir e + 8) 4

/-- The sequence of an entry, and one token of it. -/
def Block.seqIds (b : Block) (e : Nat) : List Nat := ids4 (b.rd0 (b.extent e) (4 * (b.side e).seqLen))
def Block.seqId (b : Block) (e i : Nat) : Nat := b.r0 (b.extent e + 4 * i) 4

/-- Ids appended to an entry's sequence. -/
def Block.seqAppend (b : Block) (e : Nat) (ids : List Nat) : Block :=
  let n := (b.side e).seqLen
  let b := b.wr0m (b.extent e + 4 * n) (ids.flatMap (leBytes 4))
  (b.w0m (b.dir e + 12) 4 (n + ids.length)).modSide e (fun s => { s with seqLen := n + ids.length })

/-- Granules of the arena that an entry's extent takes, as (first, count). -/
def Block.extentGran (b : Block) (e : Nat) : Nat × Nat := ((b.extent e - b.fget F.TOK_ARENA_BASE) / 16384, b.extentCap e / 4096)

/-- Orders without a completion that point into the extent of an entry. -/
def Block.ordersInto (b : Block) (e : Nat) : List Nat :=
  ((b.rq.orders.filter (fun o => o.kind == 1 && o.entry == e && o.gen == b.eget e E.GENERATION)).map (·.seq))

/-- An extent given up: its granules are freed once no order points into it (R122, R164). -/
def Block.freeExtent (b : Block) (e : Nat) : Block :=
  let g := b.extentGran e
  if g.2 = 0 then b
  else
    let b := match b.ordersInto e with
      | [] => { b with rq := { b.rq with tokFree := giveBack b.rq.tokFree ((List.range g.2).map (g.1 + ·)) } }
      | l => { b with rq := { b.rq with tokOld := b.rq.tokOld ++ [(l, g.1, g.2)] } }
    b.wr0m (b.dir e) (zeros 16)

/-- An order without a completion no more: extents that waited only for it are freed. -/
def Block.orderLeaves (b : Block) (seq : Nat) : Block :=
  let old := b.rq.tokOld.map (fun x => (x.1.filter (· != seq), x.2))
  let done := old.filter (fun x => x.1.isEmpty)
  { b with rq := { b.rq with tokOld := old.filter (fun x => !x.1.isEmpty),
                             tokFree := done.foldl (fun f x => giveBack f ((List.range x.2.2).map (x.2.1 + ·))) b.rq.tokFree } }

/-- An extent of a capacity in ids, first-fit at the lowest address, written with ids; none where the arena has no room. -/
def Block.newExtent (b : Block) (e cap : Nat) (ids : List Nat) : Option Block :=
  let n := cdiv cap 4096
  match runFit b.rq.tokFree n with
  | none => none
  | some g =>
    let b := b.freeExtent e
    let off := b.fget F.TOK_ARENA_BASE + 16384 * g
    let b := { b with rq := { b.rq with tokFree := b.rq.tokFree.filter (fun x => !(decide (g ≤ x ∧ x < g + n))) } }
    let b := b.wr0m off (ids.flatMap (leBytes 4))
    some ((b.wr0m (b.dir e) (leBytes 8 off ++ leBytes 4 (4096 * n) ++ leBytes 4 ids.length)).modSide e (fun s => { s with seqLen := ids.length }))

end Sys2Proof.Machine
end

