-- ==== Sys2Proof/Machine/Requests.lean ====
section
/-! DEFINITION. What Accept and Publish do to one entry: characters and held tokens (R172 to R176), stops (R203 to
R205), endings and pauses (R98, R102 to R105), and the release of text. -/
namespace Sys2Proof.Machine
open Sys2Proof

/-- Bytes of a character by its first byte, 0 for none (Unicode 15.1). -/
def u8Len (x : Nat) : Nat :=
  if x < 0x80 then 1 else if x < 0xC2 then 0 else if x < 0xE0 then 2 else if x < 0xF0 then 3 else if x < 0xF5 then 4 else 0

/-- Byte n of a character may follow its first byte. -/
def u8Next (lead n x : Nat) : Bool :=
  if n = 1 then
    decide ((if lead = 0xE0 then 0xA0 else if lead = 0xF0 then 0x90 else 0x80) ≤ x
      ∧ x ≤ (if lead = 0xED then 0x9F else if lead = 0xF4 then 0x8F else 0xBF))
  else decide (0x80 ≤ x ∧ x ≤ 0xBF)

/-- The incomplete character of a stream: its bytes, and the first and last token that gave one. -/
structure U8 where
  bytes : List Byte
  first : Nat
  last : Nat
deriving DecidableEq, Repr

def replBytes : List Byte := [0xEF, 0xBF, 0xBD]

/-- The U+FFFD of an incomplete character (R173, R176). -/
def U8.replaced (u : U8) : HeldChar := { bytes := replBytes, first := u.first, last := u.last, repl := true, late := false }

/-- A byte with no character begun. -/
def u8Begin (o : Nat) (x : Byte) : U8 × List HeldChar :=
  let n := u8Len x.toNat
  if n = 1 then ({ bytes := [], first := 0, last := 0 }, [{ bytes := [x], first := o, last := o, repl := false, late := false }])
  else if n = 0 then ({ bytes := [], first := 0, last := 0 }, [{ bytes := replBytes, first := o, last := o, repl := true, late := false }])
  else ({ bytes := [x], first := o, last := o }, [])

/-- One byte of the stream (R173). -/
def u8Byte (u : U8) (o : Nat) (x : Byte) : U8 × List HeldChar :=
  match u.bytes with
  | [] => u8Begin o x
  | lead :: _ =>
    if u8Next lead.toNat u.bytes.length x.toNat then
      let bs := u.bytes ++ [x]
      if bs.length = u8Len lead.toNat then
        ({ bytes := [], first := 0, last := 0 }, [{ bytes := bs, first := u.first, last := o, repl := false, late := false }])
      else ({ u with bytes := bs, last := o }, [])
    else
      let r := u8Begin o x
      (r.1, u.replaced :: r.2)

/-- The bytes of a token of the stream. -/
def u8Feed (u : U8) (o : Nat) (l : List Byte) : U8 × List HeldChar :=
  l.foldl (fun r x => let q := u8Byte r.1 o x; (q.1, r.2 ++ q.2)) (u, [])

/-- The incomplete character of an entry (R182). -/
def Block.u8 (b : Block) (e : Nat) : U8 :=
  let s := b.side e
  { bytes := leBytes (b.eget e E.U8_COUNT) (b.eget e E.U8_PEND), first := s.u8First,
    last := ((s.toks.filter (·.bytes)).getLast?.map (·.ord)).getD s.u8First }

def Block.setU8 (b : Block) (e : Nat) (u : U8) : Block :=
  ((b.eset e E.U8_PEND (leNat u.bytes)).eset e E.U8_COUNT u.bytes.length).modSide e (fun s => { s with u8First := u.first })

/-- Characters added to an entry's unreleased text, replacements counted. -/
def Block.addChars (b : Block) (e : Nat) (cs : List HeldChar) : Block :=
  let b := b.count F.TOK_CNT_B_U8_REPLACED (cs.filter (·.repl)).length
  b.modSide e (fun s => { s with chars := s.chars ++ cs })

/-- The vocabulary of an entry is of KIND 1 (R170). -/
def Block.codec (b : Block) (e : Nat) : Bool := ((b.vocab (b.eget e E.VOCAB)).map (fun i => iu i 6 1 == 1)).getD false

/-- The bytes of an accepted token (R172, R177), with what stands for the text of an id that is no piece (log 2). -/
def Block.tokenBytes (b : Block) (e t : Nat) : List Byte :=
  match b.vocab (b.eget e E.VOCAB) with
  | none => Config.freeBytes b.clk.free
  | some i =>
    if iu i 6 1 = 1 then (if decide (t < vocPieces i) && pieceControl i t then [] else leBytes 4 t)
    else detok i (Config.freeBytes b.clk.free) t

/-- A token counted into GENERATED and held (R175): its characters, and the bytes that became complete. -/
def Block.holdToken (b : Block) (e t item : Nat) : Block × List Byte :=
  let o := (b.side e).ord
  let bs := b.tokenBytes e t
  let b := { b with clk := { b.clk with free := b.clk.free + 1 } }
  let r := if b.codec e then (b.u8 e, if bs.isEmpty then [] else [{ bytes := bs, first := o, last := o, repl := false, late := false }])
    else u8Feed (b.u8 e) o bs
  let b := (b.setU8 e r.1).addChars e r.2
  let b := b.modSide e (fun s => { s with
    ord := o + 1, turn := s.turn + 1,
    toks := s.toks ++ [{ ord := o, id := t, bytes := !bs.isEmpty, pass := false, cut := false, item := item }] })
  ((b.eadd e E.GENERATED 1).eadd e E.HELD 1, r.2.flatMap (·.bytes))

/-- A token counted GENERATED and DISCARDED at once: cut away by an earlier end (R199), or a result's after the end. -/
def Block.dropToken (b : Block) (e : Nat) : Block :=
  ((b.eadd e E.GENERATED 1).eadd e E.DISCARDED 1).modSide e (fun s => { s with ord := s.ord + 1 })

/-- Held tokens that leave HELD as discarded. -/
def Block.discardToks (b : Block) (e : Nat) (p : HeldTok → Bool) : Block :=
  let n := ((b.side e).toks.filter p).length
  ((b.esub e E.HELD n).eadd e E.DISCARDED n).modSide e (fun s => { s with toks := s.toks.filter (fun t => !p t) })

/-- All held text discarded (R102, R104). -/
def Block.discardHeld (b : Block) (e : Nat) : Block :=
  let n := b.eget e E.HELD
  let b := (b.eset e E.HELD 0).eadd e E.DISCARDED n
  let b := b.setU8 e { bytes := [], first := 0, last := 0 }
  (b.eset e E.STP_HOLD 0).modSide e (fun s => { s with toks := [], chars := [], screens := [] })

/-- Bytes of unreleased characters. -/
def textLen (l : List HeldChar) : Nat := (l.map (fun c => c.bytes.length)).foldl (· + ·) 0

/-- A token gave a byte to a character. -/
def HeldChar.of (c : HeldChar) (o : Nat) : Bool := decide (c.first ≤ o ∧ o ≤ c.last)

/-- The characters that begin before n bytes of the unreleased text, and the rest. -/
def splitChars : Nat → List HeldChar → List HeldChar × List HeldChar
  | _, [] => ([], [])
  | n, c :: r => if n = 0 then ([], c :: r) else
      let q := splitChars (n - c.bytes.length) r
      (c :: q.1, q.2)

/-- A stop has completed: the cut of R205 at n bytes into the unreleased text, `off` its place in the stream. -/
def Block.cutText (b : Block) (e n off : Nat) : Block :=
  let s := b.side e
  let q := splitChars n s.chars
  let pend := b.u8 e
  let after := fun (t : HeldTok) => t.bytes && (q.2.any (fun c => c.of t.ord) || (!pend.bytes.isEmpty && decide (pend.first ≤ t.ord)))
  let kept := fun (t : HeldTok) => q.1.any (fun c => c.of t.ord)
  let cutTok := ((q.2.head?).map (·.first)).getD pend.first
  let gone := fun (t : HeldTok) => if t.bytes then after t && !kept t else decide (cutTok < t.ord)
  let cuts := (s.toks.filter gone).length
  let b := b.modSide e (fun s => { s with
    chars := q.1, toks := s.toks.map (fun t => if after t && kept t then { t with cut := true } else t) })
  let b := b.discardToks e gone
  (((b.setU8 e { bytes := [], first := 0, last := 0 }).eset e E.CUT_OFFSET off).count F.STP_CNT_A_TRUNC cuts).eset e
    E.STP_HOLD 0

/-- The stop set of an entry. -/
def Block.stopOf (b : Block) (e : Nat) : Option Img :=
  if b.eget e E.STOPSET = 0 || b.codec e then none else b.stopSet (b.eget e E.STOPSET)

/-- The stop matcher reads the bytes just completed (R203); true where a stop completes. -/
def Block.stopFeed (b : Block) (e : Nat) (new : List Byte) : Block × Bool :=
  match b.stopOf e with
  | none => (b, false)
  | some i =>
    let s := b.side e
    let a := stopAutomaton i
    let b := b.eset e E.STP_STATE (new.foldl (fun st x => mNext a st x.toNat) (b.eget e E.STP_STATE))
    let tail := s.tail ++ new
    let b := b.modSide e (fun c => { c with tail := tail.drop (tail.length - 127) })
    match stopHit (stopStrings i) s.tail 0 new with
    | none => (b, false)
    | some h =>
      let len := ((stopStrings i).getD h.1 []).length
      let stop := textLen s.chars - new.length + h.2
      let b := ((b.eset e E.STOP_HIT 1).eset e E.STOP_INDEX h.1).count F.STP_CNT_A_HITS
      (b.cutText e (stop - len) (b.eget e E.TEXT_BYTES + stop - len), true)

/-- The trailing bytes of an incomplete character become one U+FFFD (R176), which the stop matcher reads as it reads every character (R203). -/
def Block.flushU8 (b : Block) (e : Nat) : Block :=
  let u := b.u8 e
  if u.bytes.isEmpty then b else (((b.setU8 e { bytes := [], first := 0, last := 0 }).addChars e [u.replaced]).stopFeed e replBytes).1

/-- The stop holdback after an Accept (R204). -/
def Block.holdStop (b : Block) (e : Nat) : Block :=
  match b.stopOf e with
  | none => b
  | some i =>
    let s := b.side e
    b.eset e E.STP_HOLD (stopHold (stopStrings i) s.tail (textLen s.chars))

/-- Screens of an entry stop, with their items (R42, R104); the items leave at the next tick boundary. -/
def Block.abandon (b : Block) (e : Nat) : Block := b.modSide e (fun s => { s with screens := [] })

/-- An entry enters ENDING (R98): the reason, the tick, no pending compaction (R227), no stop holdback (R204). -/
def Block.enterEnding (b : Block) (e reason : Nat) : Block :=
  let b := (b.eset e E.STATE 7).eset e E.END_REASON reason
  let b := ((b.eset e E.CPT_PEND 0).eset e E.STP_HOLD 0).eset e E.RESUME_PEND 0
  b.modSide e (fun s => { s with endTick := b.tick, finalDue := true, due := [], turnEnd := false, pause := false })

/-- ENDING with the held text discarded: cancellation, deadline, a blocking verdict, a failed resume (R102, R104). -/
def Block.endHard (b : Block) (e reason : Nat) : Block :=
  let was := b.eget e E.STATE
  let b := (b.discardHeld e).enterEnding e reason
  if was ≤ 2 then b.unpinAll e else b

/-- ENDING with the held text released (R105, R176). -/
def Block.endSoft (b : Block) (e reason : Nat) : Block := (b.flushU8 e).enterEnding e reason

/-- PAUSED_WARM (R98): DEADLINE 0, held text on its normal path, turn-end record and SPILL due, draft units freed at Publish. END_REASON shows the
reason until the request runs again. DESIGN CHOICE (log 65): a PAUSE record pauses with reason 0x00, for which R112 has no code of its own. -/
def Block.enterPause (b : Block) (e reason : Nat) : Block :=
  let b := b.flushU8 e
  let b := ((b.eset e E.STATE 5).eset e E.DEADLINE 0).eset e E.STP_HOLD 0
  let b := b.eset e E.END_REASON reason
  (b.freeStates e).modSide e (fun s => { s.dueLast 3 with endTick := b.tick, turnEnd := true, endReason := reason, pause := false })

/-- End of sequence, stop, MAX_NEW or a grammar end in DECODE (R98): ENDING, or PAUSED_WARM with KEEP. -/
def Block.endTurn (b : Block) (e reason : Nat) : Block :=
  if b.eget e E.KEEP = 1 then b.enterPause e reason else b.endSoft e reason

/-- A token may leave HELD: every byte of it is released. -/
def Side.tokDone (s : Side) (pend : U8) (t : HeldTok) : Bool :=
  t.pass && !(s.chars.any (fun c => c.of t.ord)) && !(!pend.bytes.isEmpty && t.bytes && decide (pend.first ≤ t.ord))

/-- The tokens that leave HELD in order: one without bytes only when no earlier one is held (R175). -/
def leaveHeld (s : Side) (pend : U8) : List HeldTok → Bool → List HeldTok × List HeldTok
  | [], _ => ([], [])
  | t :: r, clear =>
    let out := s.tokDone pend t && (t.bytes || clear)
    let q := leaveHeld s pend r (clear && out)
    if out then (t :: q.1, q.2) else (q.1, t :: q.2)

/-- What a Publish can release of an entry (R174): how many unreleased characters, all of whose tokens have PASS, before the stop
holdback. -/
def Block.releasable (b : Block) (e : Nat) : List HeldChar :=
  let s := b.side e
  let room := textLen s.chars - b.eget e E.STP_HOLD
  let ok := fun (c : HeldChar) => s.toks.all (fun t => t.pass || !(c.of t.ord))
  (s.chars.foldl (fun (r : List HeldChar × Nat × Bool) c =>
    if r.2.2 && ok c && decide (r.2.1 + c.bytes.length ≤ room) then (r.1 ++ [c], r.2.1 + c.bytes.length, true) else (r.1, r.2.1, false))
    ([], 0, true)).1

/-- Text released and tokens committed (R174, R175, R205): what a text record carries is (bytes, tokens committed, replaced, late). -/
def Block.releaseText (b : Block) (e : Nat) : Block × (List Byte × Nat × Bool × Bool) :=
  let out := b.releasable e
  let b := b.modSide e (fun s => { s with chars := s.chars.drop out.length })
  let s := b.side e
  let q := leaveHeld s (b.u8 e) s.toks true
  let com := (q.1.filter (fun t => !t.cut)).length
  let b := b.modSide e (fun s => { s with toks := q.2 })
  let b := ((b.esub e E.HELD q.1.length).eadd e E.COMMITTED com).eadd e E.DISCARDED (q.1.length - com)
  let b := if q.1.length = com then b else b.count F.STP_CNT_A_TRUNC (q.1.length - com)
  let bs := out.flatMap (·.bytes)
  let b := b.eadd e E.TEXT_BYTES bs.length
  (b, bs, com, out.any (·.repl), out.any (·.late))

/-- The holdback words of an entry as of this Publish (R182): held tokens without PASS, and PASS tokens whose last byte lies in a
character that R174 does not yet release. -/
def Block.noteHolds (b : Block) (e : Nat) : Block :=
  let s := b.side e
  let rest := s.chars.drop (b.releasable e).length
  let b := b.eset e E.HOLD_VRD (s.toks.filter (fun t => !t.pass)).length
  b.eset e E.HOLD_U8 (s.toks.filter (fun t => t.pass && t.bytes &&
    ((!(b.u8 e).bytes.isEmpty && decide ((b.u8 e).first ≤ t.ord)) || rest.any (fun c => c.of t.ord)))).length

/-- Draft units of an entry returned (R213); done at Publish. -/
def Block.freeUnits (b : Block) (e : Nat) : Block :=
  let s := b.side e
  let b := { b with rq := { b.rq with unitFree := giveBack b.rq.unitFree s.units } }
  (((b.modSide e (fun s => { s with units := [] })).eset e E.WARM 0).eset e E.UNIT_HEAD 0xFFFFFFFF).eset e E.UNIT_COUNT 0

end Sys2Proof.Machine
end

