-- ==== Sys2Proof/Machine/Jobs.lean ====
section
/-! DEFINITION. The text units: invocations (R359, R303, R318), descriptor jobs (R302, R307, R317, R319, R360 to R362),
and the block's own jobs for an entry: tokenization (R162 to R170), masks, set runs, ensembles. -/
namespace Sys2Proof.Machine
open Sys2Proof

/-- The answers of a text unit (R359). -/
def ansOk : Nat := 0
def ansBusy : Nat := 1
def ansAbsent : Nat := 2
def ansBad : Nat := 3
def ansOut : Nat := 4

/-- A field of a descriptor. -/
def dfld (d : List Byte) (o n : Nat) : Nat := lefld d o n

/-- What keeps a job from being accepted by a unit that is there, 0 if nothing does: BAD_JOB for a field that breaks its format, NOT_LOADED,
then BAD_JOB for a field that does not suit the object (the order is this model's choice, log 21). -/
def Block.latticeCheck (b : Block) (d : List Byte) : Nat :=
  if decide (2 < dfld d 0 1) || decide (31 < dfld d 1 1) || dfld d 2 2 != 0 || dfld d 16 4 == 0 || decide (4194304 < dfld d 16 4)
    || dfld d 32 8 % 32 != 0 || !allZero (d.drop 48) then ansBad
  else match b.vocab (dfld d 1 1) with
    | none => ansAbsent
    | some i => if (iu i 6 1 == 1) == (dfld d 0 1 == 2) then ansOk else ansBad

def Block.matchCheck (b : Block) (d : List Byte) : Nat :=
  let n := dfld d 0 4
  let space := gaSpace (dfld d 8 8)
  if decide (131072 ≤ n) || decide (2 < space) || dfld d 16 4 == 0 || decide (4194304 < dfld d 16 4) || dfld d 24 8 % 64 != 0
    || !allZero (d.drop 40) then ansBad
  else
    let img := if n.testBit 16 then (b.stopSet (n % 65536)).map stopAutomaton else b.matcherSet n
    match img with
    | none => ansAbsent
    | some i => if dfld d 20 4 = 0xFFFFFFFF || dfld d 20 4 < iu i 20 4 then ansOk else ansBad

def Block.maskCheck (b : Block) (d : List Byte) : Nat :=
  if dfld d 0 2 == 0 || decide (64 < dfld d 2 1) || dfld d 3 1 != 0 || dfld d 8 8 % 4 != 0 || dfld d 16 8 % 64 != 0 || !allZero (d.drop 44) then ansBad
  else match b.grammar (dfld d 0 2) with
    | none => ansAbsent
    | some i => if dfld d 4 4 < iu i 16 4 then ansOk else ansBad

def Block.treeCheck (b : Block) (d : List Byte) : Nat :=
  let ok02 := fun (a : Nat) => gaSpace a == 0 || gaSpace a == 2
  let leaves := (dfld d 2 1).testBit 0
  if dfld d 0 1 == 0 || dfld d 1 1 == 0 || decide (64 < dfld d 1 1) || decide (1 < dfld d 2 1) || dfld d 3 1 != 0 || dfld d 22 2 != 0
    || dfld d 8 8 % 4 != 0 || !ok02 (dfld d 8 8) || dfld d 16 4 % 4 != 0 || dfld d 24 8 % 64 != 0 || !ok02 (dfld d 24 8)
    || (if leaves then !ok02 (dfld d 32 8) else dfld d 32 8 != 0) || !allZero (d.drop 48) then ansBad
  else match b.ensemble (dfld d 0 1) with
    | none => ansAbsent
    | some i => if dfld d 20 2 = oFeatures i && 4 * oFeatures i ≤ dfld d 16 4 then ansOk else ansBad

def Block.jobCheck (b : Block) (kind : Nat) (d : List Byte) : Nat :=
  match kind with
  | 0 => b.latticeCheck d
  | 1 => b.matchCheck d
  | 2 => b.maskCheck d
  | _ => b.treeCheck d

/-- Feature vector v of a TREE job, if it is at the own node. -/
def vecAddr (d : List Byte) (v : Nat) : Nat := dfld d 8 8 + v * dfld d 16 4

/-- The head job of an Orchard engine reads its vectors before any walk (R304); far ones are read as it ends. -/
def Block.headVectors (b : Block) (n : Nat) : Block :=
  let u := b.unit 3 n
  match u.jobs with
  | [] => b
  | j :: rest =>
    if j.kind ≠ 0 || !j.vecs.isEmpty then b
    else
      let count := dfld j.desc 1 1
      let one := fun (v : Nat) =>
        if b.isHome (vecAddr j.desc v) then b.unitRead [] (vecAddr j.desc v) (4 * dfld j.desc 20 2) else .ok []
      let words := fun (l : List Byte) => (ids4 l).map (BitVec.ofNat 32)
      let vs := (List.range count).map (fun v => match one v with
        | .ok l => words l
        | .error _ => [])
      let er := (List.range count).filter (fun v => match one v with
        | .ok _ => false
        | .error _ => true)
      b.setUnit 3 n { u with jobs := { j with vecs := vs, rerr := er } :: rest }

/-- A job put on a unit. -/
def Block.pushJob (b : Block) (kind n : Nat) (j : Job) : Block :=
  let u := b.unit kind n
  let b := b.setUnit kind n { u with jobs := u.jobs ++ [j] }
  if kind = 3 then b.headVectors n else b

/-- The answer of a kind of unit to an invocation: code and unit. What is wrong with the job itself comes first, so that every unit answers it
alike (R303). -/
def Block.unitAnswer (b : Block) (kind unit : Nat) (any : Bool) (d : Option (List Byte)) : Nat × Nat :=
  let check := match d with
    | none => ansBad
    | some l => b.jobCheck kind l
  let n := if any then b.leastUnit kind else if b.unitUp kind unit then some unit else none
  match n with
  | none => (if check ≠ 0 then check else ansOut, if any then 0 else unit)
  | some k => if check ≠ 0 then (check, k) else if 16 ≤ (b.unit kind k).jobs.length then (ansBusy, k) else (ansOk, k)

/-- The encoding rules of R359. -/
def textEnc (kind : Nat) (w : NsiBody) : Bool :=
  !nfX w && nf w 25 5 == 0 && nf w 36 28 == 0 && decide (nf w 30 5 < unitCount kind) && (nf w 35 1 == 0 || nf w 30 5 == 0)

/-- The bytes of a record an executor names, read as a text unit reads (R381). -/
def Block.recordAt (b : Block) (a : Nat) : Option (List Byte) :=
  match b.unitRead [] a 64 with
  | .ok l => some l
  | .error _ => none

/-- The object a descriptor names. -/
def jobObj (kind : Nat) (d : List Byte) : Nat :=
  match kind with
  | 0 => dfld d 1 1
  | 1 => dfld d 0 4
  | 2 => dfld d 0 2
  | _ => dfld d 0 1

/-- Where the image of the object a descriptor names lies. -/
def Block.jobImg (b : Block) (kind : Nat) (d : List Byte) : Option Nat :=
  let n := jobObj kind d
  match kind with
  | 0 => tget b.ob.vocabs n
  | 1 => if n.testBit 16 then tget b.ob.stops (n % 65536) else tget b.ob.msets n
  | 2 => tget b.ob.grammars n
  | _ => none

/-- A descriptor job as a unit accepts it: what it runs with is fixed then, so that it runs to completion (R304, R318). -/
def Block.descJob (b : Block) (x : ExecId) (kind : Nat) (d : List Byte) : Job :=
  { kind := 0, num := jobObj kind d, img := b.jobImg kind d, store := if kind = 3 then (tget b.ob.ensembles (jobObj 3 d)).getD [] else [],
    start := 0, input := [], desc := d, entry := 0, gen := 0, sub := 0, seq := some (xid x), tick := b.tick, vecs := [], rerr := [] }

/-- LATTICE, MATCH, MASK and TREE (R359): the status in rd, and the job queued where it is accepted. A descriptor that cannot be read is
answered BAD_JOB (log 21). -/
def Block.invoke (b : Block) (x : ExecId) (w : NsiBody) (kind : Nat) : Block :=
  b.issue x w (textEnc kind w) (isSeq x) (fun e =>
    if e.acquiring then b else
    let d := b.recordAt (e.rs (nf w 20 5)).toNat
    let r := b.unitAnswer kind (nf w 30 5) (nf w 35 1 == 1) d
    let b := if r.1 = 0 then b.pushJob kind r.2 (b.descJob x kind (d.getD [])) else b.countRefused kind
    b.done x w (e.ws (nf w 15 5) (BitVec.ofNat 64 (r.1 + 256 * r.2))))

/-- LATTICE (R359, R360). -/
def execNsiLattice (x : ExecId) (w : NsiBody) (_ext : BitVec 64) (s : State) : Host.Outcome State Fault Refusal :=
  s.run (fun b => b.invoke x w 0)
/-- MATCH (R317, R359). -/
def execNsiMatch (x : ExecId) (w : NsiBody) (_ext : BitVec 64) (s : State) : Host.Outcome State Fault Refusal :=
  s.run (fun b => b.invoke x w 1)
/-- MASK (R359, R362). -/
def execNsiMask (x : ExecId) (w : NsiBody) (_ext : BitVec 64) (s : State) : Host.Outcome State Fault Refusal :=
  s.run (fun b => b.invoke x w 2)
/-- TREE (R302, R359). -/
def execNsiTree (x : ExecId) (w : NsiBody) (_ext : BitVec 64) (s : State) : Host.Outcome State Fault Refusal :=
  s.run (fun b => b.invoke x w 3)

/-- The head job of a unit taken off it. -/
def Block.takeJob (b : Block) (kind n : Nat) : Option (Job × Block) :=
  let u := b.unit kind n
  match u.jobs with
  | [] => none
  | j :: rest =>
    let b := (b.setUnit kind n { u with jobs := rest }).retryLater kind
    some (j, if kind = 3 then b.headVectors n else b)

/-- The result and DONE of a descriptor job (R359). -/
def Block.jobResult (b : Block) (j : Job) (addr done : Nat) (l : List Byte) : Block :=
  (b.unitPut addr l (j.seq.getD 0)).unitDone done (j.seq.getD 0)

/-- A LATTICE descriptor job ends (R360, R361). -/
def Block.latticeEnd (b : Block) (j : Job) (fault : Bool) (far : List FarRead) : Block :=
  let d := j.desc
  let op := dfld d 0 1
  let n := dfld d 16 4
  let res := fun (b : Block) (st prod fb : Nat) =>
    b.jobResult j (dfld d 32 8) (dfld d 40 8)
      (withCrc (leBytes 4 (dfld d 4 4) ++ leBytes 4 st ++ leBytes 4 prod ++ leBytes 4 fb ++ zeros 12))
  if fault then res b 2 0 0
  else match j.img.bind (b.imgRead 0), b.unitRead far (dfld d 8 8) (if op = 0 then n else 4 * n) with
    | some i, .ok l =>
      let r : List Byte × Nat × Nat :=
        if op = 0 then let t := tokenizeText i l; (t.1.flatMap (leBytes 4), t.1.length, t.2)
        else if op = 1 then let t := (ids4 l).flatMap (detok i (Config.freeBytes b.clk.free)); (t, t.length, 0)
        else let t := codecIds i (ids4 l); (t.1.flatMap (leBytes 4), t.1.length, t.2)
      let b := { b with clk := { b.clk with free := b.clk.free + 1 } }
      let b := if op = 0 then b.count F.TOK_CNT_A_BYTE_FALLBACK r.2.2 else if op = 2 then b.count F.TOK_CNT_A_CODEC_INVALID r.2.2 else b
      if dfld d 20 4 < r.2.1 then res b 3 0 0
      else res (b.unitPut (dfld d 24 8) r.1 (j.seq.getD 0)) 0 r.2.1 r.2.2
    | _, _ => res b 1 0 0

/-- A MATCH result record (R319): with a STATUS that is not 0, every field from byte 8 on is 0 (R320, log 64). -/
def matchRecord (tag : Nat) (m : MatchRes) : List Byte :=
  let hit := fun (h : Option (Nat × Nat)) => match h with
    | some p => leBytes 4 p.1 ++ leBytes 4 p.2
    | none => leBytes 8 0xFFFFFFFFFFFFFFFF
  if m.status ≠ 0 then padTo (leBytes 4 tag ++ leBytes 4 m.status) 128
  else
    let body := leBytes 4 m.symbols ++ leBytes 4 m.endState ++ m.counts.flatMap (leBytes 4) ++ hit m.block ++ hit m.flag ++ hit m.first
    withCrc ((padTo (leBytes 4 tag ++ leBytes 4 0 ++ body) 124).take 124)

/-- Counters of a matcher job (R335). -/
def Block.matchCount (b : Block) (m : MatchRes) : Block :=
  let b := (b.count F.MAT_CNT_A_JOBS).count F.MAT_CNT_B_SYMBOLS m.symbols
  if m.status = 1 then b.evt F.MAT_EVT_READ_ERR else b

/-- A MATCH descriptor job ends (R319, R320). -/
def Block.matchEnd (b : Block) (j : Job) (fault : Bool) (far : List FarRead) : Block :=
  let d := j.desc
  let img := j.img.bind (fun o => if j.num.testBit 16 then (b.imgRead 2 o).map stopAutomaton else b.imgRead 3 o)
  let m := if fault then mFailed 2 else
    match img with
    | none => mFailed 1
    | some i =>
      let byte := iu i 6 1 == 0
      match b.unitRead far (dfld d 8 8) (if byte then dfld d 16 4 else 4 * dfld d 16 4) with
      | .error _ => mFailed 1
      | .ok l => mRun i (if dfld d 20 4 = 0xFFFFFFFF then iu i 28 4 else dfld d 20 4) (if byte then l.map BitVec.toNat else ids4 l)
  (b.matchCount m).jobResult j (dfld d 24 8) (dfld d 32 8) (matchRecord (dfld d 4 4) m)

/-- The end-of-sequence id of a grammar's vocabulary. -/
def Block.eosOf (b : Block) (i : Img) : Nat := (((b.slotOf (iu i 8 4)).bind b.vocab).map (fun v => iu v 24 4)).getD 0xFFFFFFFF

/-- A MASK descriptor job ends (R362). -/
def Block.maskEnd (b : Block) (j : Job) (fault : Bool) (far : List FarRead) : Block :=
  let d := j.desc
  let res := fun (b : Block) (st passes : Nat) =>
    let h := leBytes 4 (dfld d 40 4) ++ leBytes 2 st ++ leBytes 2 passes
    b.jobResult j (dfld d 24 8) (dfld d 32 8) (withCrc h ++ zeros 4)
  if fault then res b 2 0
  else match j.img.bind (b.imgRead 1), b.unitRead far (dfld d 8 8) (4 * dfld d 2 1) with
    | some i, .ok l =>
      let c : Cfg := { state := dfld d 4 4, stack := ids4 l }
      let b := b.unitPut (dfld d 16 8) (gMask i (b.eosOf i) c) (j.seq.getD 0)
      res (b.count F.GRM_CNT_A_MASKS) 0 (gPasses i c)
    | _, _ => res b 1 0

/-- What an engine's faults did while its head job ran (R310, R311): the thread groups they retired, whether the engine has none left, and
whether it had none before, so that nothing of the job was walked. -/
structure TreeLoss where
  down : List Nat
  dead : Bool
  idle : Bool
deriving DecidableEq, Repr

/-- A vector fails (R310, R311): the engine is out, a step of it failed twice, a pair of it ran on a group that was retired. A group that goes
was running the read that retired it; whether it ran a pair of another vector of the job too is free (log 2). -/
def TreeLoss.hits (k : TreeLoss) (bad : List ReadFault) (vectors v : Nat) (open_ : Bool) : Bool :=
  k.dead || bad.any (fun f => f.vector == v && (f.again || k.down.contains f.group)) || (!k.down.isEmpty && (vectors == 1 || open_))

/-- The result of one vector of a TREE job (R307): status, leaf indices, scores, steps, missing. A vector that fails has walked part of what
it would have: how much is free, and nothing on an engine that was out before. -/
def Block.treeVector (b : Block) (j : Job) (vectors v : Nat) (bad : List ReadFault) (far : List FarRead) (k : TreeLoss) :
    Nat × List Nat × List (BitVec 32) × Nat × Nat :=
  let vec : Option (List (BitVec 32)) :=
    if j.rerr.contains v then none
    else if j.kind = 0 && !b.isHome (vecAddr j.desc v) then
      match b.unitRead far (vecAddr j.desc v) (4 * dfld j.desc 20 2) with
      | .ok l => some ((ids4 l).map (BitVec.ofNat 32))
      | .error _ => none
    else some (j.vecs.getD v [])
  let free := fun (i : Nat) => Config.freeWord (b.clk.free + 3 * v + i)
  match vec with
  | none => (1, [], [], 0, 0)
  | some x =>
    let r := oEval (imgOf j.store) x
    if k.hits bad vectors v ((free 2).getLsbD 0) then
      let steps := if k.idle then 0 else (free 0).toNat % (r.2.2.1 + 1)
      (2, [], [], steps, (free 1).toNat % (min steps r.2.2.2 + 1))
    else (0, r.1, r.2.1, r.2.2.1, r.2.2.2)

/-- Node store reads that had to be repeated count in their thread group's window as transient faults (R310, R443). -/
def Block.treeFaults (b : Block) (n : Nat) (bad : List ReadFault) : Block :=
  bad.foldl (fun b f => if f.group < 4 then (b.count F.ORC_CNT_C_REREAD).fault 7 (4 * n + f.group) false else b) b

/-- The thread groups of an engine that take pairs. -/
def Block.groupsUp (b : Block) (n : Nat) : List Nat := (List.range 4).filter (fun g => !b.groupOut (4 * n + g))

/-- What the faults of a job did: `o` is the block before them. -/
def Block.treeLoss (b o : Block) (n : Nat) : TreeLoss :=
  { down := (o.groupsUp n).filter (fun g => b.groupOut (4 * n + g)), dead := (b.groupsUp n).isEmpty, idle := (o.groupsUp n).isEmpty }

/-- Counters of an Orchard job (R312). -/
def Block.treeCount (b : Block) (rs : List (Nat × List Nat × List (BitVec 32) × Nat × Nat)) : Block :=
  let b := b.count F.ORC_CNT_A_JOBS
  rs.foldl (fun b r =>
    let b := (b.count F.ORC_CNT_B_STEPS r.2.2.2.1).count F.ORC_CNT_C_MISSING r.2.2.2.2
    if r.1 = 1 then b.evt F.ORC_EVT_READ_ERR else if r.1 = 2 then b.evt F.ORC_EVT_VECTOR_FAIL else b) b

/-- The results of the vectors of a TREE job (R307, R308, R310, R311). -/
def Block.treeResults (b : Block) (j : Job) (bad : List ReadFault) (far : List FarRead) (k : TreeLoss) (n : Nat) :
    List (Nat × List Nat × List (BitVec 32) × Nat × Nat) :=
  (List.range n).map (fun v => b.treeVector j n v bad far k)

/-- A TREE descriptor job ends: its records and leaf indices, then DONE (R307, R308). -/
def Block.treeEnd (b : Block) (j : Job) (bad : List ReadFault) (far : List FarRead) (k : TreeLoss) : Block :=
  let d := j.desc
  let n := dfld d 1 1
  let seq := j.seq.getD 0
  let rs := b.treeResults j bad far k n
  let b := ({ b with clk := { b.clk with free := b.clk.free + 3 * n } }).treeCount rs
  let outs := oOutputs (imgOf j.store)
  let trees := oTrees (imgOf j.store)
  let one := fun (b : Block) (v : Nat) =>
    let r := rs.getD v (1, [], [], 0, 0)
    let rec_ := (padTo (leBytes 4 (dfld d 4 4) ++ leBytes 1 v ++ leBytes 1 outs ++ leBytes 1 r.1 ++ leBytes 1 (dfld d 0 1) ++ leBytes 4 r.2.2.2.1
      ++ leBytes 4 r.2.2.2.2 ++ (r.2.2.1.take 16).flatMap (fun x => leBytes 4 x.toNat)) 124).take 124
    let b := b.unitPut (dfld d 24 8 + 128 * v) (withCrc rec_) seq
    if (dfld d 2 1).testBit 0 then b.unitPut (dfld d 32 8 + v * trees * 4) (r.2.1.flatMap (leBytes 4)) seq else b
  let b := (List.range n).foldl one b
  b.unitDone (dfld d 40 8) seq

/-- The template record of a profile (R162). -/
def Block.tpl (b : Block) (p o n : Nat) : Nat := b.r0 (b.fget F.TOK_TPL_BASE_BASE + 64 * p + o) n

/-- Ids of a template run; a run that cannot be read gives none. -/
def Block.tplIds (b : Block) (far : List FarRead) (a n : Nat) : Except Nat (List Nat) := (b.unitRead far a (4 * n)).map ids4

/-- The prompt of an entry as (opening ids, user ids, closing ids, what the input byte set reads, fallback count, codec count), or none where it
cannot be read (R162, R166 to R170, R325). DESIGN CHOICE (log 65): an OPEN_COUNT or CLOSE_COUNT above 16, of which R162 says nothing more, is read as
given. -/
def Block.promptParts (b : Block) (e : Nat) (far : List FarRead) : Option (List Nat × List Nat × List Nat × List Byte × Nat × Nat) :=
  let s := b.side e
  let p := b.eget e E.PROFILE
  match b.vocab (b.eget e E.VOCAB), b.unitRead far s.promptAddr s.promptBytes with
  | some i, .ok text =>
    let none_ := b.tpl p 0 4 == 0
    let run := fun (a n : Nat) => if none_ || n = 0 then .ok [] else b.tplIds far a n
    match run (if s.isTurn then 0 else b.tpl p 8 8) (if s.isTurn then 0 else b.tpl p 4 4), run (b.tpl p 24 8) (b.tpl p 16 4),
      run (b.tpl p 32 8) (b.tpl p 20 4) with
    | .ok pre, .ok op, .ok cl =>
      let codec := iu i 6 1 == 1
      let u := if codec then codecIds i (ids4 text) else tokenizeText i text
      let norm := b.profFlag p 3 && !codec
      some (pre ++ op, u.1, cl, if norm then (vocNorm3 i text).flatMap TUnit.bytes else text, if codec then 0 else u.2, if codec then u.2 else 0)
    | _, _, _ => none
  | _, _ => none

/-- The input release time (R72): normal or long lane. -/
def Block.releaseTime (b : Block) (e n : Nat) : Nat :=
  let p := b.eget e E.PROFILE
  b.eget e E.ADMIT_TIME + b.prof p 4 4 + (if n ≤ b.prof p 8 4 then 0 else b.prof p 12 4 * cdiv n 65536)

/-- The screening of a prompt begins (R325); `ids` is the prompt of this turn whole, which the classifier reads. -/
def Block.screenPrompt (b : Block) (e first : Nat) (ids user : List Nat) (bytes : List Byte) : Block :=
  let n := b.eget e E.PROMPT_LEN
  let sid := b.rq.nextItem
  let b := { b with rq := { b.rq with nextItem := sid + 1 } }
  let long := decide (b.prof (b.eget e E.PROFILE) 8 4 < n)
  let s := { Screen.new sid false long first user.length 0 user bytes (b.eget e E.RELEASE_TIME - b.fget F.TICK_MON_GUARD_US) with ids := ids }
  (b.modSide e (fun x => { x with screens := x.screens ++ [s] })).startScreen e sid

/-- Tokenization of an entry completes (R98, R72, R163 to R165), with prefix lookup (R136) for a NEW prompt (log 23) and screening. DESIGN CHOICE
(log 65): ARENA_WAIT counts every attempt that finds no room. -/
def Block.tokenized (b : Block) (e : Nat) (far : List FarRead) : Block :=
  match b.promptParts e far with
  | none => b.eset e E.RELEASE_TIME (b.eget e E.ADMIT_TIME + b.prof (b.eget e E.PROFILE) 4 4)
  | some q =>
    let ids := q.1 ++ q.2.1 ++ q.2.2.1
    let s := b.side e
    let old := if s.isTurn then b.seqIds e else []
    let total := b.eget e E.PROMPT_LEN + ids.length
    let count := fun (b : Block) => (b.count F.TOK_CNT_A_BYTE_FALLBACK q.2.2.2.2.1).count F.TOK_CNT_A_CODEC_INVALID q.2.2.2.2.2
    if 1048576 < total then ((count b).eset e E.PROMPT_LEN total).endHard e 0x30
    else
      match b.newExtent e (old.length + ids.length + b.eget e E.MAX_NEW) (old ++ ids) with
      | none => (b.count F.TOK_CNT_C_ARENA_WAIT).modSide e (fun s => { s with tokWait := true })
      | some b =>
        let b := (count b).eset e E.PROMPT_LEN total
        let b := b.eset e E.RELEASE_TIME (b.releaseTime e total)
        let b := b.modSide e (fun s => { s with tokWait := false })
        let b := if s.isTurn then b else b.lookup e ids
        b.screenPrompt e (old.length + q.1.length) ids q.2.1 q.2.2.2.1

/-- A job of the block's own is still wanted: its entry has not changed hands. -/
def Block.jobLive (b : Block) (j : Job) : Bool := b.eget j.entry E.STATE != 0 && b.eget j.entry E.GENERATION == j.gen

/-- A set run of a screen ends (R325 to R327): it runs to its end whatever became of its item (R318). -/
def Block.setEnd (b : Block) (j : Job) (fault : Bool) : Block :=
  let m := if fault then mFailed 2 else
    match j.img.bind (b.imgRead 3) with
    | none => mFailed 1
    | some i => mRun i j.start j.input
  let b := b.matchCount m
  if !b.jobLive j || (b.scr j.entry j.sub).isNone then b
  else (b.modScreen j.entry j.sub (fun c =>
    if j.kind = 4 then { c with bset := some m, bsetWait := false } else { c with tset := some m, tsetWait := false })).judge j.entry j.sub

/-- An ensemble of a screen ends (R306, R310, R328): it runs to its end whatever became of its item (R304). -/
def Block.ensembleEnd (b : Block) (j : Job) (bad : List ReadFault) (k : TreeLoss) : Block :=
  let rs := b.treeResults j bad [] k 1
  let r := rs.getD 0 (2, [], [], 0, 0)
  let b := ({ b with clk := { b.clk with free := b.clk.free + 3 } }).treeCount rs
  if !b.jobLive j || (b.scr j.entry j.sub).isNone then b
  else (b.modScreen j.entry j.sub (fun c => { c with
    ens := { st := if r.1 = 0 then 2 else 3, outs := r.2.2.1 }, leaves := c.leaves ++ r.2.1
    ensRan := if k.idle then c.ensRan else j.num })).judge j.entry j.sub

/-- A mask of the block's own is complete (R61): the root's, or a node's by its place in the tree. -/
def Block.maskDone (b : Block) (j : Job) : Block :=
  b.modSide j.entry (fun s =>
    if j.kind = 2 then { s with rootMask := true }
    else { s with nodes := (List.range s.nodes.length).filterMap (fun i => (s.nodes[i]?).map (fun n => if i = j.sub then { n with masked := true } else n)) })

/-- The head job of a unit ends. A tokenization or a mask of the block's own that meets a fault is sent again while it is still wanted
(R33, R45); an accepted set or ensemble runs to its end (R304, R318). -/
def Block.jobEnd (b : Block) (kind n : Nat) (fault : Bool) (bad : List ReadFault) (far : List FarRead) : Block :=
  match b.takeJob kind n with
  | none => b
  | some (j, o) =>
    if kind = 3 then
      let b := o.treeFaults n bad
      if j.kind = 0 then b.treeEnd j bad far (b.treeLoss o n) else b.ensembleEnd j bad (b.treeLoss o n)
    else
      let b := if fault then o.fault (if kind = 0 then 9 else if kind = 1 then 8 else 10) n false else o
      if j.kind = 0 then
        match kind with
        | 0 => b.latticeEnd j fault far
        | 1 => b.matchEnd j fault far
        | _ => b.maskEnd j fault far
      else if j.kind = 1 then
        if !b.jobLive j || b.eget j.entry E.STATE ≠ 2 then b else if fault then b.ownJob j else b.tokenized j.entry far
      else if j.kind = 2 || j.kind = 3 then
        if !b.jobLive j || j.tick ≠ b.tick then b else if fault then b.ownJob j else b.maskDone j
      else b.setEnd j fault

end Sys2Proof.Machine
end

