-- ==== Sys2Proof/Machine/Orders.lean ====
section
/-! DEFINITION. Orders to the pools (R121 to R132, R141 to R145): publication, completion, failure and the single retry
(R110), and registration of prefix pages (R138). -/
namespace Sys2Proof.Machine
open Sys2Proof

/-- The cache of a request lies in a pool for decode, or its dispatch or fill to the pool is under way (R119, R121; log 66). -/
def Block.boundTo (b : Block) (e p : Nat) : Bool :=
  let st := b.eget e E.STATE
  let filling := b.rq.orders.any (fun o => o.entry == e && o.gen == b.eget e E.GENERATION && o.kind == 5)
  b.eget e E.DECODE_POOL == p
  && (st == 4 || b.prefilling e || (st == 3 && !(b.ownPages e).isEmpty)
    || ((st == 2 || ((st == 5 || st == 6) && b.eget e E.RESUME_PEND == 1)) && ((b.side e).prefetched || filling)))

/-- Streams of other requests that a pool holds, or is about to hold, in DECODE. -/
def Block.streamsIn (b : Block) (e p : Nat) : Nat := (b.live.filter (fun f => f != e && b.boundTo f p)).length

/-- Pages a pool can give (R121): FREE, and PREFIX without pins. -/
def Block.room (b : Block) (q : Pool) : Nat := (b.freePages q).length + (b.evictable q).length

/-- A decode candidate (R121). -/
def Block.decodeOk (b : Block) (e need : Nat) (q : Pool) : Bool :=
  q.enabled && (q.kind == 2 || q.kind == 3) && !((b.side e).exclude.contains q.num) && decide (b.streamsIn e q.num < q.cap) && decide (need ≤ b.room q)

/-- The pool with the most FREE pages, ties to the lowest number. -/
def Block.mostFree (b : Block) (l : List Pool) : Option Pool :=
  l.foldl (fun (r : Option Pool) q => match r with
    | none => some q
    | some p => if (b.freePages p).length < (b.freePages q).length || ((b.freePages p).length == (b.freePages q).length && decide (q.num < p.num))
        then some q else r) none

/-- The decode pool chosen for a number of new pages (R121). -/
def Block.chooseDecode (b : Block) (e need : Nat) : Option Pool :=
  let c := b.rq.pools.filter (b.decodeOk e need)
  let held := if (b.side e).pins.isEmpty then none else b.poolOf (b.eget e E.PAGE_HEAD)
  match held with
  | some h => if c.any (fun q => q.num == h.num) then some h else b.mostFree c
  | none => b.mostFree c

/-- Prompt tokens in unfinished prefill orders of a pool. -/
def Block.prefillLoad (b : Block) (p : Nat) : Nat :=
  ((b.rq.orders.filter (fun o => o.kind == 1 && o.src == p)).map (·.tokens)).foldl (· + ·) 0

/-- The prefill pool for a decode pool (R121): the pool itself where it is BOTH and may take a dispatch, else the PREFILL pool with the fewest prompt
tokens under way. -/
def Block.choosePrefill (b : Block) (e : Nat) (d : Pool) : Option Pool :=
  let open_ := fun (q : Pool) => q.enabled && !((b.side e).exclude.contains q.num)
  if d.kind = 3 && open_ d then some d
  else (b.rq.pools.filter (fun q => open_ q && q.kind == 1)).foldl (fun (r : Option Pool) q => match r with
    | none => some q
    | some p => if b.prefillLoad q.num < b.prefillLoad p.num || (b.prefillLoad q.num == b.prefillLoad p.num && decide (q.num < p.num)) then some q else r) none

/-- An order about to be published: `list` the page ids of LIST in sequence order. -/
structure OrderReq where
  kind : Nat
  entry : Nat
  src : Nat
  dst : Nat
  pairs : List (Nat × Nat)
  list : List Nat
  count : Nat
  rebuild : Bool
  start : Nat
  tokens : Nat
  ctx : Nat
  tail : Nat
  purpose : Nat
deriving DecidableEq, Repr

/-- A key for the puts of an order the block executes itself (R123). -/
def orderKey (seq : Nat) : Nat := 1000000 + seq

/-- A completion record of an order the block executes (R124): in the completion slot, and in the arrival slot DST_DONE names. -/
def Block.putDone (b : Block) (seq status index done : Nat) : Block :=
  let r := leBytes 4 seq ++ leBytes 1 status ++ zeros 3 ++ leBytes 4 index ++ zeros 4
  let b := b.agentPut (b.own0 (b.fget F.PG_DONE_BASE_BASE + seq % 65536 * 16)) r 2 none 8 0
  if done = 0 then b else b.agentPut done r 2 none 8 0

/-- The pages of a move in or out of the WARM pool written by the block (R123), up to a source that cannot be read. -/
def Block.copyPages (b : Block) (seq done : Nat) (src dst : Pool) : Nat → List (Nat × Nat) → Block
  | _, [] => b
  | i, p :: rest =>
    let o := gaOff (src.pageAddr p.1)
    let e := b.span0 o src.pageBytes true
    if e ≠ 0 then (b.rmFail e false false).putDone seq 1 i done
    else Block.copyPages (b.agentPut (dst.pageAddr p.2) (b.rd0 o src.pageBytes) 0 (some (orderKey seq)) 8 0) seq done src dst (i + 1) rest

/-- Orders the block executes whose puts have all completed: their completion records (R123, R124); a put that failed gives
PATH_ERROR. -/
def Block.warmOrders (b : Block) : Block :=
  b.rq.orders.foldl (fun b o =>
    let key := orderKey o.seq
    let warm := ((b.pool o.src).map (·.kind)) == some 4
    let shown := b.r0 (b.fget F.PG_DONE_BASE_BASE + o.seq % 65536 * 16) 4 == o.seq
    let busy := b.rm.out.any (fun x => match x.purpose with
      | .agent (some k) _ _ => k == key
      | _ => false)
    if !warm || shown || busy then b
    else
      let done := if o.kind = 5 then (((b.pool o.dst).map (·.dstDone)).getD 0) + o.seq % 65536 * 16 else 0
      b.putDone o.seq (if b.failedFor key then 3 else 0) 0 done) b

/-- An order published (R122, R124): list, header, ring. None where no list space or order number is free. -/
def Block.putOrder (b : Block) (r : OrderReq) : Option Block :=
  let gran := cdiv (4 * r.list.length) 4096
  match (if gran = 0 then some 0 else runFit b.rq.listFree gran), b.pool r.src with
  | some g, some src =>
    if 65536 ≤ b.rq.orders.length then none
    else
      let seq := (b.rq.orderSeq + 1) % 2 ^ 32
      let listOff := b.fget F.PG_LIST_BASE + 4096 * g
      let dstPool := b.pool r.dst
      let done := if r.kind = 2 || r.kind = 5 then ((dstPool.map (·.dstDone)).getD 0) + seq % 65536 * 16 else 0
      let hdr := withCrc (leBytes 1 r.kind ++ leBytes 1 r.rebuild.toNat ++ leBytes 2 r.entry ++ leBytes 2 (b.eget r.entry E.GENERATION)
        ++ leBytes 1 r.src ++ leBytes 1 r.dst ++ leBytes 4 seq ++ leBytes 4 r.count ++ leBytes 4 r.start ++ leBytes 4 r.tokens ++ leBytes 4 r.ctx
        ++ leBytes 4 r.tail ++ leBytes 8 (if gran = 0 then 0 else b.own0 listOff)
        ++ leBytes 8 (if r.kind = 1 then b.own0 (b.extent r.entry + 4 * r.start) else 0) ++ leBytes 8 done ++ leBytes 4 b.tick)
      let o : Order :=
        { seq := seq, kind := r.kind, entry := r.entry, gen := b.eget r.entry E.GENERATION, src := r.src, dst := r.dst, ctx := r.list.take r.ctx, tail := r.tail,
          pairs := r.pairs, tick := b.tick, rebuild := r.rebuild, listOff := g, listGran := gran, tokens := r.tokens, orphan := false, purpose := r.purpose }
      let b := b.wr0 listOff (r.list.flatMap (leBytes 4))
      let b := { b with rq := { b.rq with orderSeq := seq, orders := b.rq.orders ++ [o], slots := tset b.rq.slots (seq % 65536) (seq + 1, r.src, ((tget b.rq.slots (seq % 65536)).map (·.2.2)).getD (zeros 16)),
                                          listFree := b.rq.listFree.filter (fun x => !(decide (g ≤ x ∧ x < g + gran))) } }
      if src.kind = 4 then some (match dstPool with
        | some q => (b.copyPages seq done src q 0 r.pairs).warmOrders
        | none => b)
      else
        let pos := tgetD b.rq.ringPos r.src 0
        let b := { b with rq := { b.rq with ringPos := tset b.rq.ringPos r.src (pos + 1) } }
        some (b.agentPut (src.ring + pos % 2 ^ src.ringLog2 * 64) hdr 0 (some r.src) (seqOf r.entry) 0)
  | _, _ => none

/-- A wait under R132. -/
def Block.defer (b : Block) : Block := b.count F.PG_CNT_ALLOC_DEFER

/-- Owned pages replaced in a list by their other half. -/
def swapPages (pairs : List (Nat × Nat)) (l : List Nat) : List Nat :=
  l.map (fun p => ((pairs.find? (fun q => q.1 == p)).map (·.2)).getD p)

/-- The two lists of an entry with its owned pages swapped. -/
def Block.swapList (b : Block) (e : Nat) (pairs : List (Nat × Nat)) : Block :=
  b.setList e ((b.pageList e).take (b.pfxPages e)) (swapPages pairs (b.ownPages e))

/-- Why an order cannot go out: its pool lacks pages, or the list arena or the numbers of R127 lack room. -/
inductive Wait where
  | pages
  | order
deriving DecidableEq, Repr

/-- A move of pages from one pool to another published (TRANSFER, SPILL, FILL): the destinations join the list, both ends are TRANSFER. TAIL_PAGE
reads "no page", which R122 leaves open for these orders: DESIGN CHOICE (log 65). -/
def Block.putMove (b : Block) (e kind purpose : Nat) (src dst : Pool) (pages : List Nat) : Except Wait Block :=
  match Block.allocPages pages.length b dst with
  | none => .error .pages
  | some (dests, c) =>
    let pairs := pages.zip dests
    let r : OrderReq :=
      { kind := kind, entry := e, src := src.num, dst := dst.num, pairs := pairs, list := pairs.flatMap (fun p => [p.1, p.2]), count := pairs.length,
        rebuild := false, start := 0, tokens := 0, ctx := 0, tail := noPage, purpose := purpose }
    match c.putOrder r with
    | none => .error .order
    | some c =>
      let c := c.swapList e pairs
      .ok (pairs.foldl (fun c p => (c.movePage p.1 3 e).movePage p.2 3 e) c)

/-- Pages a request gives back: freed, or left with no owner while an order moves them (R128); a RETIRED page stays so. Of pages freed together the
last of the list counts as the most recently freed: DESIGN CHOICE (log 65), R129 gives them no order. -/
def Block.releasePages (b : Block) (l : List Nat) : Block :=
  l.foldl (fun b p => if b.pageState p = 3 then b.movePage p 3 noOwner else if b.pageState p = 1 then b.freePage p else b) b

/-- The hits of a lookup dropped (R137). -/
def Block.dropHits (b : Block) (e : Nat) : Block :=
  let own := b.ownPages e
  let b := (b.unpinAll e).count F.PG_CNT_PFX_DROP
  (b.eset e E.PREFIX_LEN 0).setList e [] own

/-- A PREFILL order of an entry for the sequence up to `total` (R130): from TOKEN_START, over the pages kept. Where the pool that holds its prefix
pages is no decode candidate the hits are dropped and the whole sequence is computed (R137). -/
def Block.putPrefill (b : Block) (e start total : Nat) (rebuild : Bool) (purpose : Nat) : Block :=
  let ps := b.pageTokens
  let need := fun (b : Block) => cdiv (total - (b.pageList e).length * ps) ps
  let own := b.ownPages e
  let pick := fun (b : Block) => if own.isEmpty then b.chooseDecode e (need b) else b.pool (b.eget e E.DECODE_POOL)
  let held := if (b.side e).pins.isEmpty then none else b.poolOf (b.eget e E.PAGE_HEAD)
  let lost := own.isEmpty && (match held with
    | some h => !(b.rq.pools.any (fun q => q.num == h.num && b.decodeOk e (need b) q))
    | none => false)
  let b := if lost then b.dropHits e else b
  let start := if lost then 0 else start
  match pick b with
  | none => b.defer
  | some d =>
    match b.choosePrefill e d with
    | none => b.defer
    | some q =>
      match Block.allocPages (need b) b q with
      | none => b.defer
      | some (new, c) =>
        let list := b.pageList e
        let ctx := list.take (start / ps)
        let r : OrderReq :=
          { kind := 1, entry := e, src := q.num, dst := q.num, pairs := new.map (fun p => (noPage, p)), list := ctx ++ new, count := new.length,
            rebuild := rebuild, start := start, tokens := total - start, ctx := ctx.length,
            tail := if start < list.length * ps then list.getLast?.getD noPage else noPage, purpose := purpose }
        match c.putOrder r with
        | none => b.defer
        | some c =>
          let c := c.setList e (list.take (b.pfxPages e)) (own ++ new)
          let c := new.foldl (fun c p => c.movePage p 1 e) c
          let c := (c.eset e E.PREFILL_POOL q.num).eset e E.DECODE_POOL d.num
          c.modSide e (fun s => { s.notDue purpose with newPages := if q.num = d.num then [] else new })

/-- The TRANSFER of the new pages to the decode pool (R130), or to one chosen anew (R110): after a failure there, and where a commit has disabled the
pool and it holds nothing of the request yet (R120). -/
def Block.putTransfer (b : Block) (e : Nat) : Block :=
  let s := b.side e
  let pages := s.newPages
  let old := b.pool (b.eget e E.DECODE_POOL)
  let holds := !s.pins.isEmpty || (b.ownPages e).any (fun p => !pages.contains p)
  let anew := s.exclude.contains (b.eget e E.DECODE_POOL) || (!holds && !((old.map (·.enabled)).getD false))
  match (if anew then b.chooseDecode e pages.length else old), b.pool (b.eget e E.PREFILL_POOL) with
  | some d, some q =>
    match b.putMove e 2 2 q d pages with
    | .error _ => b.defer
    | .ok c => (c.eset e E.DECODE_POOL d.num).modSide e (fun s => s.notDue 2)
  | _, _ => b.defer

/-- The warm pool (R120). -/
def Block.warmPool (b : Block) : Option Pool := b.rq.pools.find? (fun q => q.kind == 4)

/-- The warm time to live of the entry that would end first ends at the next Accept (R143). -/
def Block.squeezeWarm (b : Block) : Block :=
  let c := b.live.filter (fun e => b.eget e E.STATE == 5 && b.eget e E.TIER == 1 && b.eget e E.TTL_EXPIRY != 0)
  match c.foldl (fun (r : Option Nat) e => match r with
    | none => some e
    | some f => if b.eget e E.TTL_EXPIRY < b.eget f E.TTL_EXPIRY then some e else r) none with
  | none => b
  | some e => b.eset e E.TTL_EXPIRY (min (b.eget e E.TTL_EXPIRY) b.clk.timeUs)

/-- The SPILL of a paused request to the warm pool (R141, R143): after the turn-end record, once nothing of it is in flight, from the pool where its
pages lie. A warm pool without room ends a time to live; a list without room is a wait under R132. -/
def Block.putSpill (b : Block) (e : Nat) : Block :=
  if (b.side e).turnEnd || b.inFlight e || b.eget e E.OUTSTANDING ≠ 0 || b.eget e E.CPT_PEND ≠ 0 then b
  else
    let own := b.ownPages e
    let from_ := match own.head? with
      | some p => b.poolOf p
      | none => b.pool (b.eget e E.DECODE_POOL)
    match b.warmPool, from_ with
    | some w, some d =>
      match (if w.enabled then b.putMove e 4 3 d w own else .error .pages) with
      | .ok c => c.modSide e (fun s => s.notDue 3)
      | .error .pages => b.squeezeWarm
      | .error .order => b.defer
    | _, _ => b

/-- The pages that a request owns released; its prefix pages stay (R110, R144). -/
def Block.giveUpPages (b : Block) (e : Nat) : Block :=
  let own := b.ownPages e
  (b.setList e ((b.pageList e).take (b.pfxPages e)) []).releasePages own

/-- The storage under a page is lost (R144): the COLD pool that held the cache, or lines of the warm pool that cannot be read. -/
def Block.pageLost (b : Block) (how p : Nat) : Bool :=
  how == 2 || (match b.poolOf p with
    | some q => q.kind == 4 && b.span0 (gaOff (q.pageAddr p)) q.pageBytes true != 0
    | none => false)

/-- The cache of a paused request is given up (R144): TIER 3, PAGE_COUNT 0, pages whose storage is lost RETIRED, the rest FREE. -/
def Block.loseCache (b : Block) (e : Nat) : Block :=
  let own := b.ownPages e
  let how := (b.side e).lost
  let b := b.setList e ((b.pageList e).take (b.pfxPages e)) []
  let bad := own.filter (b.pageLost how)
  let b := (bad.foldl (fun b p => b.retirePage p) b).releasePages (own.filter (fun p => !bad.contains p))
  (b.eset e E.TIER 3).modSide e (fun s => { s with
    lost := 0, due := (s.due.filter (fun k => k != 3 && k != 6)).map (fun k => if k = 4 then 5 else k) })

/-- The SPILL from the warm pool to the cold one (R142, R144). -/
def Block.putCold (b : Block) (e : Nat) : Block :=
  let own := b.ownPages e
  let c := b.mostFree (b.rq.pools.filter (fun q => q.enabled && q.kind == 5))
  match c, b.warmPool with
  | some q, some w =>
    if b.room q < own.length then b.loseCache e
    else
      match b.putMove e 4 6 w q own with
      | .error _ => b.defer
      | .ok x => x.modSide e (fun s => s.notDue 6)
  | _, _ => b.loseCache e

/-- The FILL of a prefetch (R145). -/
def Block.putFill (b : Block) (e : Nat) : Block :=
  let own := b.ownPages e
  let src := match own.head? with
    | some p => b.poolOf p
    | none => b.warmPool
  match src, b.chooseDecode e own.length with
  | some q, some d =>
    match b.putMove e 5 4 q d own with
    | .error _ => b.defer
    | .ok c => (c.eset e E.DECODE_POOL d.num).modSide e (fun s => s.notDue 4)
  | _, _ => b.defer

/-- One due order of an entry, if it can go out at this Publish (R75, R145, R146). -/
def Block.putOne (b : Block) (e k : Nat) : Block :=
  let s := b.side e
  let busy := b.inFlight e
  match k with
  | 1 =>
    if b.eget e E.STATE = 3 then
      if b.clk.bndUs < b.eget e E.RELEASE_TIME || (s.isTurn && (!s.prefetched || busy)) then b
      else b.putPrefill e (if s.isTurn && !(b.ownPages e).isEmpty then s.turnStart else b.eget e E.PREFIX_LEN) s.seqLen false 1
    else b.putPrefill e (b.eget e E.PREFIX_LEN) s.seqLen false 1
  | 2 => b.putTransfer e
  | 4 => if busy then b else b.putFill e
  | 5 => if busy then b else b.putPrefill e (b.eget e E.PREFIX_LEN) s.turnStart true 5
  | 6 => if busy then b else b.putCold e
  | 7 => (b.giveUpPages e).modSide e (fun s => (s.notDue 7).dueFirst 1)
  | 8 => b.putPrefill e (b.eget e E.PREFIX_LEN) s.seqLen true 8
  | _ => b

/-- The due orders of an entry in turn, up to the first that has to wait; the SPILL of a pause comes after the Punnet (R141). -/
def Block.putDueGo : Nat → Block → Nat → Block
  | 0, b, _ => b
  | f + 1, b, e =>
    match (b.side e).due with
    | [] => b
    | k :: rest =>
      if k = 3 then b
      else
        let c := b.putOne e k
        if (c.side e).due = k :: rest then c else Block.putDueGo f c e
def Block.putDue (b : Block) (e : Nat) : Block := Block.putDueGo 4 b e

/-- The granules of an order's list and its claim on the token extent returned. -/
def Block.closeOrder (b : Block) (o : Order) : Block :=
  let b := { b with rq := { b.rq with orders := b.rq.orders.filter (fun x => x.seq != o.seq),
                                      listFree := giveBack b.rq.listFree ((List.range o.listGran).map (o.listOff + ·)) } }
  b.orderLeaves o.seq

/-- The entry an order belongs to is still the request it was published for. -/
def Block.orderLive (b : Block) (o : Order) : Bool := b.eget o.entry E.STATE != 0 && b.eget o.entry E.GENERATION == o.gen

/-- A page an order writes or reads without an owner (R128): FREE, or RETIRED where a late write may still land in it (R127). -/
def Block.strayPage (b : Block) (p : Nat) (retire : Bool) : Block :=
  if b.pageState p = 3 ∧ b.pageOwner p = noOwner then (if retire then b.retirePage p else b.freePage p) else b

/-- A page that a page error names becomes RETIRED (R126). The index record of a PREFIX page becomes STALE, so that it hits no more and keeps its
pins: DESIGN CHOICE (log 65), the specification does not say what becomes of it. -/
def Block.errorPage (b : Block) (p : Nat) : Block :=
  if b.pageState p = 4 then b
  else (if b.pageState p = 2 then b.setIdx (b.pageOwner p) 29 1 3 else b).retirePage p

/-- Pages of a completed or failed order moved (R118, R126 to R128): `bad` the page that becomes RETIRED, `off` a write-off. -/
def Block.orderPages (b : Block) (o : Order) (ok off : Bool) (bad : Option Nat) : Block :=
  let live := b.orderLive o
  let b := o.pairs.foldl (fun b p =>
    let src := fun (b : Block) => if p.1 = noPage then b
      else if bad = some p.1 then b.retirePage p.1
      else if !live then b.strayPage p.1 false
      else if ok then b.freePage p.1 else b.movePage p.1 1 o.entry
    let lost := bad = some p.2 || (off && !ok)
    let dst := fun (b : Block) =>
      if !live then b.strayPage p.2 lost
      else if lost then b.retirePage p.2
      else if o.kind = 1 then (if !ok && b.pageState p.2 = 1 then b.freePage p.2 else b)
      else if ok then b.movePage p.2 1 o.entry else b.freePage p.2
    dst (src b)) b
  let b := if live || o.tail = noPage then b else b.strayPage o.tail (off && !ok)
  match bad with
  | some p => b.errorPage p
  | none => b

/-- What the single retry of R110 does, or ENDING with a reason at the next Accept. -/
def Block.retryOrder (b : Block) (e due reason : Nat) (exclude : List Nat) : Block :=
  if b.eget e E.RETRIED = 1 then b.modSide e (fun s => { s with failWith := reason, due := [] })
  else ((b.eset e E.RETRIED 1).count F.RQT_CNT_B_RETRY).modSide e (fun s => { s.dueFirst due with exclude := s.exclude ++ exclude })

/-- A prefetch that fails is tried once more, and counted as R110 counts (R145). -/
def Block.retryPrefetch (b : Block) (e due : Nat) (exclude : List Nat) : Block :=
  if (b.side e).failed then b.modSide e (fun s => { s with prefetchFail := true, due := s.due.filter (fun k => k != 4 && k != 5) })
  else (b.count F.RQT_CNT_B_RETRY).modSide e (fun s => { (s.notDue 4).dueFirst due with failed := true, exclude := s.exclude ++ exclude })

/-- The list of an entry after an order of it has failed (R110, R118, R126): what the order had put there leaves, its sources return, and RETIRED
pages are gone. `pfx` and `own` are the lists before the pages moved. -/
def Block.orderBack (b : Block) (o : Order) (pfx own : List Nat) : Block :=
  let moved := fun (p : Nat) => o.pairs.any (fun q => q.2 == p)
  if o.kind = 1 then b.setList o.entry pfx (own.filter (fun p => !moved p && b.pageState p != 4))
  else
    let added := if o.purpose = 2 then (own.dropWhile (fun p => !moved p)).filter (fun p =>
        !moved p && ((b.poolOf p).map (·.num)) == some o.dst && b.pageState p == 1) else []
    let b := b.releasePages added
    b.setList o.entry pfx ((swapPages (o.pairs.map (fun p => (p.2, p.1))) (own.filter (fun p => !added.contains p))).filter (fun p => b.pageState p != 4))

/-- A failed PREFILL (R110, R145). One that names a context page as failing has lost what it was to build on: hits that it covers are dropped, and the
whole sequence is computed anew (log 66). -/
def Block.prefillFailed (b : Block) (o : Order) (pfx : List Nat) (bad : Option Nat) : Block :=
  let e := o.entry
  let inPfx := (bad.map pfx.contains).getD false
  let inCtx := (bad.map o.ctx.contains).getD false
  let b := if inPfx then b.dropHits e else b
  if o.purpose = 5 then b.retryPrefetch e 5 [o.src]
  else b.retryOrder e (if o.purpose = 8 then 8 else if inCtx then 7 else 1) 0x40 [o.src]

/-- A failed order's effect on its request (R110, R143 to R145), once its pages and its list have moved. `badSrc` tells that a source page was
retired, `off` a write-off. -/
def Block.orderFailed (b : Block) (o : Order) (badSrc off : Bool) : Block :=
  let e := o.entry
  let cold := ((b.pool o.src).map (·.kind)) == some 5
  if o.purpose = 2 then
    if badSrc then ((b.giveUpPages e).modSide e (fun s => { s with newPages := [] })).retryOrder e 8 0x41 [o.src, o.dst]
    else b.retryOrder e 2 0x41 [o.dst]
  else if o.purpose = 3 then b.modSide e (fun s =>
    if badSrc then { s with lost := 1 } else if s.isDue 4 then { s.notDue 4 with prefetched := true } else s.dueFirst 3)
  else if o.purpose = 6 then b.modSide e (fun s => { s with lost := 1 })
  else if badSrc then (b.modSide e (fun s => { s with lost := 1 })).retryPrefetch e 5 [o.dst]
  else if off && cold then (b.modSide e (fun s => { s with lost := 2 })).retryPrefetch e 5 [o.dst]
  else b.retryPrefetch e 4 [o.dst]

/-- The time of intake close in this tick. -/
def Block.intakeTime (b : Block) : Nat := b.clk.bndUs + b.fget F.TICK_BUDGET_INTAKE_US

/-- The time to live of a tier begins (R142), unless a resume has been claimed. -/
def Block.setTtl (b : Block) (e secs : Nat) : Block :=
  if (b.eget e E.STATE == 5 || b.eget e E.STATE == 6) && b.eget e E.RESUME_PEND == 0 then b.eset e E.TTL_EXPIRY (b.intakeTime + secs * 1000000) else b

/-- A completed order's effect on its request. -/
def Block.orderOk (b : Block) (o : Order) : Block :=
  let e := o.entry
  if o.kind = 1 then
    let moves := !((b.side e).newPages.isEmpty)
    let b := if o.purpose = 5 then b.modSide e (fun s => { s with prefetched := true }) else b
    let b := if o.purpose = 5 then b.eset e E.TIER 0 else b
    if moves then b.modSide e (fun s => s.dueFirst 2) else b
  else if o.purpose = 2 then b.modSide e (fun s => { s with newPages := [], regDue := true })
  else if o.purpose = 3 then (b.eset e E.TIER 1).setTtl e (b.fget F.PG_TIER_WARM_TTL_S)
  else if o.purpose = 6 then (b.eset e E.TIER 2).setTtl e (b.fget F.PG_TIER_COLD_TTL_S)
  else (b.eset e E.TIER 0).modSide e (fun s => { s with prefetched := true })

/-- The page FAILED_INDEX names under a page-error status (R126), by its position in LIST. -/
def Order.badPage (o : Order) (status index : Nat) : Option Nat :=
  if status ≠ 1 ∧ status ≠ 2 then none
  else if o.kind = 1 then (if index < o.ctx.length then o.ctx[index]? else (o.pairs[index - o.ctx.length]?).map (·.2))
  else (o.pairs[index]?).map (fun p => if status = 1 then p.1 else p.2)

/-- An order ends (R124 to R128): its completion's STATUS and FAILED_INDEX, or a write-off. A request in ENDING gets its pages back and no retry. -/
def Block.endOrder (b : Block) (o : Order) (status index : Nat) (off : Bool) : Block :=
  let b := b.closeOrder o
  if o.kind = 3 then (if status ≠ 0 && !off then b.report 2 3 (o.seq + o.src * 2 ^ 32 + status * 2 ^ 40) else b)
  else
    let ok := status == 0 && !off
    let bad := if off then none else o.badPage status index
    let live := b.orderLive o
    let ending := b.eget o.entry E.STATE == 7
    let pfx := (b.pageList o.entry).take (b.pfxPages o.entry)
    let own := b.ownPages o.entry
    let b := b.orderPages o ok off bad
    if !live then b
    else if ok then (if ending then b else b.orderOk o)
    else
      let b := b.orderBack o pfx own
      let b := b.modSide o.entry (fun s => if s.steps.any (fun t => t.wait == some o.seq) then { s with badOrders := s.badOrders ++ [o.seq] } else s)
      if ending then b
      else if o.kind = 1 then b.prefillFailed o pfx bad
      else b.orderFailed o (status == 1 && bad.isSome) off

/-- Registration of an entry's pages (R138). -/
def Block.registerGo (b : Block) (e : Nat) : Nat → Nat → List Byte → List Nat → List Nat → Block
  | 0, _, _, _, _ => b
  | f + 1, parent, prev, ids, pages =>
    let n := b.pageTokens
    match pages with
    | [] => b
    | p :: rest =>
      if ids.length < n || b.pageState p ≠ 1 || ((b.poolOf p).map (·.num)) ≠ some (b.eget e E.DECODE_POOL) then b
      else
        let r := b.register e p prev parent (ids.take n)
        if r.1 then Block.registerGo r.2 e f p (b.blockHash e prev (ids.take n)) (ids.drop n) rest else r.2

/-- The chain of hashes over the blocks an entry's prefix covers. -/
def Block.hashChain (b : Block) (e : Nat) : Nat → List Byte → List Nat → List Byte
  | 0, h, _ => h
  | f + 1, h, ids => Block.hashChain b e f (b.blockHash e h (ids.take b.pageTokens)) (ids.drop b.pageTokens)

def Block.registerPages (b : Block) (e : Nat) : Block :=
  if b.fget F.PFX_CTRL_EN = 0 || (b.side e).isTurn then b
  else
    let ids := (b.seqIds e).take (b.eget e E.PROMPT_LEN)
    let k := b.pfxPages e
    let list := b.pageList e
    let prev := b.hashChain e k [] ids
    Block.registerGo b e (list.length) (if k = 0 then noPage else list.getD (k - 1) noPage) prev (ids.drop (k * b.pageTokens)) (list.drop k)

end Sys2Proof.Machine
end

