-- ==== Sys2Proof/Machine/Admission.lean ====
section
/-! DEFINITION. Admission (R32, R94 to R101), control records (R97, R100, R107 to R109), the taken counters the
surroundings raise, and the release of the input verdict (R72 to R75, R329, R331). -/
namespace Sys2Proof.Machine
open Sys2Proof

/-- The block serves requests: it runs, and is not the standby of a pair or fenced (R505, R509). -/
def Block.serves (b : Block) : Bool := b.run? && b.fget F.STA_IDENT_PAIR_ROLE == 0

/-- The configuration of an entry's grammar (R190). -/
def Block.cfgOf (b : Block) (e : Nat) : Cfg := { state := b.eget e E.GRAMMAR_STATE, stack := (b.side e).stack }

/-- The configuration of an entry set: its stack, bottom first, lies in space 0 at GRM_STACK (R190; log 26). -/
def Block.setCfg (b : Block) (e : Nat) (c : Cfg) : Block :=
  let b := ((b.eset e E.GRAMMAR_STATE c.state).eset e E.GRM_DEPTH c.stack.length).modSide e (fun s => { s with stack := c.stack })
  if c.stack.isEmpty then b else b.wr0m (b.eget e E.GRM_STACK) (c.stack.flatMap (leBytes 4))

/-- The grammar of an entry, where it has one. -/
def Block.grmOf (b : Block) (e : Nat) : Option Img := if b.eget e E.GRAMMAR = 0 then none else b.grammar (b.eget e E.GRAMMAR)

/-- What the claim of a NEW or TURN descriptor resets: grammar (R190), stop matcher (R203), matcher states and language (R327, R528). -/
def Block.startTurn (b : Block) (e : Nat) : Block :=
  let b := match b.grmOf e with
    | some i => b.setCfg e { state := iu i 20 4, stack := [] }
    | none => b
  let start := fun (n : Nat) => ((b.matcherSet n).map (fun i => iu i 28 4)).getD 0
  let p := b.eget e E.PROFILE
  let b := b.wr0m (b.mstate e) (leBytes 4 (start (b.scrByteSet p true)) ++ leBytes 4 (start (b.scrTokenSet p true)) ++ leBytes 2 0xFFFF ++ zeros 2
    ++ leBytes 4 0x7FC00000)
  let stp := match b.stopOf e with
    | some i => iu (stopAutomaton i) 28 4
    | none => 0
  (b.eset e E.STP_STATE stp).modSide e (fun s => { s with turn := 0, tail := [] })

/-- The next FREE entry of a slice (R32). -/
def Block.sliceNext (b : Block) (n : Nat) : Option Nat :=
  let last := (tget b.rq.lastAlloc n).getD 8191
  ((List.range 8192).map (fun k => n * 8192 + (last + 1 + k) % 8192)).find? (fun e => b.eget e E.STATE == 0)

/-- Entries in use of a slice. -/
def Block.sliceUsed (b : Block) (n : Nat) : Nat := (b.live.filter (fun e => seqOf e == n)).length

/-- The entry an admission claimed by sequencer n opens (R32). -/
def Block.pickEntry (b : Block) (n : Nat) : Option Nat :=
  match b.sliceNext n with
  | some e => some e
  | none =>
    let best := (List.range 8).foldl (fun r k => if b.sliceUsed k < b.sliceUsed r then k else r) 0
    b.sliceNext best

/-- Fields of an admission descriptor (R95). -/
def descAdapter (d : List Byte) (k : Nat) : Nat := lefld d (24 + 4 * k) 4

/-- A NEW descriptor is malformed (R95, R101, R170). -/
def Block.descBad (b : Block) (d : List Byte) : Bool :=
  let g := lefld d
  decide (7 < g 12 1) || decide (31 < g 13 1) || decide (4095 < g 14 2) || decide (4 < g 20 1) || decide (2 < g 21 1) || decide (1 < g 22 2)
  || (List.range 4).any (fun k => decide (2 ^ 18 ≤ descAdapter d k)) || g 44 4 == 0 || decide (1048576 < g 44 4)
  || !([0, 1, 5].contains (gaSpace (g 48 8))) || decide (4194304 < g 56 4) || g 60 2 != 0 || g 62 2 != 0
  || (((b.vocab (g 13 1)).map (fun i => iu i 6 1 == 1)).getD false && g 56 4 % 4 != 0)

/-- A model named by a profile suits a vocabulary (R324); an EMPTY or FAILED one has none. -/
def Block.modelSuits (b : Block) (m vid : Nat) : Bool :=
  m == 0xFFFF || !(decide (1 ≤ b.objState false m) && decide (b.objState false m ≤ 3)) || b.header m 8 4 == 0 || b.header m 8 4 == vid

/-- A profile counts as defined for a vocabulary (R162, R324). -/
def Block.profileFor (b : Block) (p vid : Nat) : Bool :=
  let set := fun (o : Bool) => b.scrTokenSet p o == 0 || (((b.matcherSet (b.scrTokenSet p o)).map (fun i => iu i 8 4 == vid)).getD true)
  b.profFlag p 0 && (b.tpl p 0 4 == 0 || b.tpl p 0 4 == vid)
  && b.modelSuits (b.scrModel p false false) vid && b.modelSuits (b.scrModel p false true) vid && b.modelSuits (b.scrModel p true false) vid
  && b.modelSuits (b.scrModel p true true) vid && b.modelSuits (b.deepModel p false) vid && b.modelSuits (b.deepModel p true) vid
  && set false && set true

/-- The admission checks in their order (R101): 0 or the reason. -/
def Block.admitCheck (b : Block) (d : List Byte) : Nat :=
  let g := lefld d
  if b.descBad d then 0x35
  else match b.vocab (g 13 1) with
    | none => 0x31
    | some v =>
      let vid := iu v 8 4
      if !b.profileFor (g 14 2) vid then 0x32
      else if (g 16 2 != 0 && !(((b.grammar (g 16 2)).map (fun i => iu i 8 4 == vid)).getD false)) || (g 18 2 != 0 && (b.stopSet (g 18 2)).isNone) then 0x34
      else if (List.range (g 20 1)).any (fun k =>
          !([1, 2, 3].contains (b.objState true (descAdapter d k)) && b.adp (descAdapter d k) 0 2 == g 8 2)) then 0x33
      else if g 40 4 != 0 && decide (g 40 4 < b.prof (g 14 2) 4 4 + 2 * b.fget F.TICK_PERIOD_PERIOD_US) then 0x36
      else 0

/-- A deadline from a budget (R98). -/
def Block.deadlineOf (b : Block) (us : Nat) : Nat := if us = 0 then 0 else b.clk.timeUs + us

/-- An entry leaves FREE with the fields of a NEW descriptor (R88, R98): its words, and the sequencer's side. -/
def Block.openEntry (b : Block) (e : Nat) (d : List Byte) (addr : Nat) : Block :=
  let g := lefld d
  let gen := (b.eget e E.GENERATION + 1) % 65536
  let b := { b with rq := { b.rq with table := tset b.rq.table e (List.replicate 32 0), lastAlloc := tset b.rq.lastAlloc (seqOf e) (e % 8192) },
                    lgr := { b.lgr with admitted := b.lgr.admitted + 1 } }
  let b := b.setSide e { Side.reset with promptAddr := g 48 8, promptBytes := g 56 4 }
  let grm := (Config.freeWord b.clk.free).toNat
  let b := if g 16 2 = 0 then b else { b with clk := { b.clk with free := b.clk.free + 1 } }
  let put := fun (b : Block) (p : EF × Nat) => b.eset e p.1 p.2
  [(E.STATE, 1), (E.PRIORITY, g 12 1), (E.KEEP, g 22 2 % 2), (E.GENERATION, gen), (E.TENANT, g 8 2), (E.DOMAIN, g 10 2),
   (E.ADMIT_TIME, b.clk.timeUs), (E.DEADLINE, b.deadlineOf (g 40 4)), (E.VOCAB, g 13 1), (E.PROFILE, g 14 2), (E.GRAMMAR, g 16 2),
   (E.STOPSET, g 18 2), (E.ADAPTER_COUNT, g 20 1), (E.ADAPTER0, descAdapter d 0), (E.ADAPTER1, descAdapter d 1), (E.ADAPTER2, descAdapter d 2),
   (E.ADAPTER3, descAdapter d 3), (E.MODEL_EPOCH, b.fget F.RQT_CTRL_MODEL_EPOCH), (E.GRM_STACK, if g 16 2 = 0 then 0 else grm), (E.MAX_NEW, g 44 4),
   (E.PAGE_HEAD, noPage), (E.PAGE_TAIL, noPage), (E.PAGE_SIZE, b.fget F.PG_CTRL_PAGE_SIZE), (E.HANDLE, g 0 8), (E.DESC, addr),
   (E.UNIT_HEAD, 0xFFFFFFFF)].foldl put b

/-- A NEW descriptor claimed by sequencer n (R98, R99, R101): the block, and the result's entry, generation and code. -/
def Block.claimNew (b : Block) (n : Nat) (d : List Byte) (addr : Nat) : Block × Nat × Nat × Nat :=
  if b.stopCause ≠ 0 then (b.count F.RQT_CNT_A_REFUSED, 0, 0, 0x51)
  else match b.pickEntry n with
    | none => (b.count F.RQT_CNT_A_REFUSED, 0, 0, 0x50)
    | some e =>
      let code := b.admitCheck d
      let b := (b.openEntry e d addr).startTurn e
      let b := if code ≠ 0 then b.enterEnding e code else (b.eset e E.STATE 2).ownJob (b.mkJob 1 e 0)
      (b, e, b.eget e E.GENERATION, code)

/-- The prefetch of a resume is due (R145, R149): FILL, a PREFILL of the whole sequence, or nothing where the cache has not left its pool; a tier
move not yet published no longer is. -/
def Block.startPrefetch (b : Block) (e : Nat) : Block :=
  let b := b.eset e E.TTL_EXPIRY 0
  let tier := b.eget e E.TIER
  let moving := b.rq.orders.any (fun o => o.entry == e && o.gen == b.eget e E.GENERATION && o.kind == 4)
  b.modSide e (fun s =>
    let s := { (s.notDue 3).notDue 6 with failed := false, prefetchFail := false, prefetched := false }
    if tier = 3 then s.dueLast 5 else if tier ≠ 0 || moving || s.lost ≠ 0 then s.dueLast 4 else { s with prefetched := true })

/-- A TURN or CONTINUE descriptor (R95, R98, R100): applied, or stale. -/
def Block.claimResume (b : Block) (d : List Byte) (turn : Bool) : Block × Nat × Nat × Nat :=
  let g := lefld d
  let e := g 60 2
  let st := b.eget e E.STATE
  if !(st == 5 || st == 6) || b.eget e E.GENERATION ≠ g 62 2 then (b.count F.RQT_CNT_A_CTL_STALE, e, g 62 2, 0x52)
  else
    let busy := b.eget e E.RESUME_PEND = 1
    let b := (b.eset e E.DEADLINE (b.deadlineOf (g 40 4))).eset e E.MAX_NEW (g 44 4)
    let b := if busy then b else b.startPrefetch e
    let b := b.modSide e (fun s => { s with turnStart := s.seqLen })
    let b := if turn then
        let b := (((b.eset e E.STATE 2).eset e E.ADMIT_TIME b.clk.timeUs).eset e E.RELEASE_TIME 0).eset e E.RESUME_PEND 0
        let b := b.eset e E.END_REASON 0
        let b := b.modSide e (fun s => { s with isTurn := true, promptAddr := g 48 8, promptBytes := g 56 4 })
        (b.startTurn e).ownJob (b.mkJob 1 e 0)
      else b.eset e E.RESUME_PEND 1
    (b, e, g 62 2, 0)

/-- The prompts the configuration screens at once (R5). -/
def Block.promptMax (b : Block) : Nat :=
  let c := b.fget F.STA_IDENT_CONFIG
  if c ≤ 1 then 1024 else if c = 2 then 2048 else 4096

/-- The offset of the next descriptor of the admission ring, and the descriptor (R94). -/
def Block.admNext (b : Block) : Nat × List Byte :=
  let off := b.fget F.RQT_ADM_RING_BASE + 64 * (b.rq.admTaken % 2 ^ b.fget F.RQT_ADM_RING_SIZE_LOG2)
  (off, b.rd0 off 64)

/-- The next descriptor waits in the ring: as many prompts as R5 allows are in input screening, and it is not a CONTINUE (log 25). -/
def Block.admHeld (b : Block) : Bool := lefld b.admNext.2 21 1 != 2 && decide (b.promptMax ≤ b.inStates [2])

/-- The next descriptor of the admission ring claimed (R94, R96, R99). -/
def Block.claimAdmission (b : Block) : Block :=
  let n := b.rq.admTaken
  if !b.serves || b.fget F.RQT_ADM_DB_POSTED ≤ n || b.admHeld then b
  else
    let slot := n % 2 ^ b.fget F.RQT_ADM_RING_SIZE_LOG2
    let (off, d) := b.admNext
    let b := { b with rq := { b.rq with admTaken := n + 1 } }
    let kind := lefld d 21 1
    let r := if kind = 1 ∨ kind = 2 then b.claimResume d (kind = 1) else b.claimNew (n % 8) d (b.own0 off)
    let v := r.2.1 + r.2.2.1 * 65536 + r.2.2.2 * 2 ^ 32
    let res := b.fget F.RQT_ADM_RES_BASE + 8 * slot
    let b := (r.1.noteMirror (privAddr 6 slot) (leBytes 8 v)).announce (b.own0 res) v none (n % 8) 0
    b.announceReg F.RQT_ADM_TAKEN_TAKEN (n + 1)

/-- CANCEL_CLASS of pending cancellations (R109). -/
def cancelClass (l : List (Nat × Nat)) : Nat :=
  if l.any (fun c => c.1 == 1) then 1 else ((l.head?).map (·.1)).getD 0

/-- A cancellation claimed (R107 to R109). -/
def Block.claimCancel (b : Block) (e cls : Nat) : Block :=
  let b := b.modSide e (fun s => { s with cancels := s.cancels ++ [(cls, b.clk.timeUs)], pause := false,
                                          bargeLate := s.bargeLate || (cls == 1 && s.acceptDone && !b.clk.published) })
  (b.eset e E.CANCEL_PEND 1).eset e E.CANCEL_CLASS (cancelClass (b.side e).cancels)

/-- The next control record claimed (R97, R100). -/
def Block.claimControl (b : Block) : Block :=
  let n := b.rq.ctlTaken
  if !b.serves || b.fget F.RQT_CTL_DB_POSTED ≤ n then b
  else
    let d := b.rd0 (b.fget F.RQT_CTL_RING_BASE + 8 * (n % 2 ^ b.fget F.RQT_CTL_RING_SIZE_LOG2)) 8
    let b := { b with rq := { b.rq with ctlTaken := n + 1 } }
    let e := lefld d 0 2
    let cls := lefld d 4 1
    let kind := lefld d 5 1
    let st := b.eget e E.STATE
    let stale := decide (1 < kind) || (kind == 0 && decide (3 < cls)) || lefld d 6 2 != 0 || b.eget e E.GENERATION != lefld d 2 2
      || (if kind = 1 then st != 4 else st == 0 || st == 7)
    let b := if stale then b.count F.RQT_CNT_A_CTL_STALE
      else if kind = 1 then b.modSide e (fun s => { s with pause := true })
      else b.claimCancel e cls
    b.announceReg F.RQT_CTL_TAKEN_TAKEN (n + 1)

/-- A counter register raised by the surroundings (R381). -/
def Block.raiseCounter (b : Block) (f : Fld) (n : Nat) : Block :=
  match b.counterAdd .portA f.off n with
  | .ok r => r.2
  | .error _ => b

/-- ADM_DOORBELL (R94). -/
def execAdmDoorbell (count : Nat) (s : State) : Host.Outcome State Fault Refusal :=
  s.run (fun b => b.raiseCounter F.RQT_ADM_DB_POSTED count)
/-- CTL_DOORBELL (R94). -/
def execCtlDoorbell (count : Nat) (s : State) : Host.Outcome State Fault Refusal :=
  s.run (fun b => b.raiseCounter F.RQT_CTL_DB_POSTED count)
/-- PUNNET_TAKEN (R181). -/
def execPunnetTaken (count : Nat) (s : State) : Host.Outcome State Fault Refusal :=
  s.run (fun b => b.raiseCounter F.TOK_PUN_TAKEN_TAKEN count)
/-- LOG_TAKEN (R334): staged records drain into the room. -/
def execLogTaken (count : Nat) (s : State) : Host.Outcome State Fault Refusal :=
  s.run (fun b => (b.raiseCounter F.VRD_LOG_TAKEN_TAKEN count).logPump)
/-- REPORT_TAKEN (R424). -/
def execReportTaken (count : Nat) (s : State) : Host.Outcome State Fault Refusal :=
  s.run (fun b => b.raiseCounter F.MGT_RPT_TAKEN_TAKEN count)
/-- ADMISSION_CLAIM (R98). -/
def execAdmissionClaim (s : State) : Host.Outcome State Fault Refusal := s.run (fun b => b.claimAdmission)
/-- CONTROL_CLAIM (R97). -/
def execControlClaim (s : State) : Host.Outcome State Fault Refusal := s.run (fun b => b.claimControl)

/-- The input screen of an entry. -/
def Block.inputScreen (b : Block) (e : Nat) : Option Screen := (b.side e).screens.find? (fun s => !s.output)

/-- The input verdict posted now (R73 to R75, R329, R331). `forced` posts INDETERMINATE with FAULT (R347, R510). -/
def Block.postInput (b : Block) (e : Nat) (forced : Bool) : Block :=
  let s := (b.inputScreen e).getD (Screen.new 0 false false 0 0 0 [] [] 0)
  let none_ := s.verdict.isNone
  let v := if forced then 3 else s.verdict.getD 3
  let s := { s with overrun := s.overrun || none_, fault := s.fault || forced }
  let b := if none_ then b.count F.TICK_CNT_C_IN_INDET else b
  let r := b.logVerdict e s v s.ids
  let v := r.2
  let b := (r.1.countVerdict false v).dropScreenItems (if (b.inputScreen e).isSome then [s.id] else [])
  let b := b.modSide e (fun x => { x with screens := x.screens.filter (·.output), tokWait := false })
  if v = 0 then (b.eset e E.STATE 3).modSide e (fun x => x.dueLast 1)
  else (b.enterEnding e (if v = 2 then 0x20 else if v = 1 then 0x21 else 0x22)).unpinAll e

/-- VERDICT_RELEASE (R73): the release time of an entry in SCREEN_IN is reached; the place in the 5 µs is free (log 3). Nothing is posted
while its sequencer is halted (R347). Where tokenization has not completed by admission plus DELAY_US, that instant is the release time (R165). -/
def execVerdictRelease (entry : Nat) (s : State) : Host.Outcome State Fault Refusal :=
  s.run (fun b =>
    if !b.serves || b.eget entry E.STATE ≠ 2 || b.seqHalted (seqOf entry) then b
    else
      let b := if b.eget entry E.RELEASE_TIME ≠ 0 then b
        else b.eset entry E.RELEASE_TIME (b.eget entry E.ADMIT_TIME + b.prof (b.eget entry E.PROFILE) 4 4)
      (b.advance (b.eget entry E.RELEASE_TIME + Config.releaseDelay entry (b.eget entry E.ADMIT_TIME) % 6)).postInput entry false)

end Sys2Proof.Machine
end

