-- ==== Sys2Proof/Machine/Ledger.lean ====
section
/-! DEFINITION. The ledger and tick class of NSI (R363 to R368): waiting for a tick point, queueing items and draft
work, the page ledger, and the checks of R150 to R153. -/
namespace Sys2Proof.Machine
open Sys2Proof

/-- The encoding rules of R363. -/
def tickEnc (w : NsiBody) : Bool := !nfX w && nf w 30 1 == 0 && nf w 47 17 == 0
def tickImm (w : NsiBody) : Nat := nf w 31 16

/-- A tick point is reached: every TWAIT for it completes (R363). -/
def Block.atPoint (b : Block) (p : Nat) : Block :=
  { b with rm := { b.rm with execs := b.rm.execs.map (fun k => match k.2.blocked with
    | .tick q rd => if q = p then (k.1, { (k.2.ws rd (BitVec.ofNat 64 b.tick)) with blocked := .no }) else k
    | _ => k) } }

/-- TWAIT (R363). -/
def execNsiTwait (x : ExecId) (w : NsiBody) (_ext : BitVec 64) (s : State) : Host.Outcome State Fault Refusal :=
  s.run (fun b => b.issue x w (tickEnc w) (isSeq x) (fun e =>
    if 5 < tickImm w then b.raise x w 1 0
    else b.done x w { e with blocked := .tick (tickImm w) (nf w 15 5) }))

/-- The answer to an ENQ record (R364): the order of the codes is log 21's. -/
def Block.enqCheck (b : Block) (d : List Byte) : Nat :=
  let g := lefld d
  let m := g 2 2
  if g 0 1 == 0 || decide (5 < g 0 1) || decide (1 < g 1 1) || g 21 1 != 0 || !allZero (d.drop 52) then ansBad
  else if !b.modelThere m then ansAbsent
  else if classKind (g 0 1) ≠ some (b.header m 6 1) then ansBad
  else if 65536 ≤ (b.cp.items.filter (fun t => t.cls == g 0 1)).length then ansBusy
  else ansOk

/-- The item of an ENQ record. -/
def Block.enqItem (b : Block) (d : List Byte) (a : Nat) : Block :=
  let g := lefld d
  let e := g 4 2
  let n := g 16 4 + b.catchUp e (g 2 2) (b.turnBefore e none)
  let t : Item :=
    { id := b.rq.nextItem, cls := g 0 1, model := g 2 2, entry := e, gen := g 6 2, deadline := g 8 8, tokens := n, prio := g 20 1,
      profile := g 22 2, input := g 24 8, output := g 32 8, done := g 40 8, tag := g 48 4, retry := g 1 1 == 1, screen := none, part := 0,
      admitAt := b.eget e E.ADMIT_TIME, sloe := false, begun := false, suspended := false, spent := 0, clusters := [], failed := false,
      catchUp := n - g 16 4, record := a, since := 0 }
  ({ b with rq := { b.rq with nextItem := b.rq.nextItem + 1 } }).addItem t

/-- ENQ (R364): the status in rd, and the item queued where it is accepted. -/
def execNsiEnq (x : ExecId) (w : NsiBody) (_ext : BitVec 64) (s : State) : Host.Outcome State Fault Refusal :=
  s.run (fun b => b.issue x w (tickEnc w) (isSeq x) (fun e =>
    if e.acquiring then b else
    let a := (e.rs (nf w 20 5)).toNat
    let d := b.recordAt a
    let st := (d.map b.enqCheck).getD ansBad
    let b := if st = 0 then b.enqItem (d.getD []) a else b
    b.done x w (e.ws (nf w 15 5) (BitVec.ofNat 64 st))))

/-- The code LATE of R363. -/
def ansLate : Nat := 5

/-- The answer to a DPASS record (R366). -/
def Block.dpassCheck (b : Block) (d : List Byte) : Nat :=
  let g := lefld d
  let kind := g 0 1
  let pass := g 1 1
  if decide (1 < kind) || (if kind = 1 then pass == 0 || decide (6 < pass) else pass != 0) || g 4 4 == 0 || decide (8192 < g 4 4)
    || !allZero (d.drop 28) then ansBad
  else if !b.modelThere (g 2 2) then ansAbsent
  else if b.header (g 2 2) 6 1 ≠ 0 then ansBad
  else if b.clk.cutOff then ansLate
  else ansOk

/-- The head of the draft queue starts on every cluster (R366, R370); what runs there is suspended (R66), and before pass 1 the draft caches of its
streams are compacted (R218). -/
def Block.startDraft (b : Block) : Block :=
  match b.cp.dpass with
  | [] => b
  | j :: _ =>
    let b := if j.warm || j.pass ≠ 1 then b else (b.draftSet.filter (fun e => b.draftModel e == some j.model)).foldl (fun b e => b.compactDraft e) b
    b.clusters.foldl (fun b c => b.startKernel c j.model j.record (if j.warm then 3 else 0) none true) b.suspendAll

/-- A draft pass or warm-up queued; the tick's first begins Draft (R66). -/
def Block.queueDraft (b : Block) (d : List Byte) (a seq : Nat) : Block :=
  let g := lefld d
  let b := { b with clk := { b.clk with draftBegun := true } }
  let idle := b.cp.dpass.isEmpty
  let j : DPassJob := { warm := g 0 1 == 0, pass := g 1 1, model := g 2 2, done := g 16 8, tag := g 24 4, seq := seq, record := a, failed := false }
  let b := { b with cp := { b.cp with dpass := b.cp.dpass ++ [j] } }
  if idle then b.startDraft else b

/-- DPASS (R366): the status in rd, and the work queued where it is accepted. -/
def execNsiDpass (x : ExecId) (w : NsiBody) (_ext : BitVec 64) (s : State) : Host.Outcome State Fault Refusal :=
  s.run (fun b => b.issue x w (tickEnc w) (isSeq x) (fun e =>
    if e.acquiring then b else
    let a := (e.rs (nf w 20 5)).toNat
    let d := b.recordAt a
    let st := (d.map b.dpassCheck).getD ansBad
    let b := b.done x w (e.ws (nf w 15 5) (BitVec.ofNat 64 st))
    if st = 0 then b.queueDraft (d.getD []) a (xid x) else b))

/-- LPG (R367): one side of a page move, modulo 2^28. -/
def execNsiLpg (x : ExecId) (w : NsiBody) (_ext : BitVec 64) (s : State) : Host.Outcome State Fault Refusal :=
  s.run (fun b => b.issue x w (tickEnc w) (isSeq x) (fun e =>
    let st := tickImm w % 8
    if 15 < tickImm w ∨ 4 < st then b.raise x w 1 0
    else
      let n := (e.rs (nf w 20 5)).toNat % 2 ^ 28
      let old := b.lgr.pages.getD st 0
      let new := if (tickImm w).testBit 3 then (old + n) % 2 ^ 28 else (old + 2 ^ 28 - n) % 2 ^ 28
      b.done x w e |> (fun b => { b with lgr := { b.lgr with pages := b.lgr.pages.set st new } })))

/-- The identities of R90 that an entry breaks: bit 1 drafted, bit 2 sampled tokens. -/
def Block.entryFault (b : Block) (e : Nat) : Nat :=
  (if b.eget e E.DRAFTED = b.eget e E.ACCEPTED + b.eget e E.REJECTED then 0 else 2)
  + (if b.eget e E.GENERATED = b.eget e E.COMMITTED + b.eget e E.HELD + b.eget e E.DISCARDED + b.eget e E.BLOCKED then 0 else 4)

/-- The per-request check of one slice (R368). -/
def Block.checkSlice (b : Block) (n : Nat) : Block :=
  let bad := b.live.filter (fun e => seqOf e == n && b.entryFault e != 0)
  match bad.head? with
  | none => b
  | some e =>
    let kinds := bad.foldl (fun k e => k ||| b.entryFault e) 0
    { b with lgr := { b.lgr with
        reqFault := true
        fault := b.lgr.fault ||| kinds
        culprit := if b.lgr.reqFault then min b.lgr.culprit e else e } }

/-- Links whose credit identity fails (R150, R435), summed over both virtual channels. -/
def Link.creditsOk (k : Link) : Bool :=
  k.held.1 + k.inflight.1 + k.peer.1 + (k.held.2 + k.inflight.2 + k.peer.2) == k.grant.1 + k.grant.2
def Block.creditFaults (b : Block) : List Nat := (b.io.links.filter (fun p => p.2.state != 4 && !p.2.creditsOk)).map (·.1)

/-- The LGR registers at a tick check (R155, R520). -/
def Block.showLedger (b : Block) : Block :=
  let p := fun (i : Nat) => b.lgr.pages.getD i 0
  let put := fun (b : Block) (x : Fld × Nat) => b.fset x.1 x.2
  [(F.LGR_PG_A_FREE, p 0), (F.LGR_PG_A_OWNED, p 1), (F.LGR_PG_B_PREFIX, p 2), (F.LGR_PG_B_TRANSFER, p 3), (F.LGR_PG_C_RETIRED, p 4),
   (F.LGR_PG_C_TOTAL, b.fget F.PG_TOTAL_TOTAL), (F.LGR_RQ_ADM_ADMITTED, b.lgr.admitted), (F.LGR_RQ_END_ENDED, b.lgr.ended),
   (F.LGR_RQ_LIVE_ACTIVE, b.inStates [1, 2, 3, 4, 7]), (F.LGR_RQ_LIVE_PAUSED, b.inStates [5, 6])].foldl put b

/-- The evidence record of R152: the LGR registers, the culprit's entry, the page records of its list from the tail. -/
def Block.evidence (b : Block) (culprit : Nat) (perEntry : Bool) : List Byte :=
  let regs := (List.range 7).flatMap (fun i => leBytes 8 (b.reg (0x0380 + 8 * i)).toNat)
  let ent := if perEntry then entryBytes (b.entry culprit) else zeros 256
  let pages := if perEntry then ((b.pageList culprit).reverse.take 256).flatMap (fun p => leBytes 8 (b.pageRec p)) else []
  (padTo (regs ++ ent ++ pages) 4096).take 4096

/-- The tick check (R151, R153). -/
def Block.tickCheck (b : Block) : Block :=
  let pages := b.lgr.pages.foldl (· + ·) 0 != b.fget F.PG_TOTAL_TOTAL
  let reqs := b.lgr.admitted != b.inStates [1, 2, 3, 4, 7] + b.inStates [5, 6] + b.lgr.ended
  let links := b.creditFaults
  let fault := (if pages then 1 else 0) + (if reqs then 16 else 0) + (if links.isEmpty then 0 else 8) + (if b.lgr.reqFault then b.lgr.fault else 0)
  let culprit := if b.lgr.reqFault then b.lgr.culprit else links.getLast?.getD 0xFFFF
  let b := ({ b with lgr := { b.lgr with checked := true } }).showLedger
  if fault ≠ 0 then
    let b := b.setReg 0x03B0 (b.reg 0x03B0 ||| BitVec.ofNat 64 fault)
    let b := { b with lgr := { b.lgr with stopped := true } }
    let b := if b.fget F.LGR_FAULT_FROZEN = 0 then
        let b := b.keepLow 0x5000 (b.evidence culprit b.lgr.reqFault)
        ((b.fset F.LGR_FAULT_FROZEN 1).fset F.LGR_FAULT_INDEX culprit).fset F.LGR_FAULT_TICK b.tick
      else b
    b.report 3 1 ((b.reg 0x03B0).toNat % 32 + b.fget F.LGR_FAULT_INDEX * 65536)
  else if (b.reg 0x03B0).toNat % 32 = 0 then { b with lgr := { b.lgr with stopped := false } }
  else b

/-- LPHASE (R368): the sequencer's Accept or Publish work is complete; the tick check runs with the last LPHASE 1. -/
def execNsiLphase (x : ExecId) (w : NsiBody) (_ext : BitVec 64) (s : State) : Host.Outcome State Fault Refusal :=
  s.run (fun b => b.issue x w (tickEnc w) (isSeq x) (fun e =>
    if 1 < tickImm w then b.raise x w 1 0
    else
      let n := xid x
      let b := (b.done x w e).checkSlice n
      if tickImm w = 0 then { b with lgr := { b.lgr with phase0 := n :: b.lgr.phase0 } }
      else
        let b := { b with lgr := { b.lgr with phase1 := n :: b.lgr.phase1 } }
        if !b.lgr.checked && (List.range 8).all (fun k => b.seqHalted k || b.lgr.phase1.contains k) then b.tickCheck else b))

end Sys2Proof.Machine
end

