-- ==== Sys2Proof/Machine/Intake.lean ====
section
/-! DEFINITION. Intake (R37, R58): step results, prefill results and order completions shown at intake close (R124 to
R127, R223, R225), write-offs, and registration (R138). -/
namespace Sys2Proof.Machine
open Sys2Proof

/-- A result record as read (R223). -/
def resultOf (l : List Byte) (pool : Nat) : Result where
  kind := lefld l 0 1
  status := lefld l 1 1
  pathLen := lefld l 2 1
  path := ((l.drop 16).take (min 6 (lefld l 2 1))).map BitVec.toNat
  ref := lefld l 8 4
  own := lefld l 12 4
  failedIndex := lefld l 24 4
  crcOk := crcHolds l
  pool := pool

/-- A result that names no outstanding step (R225). -/
def Block.strayResult (b : Block) (pool : Nat) : Block := (b.count F.SPC_CNT_A_MALFORMED).report 6 1 pool

/-- Pieces of an entry's vocabulary. -/
def Block.piecesOf (b : Block) (e : Nat) : Nat := ((b.vocab (b.eget e E.VOCAB)).map vocPieces).getD 0

/-- The first sampled token of a PREFILL result (R98, R126): STATUS 0, no REBUILD, the order still without a completion. -/
def Block.takePrefill (b : Block) (o : Order) (r : Result) (entry gen : Nat) : Block :=
  let owned := if o.rebuild then r.own == 0xFFFFFFFF else decide (r.own < b.piecesOf o.entry)
  let ok := r.crcOk && entry == o.entry && gen == o.gen && r.pathLen == 0 && r.pool == o.src && (r.status != 0 || owned)
  let b := b.endOrder o (if ok then r.status else 4) r.failedIndex false
  if ok && r.status == 0 && !o.rebuild && b.orderLive o then
    b.modSide o.entry (fun s => { s with firstTok := some r.own, lastPool := o.src, regDue := s.regDue || s.newPages.isEmpty })
  else b

/-- One result record taken in. -/
def Block.takeResult (b : Block) (pool : Nat) (l : List Byte) : Block :=
  let r := resultOf l pool
  let e := lefld l 4 2
  let gen := lefld l 6 2
  if r.kind = 1 then
    match b.rq.orders.find? (fun o => o.seq == r.ref && o.kind == 1) with
    | some o => b.takePrefill o r e gen
    | none => b.report 2 2 (r.ref + pool * 2 ^ 32)
  else if b.eget e E.STATE = 0 || b.eget e E.GENERATION ≠ gen then b.strayResult pool
  else b.modSide e (fun s => { s with results := s.results ++ [r] })

/-- The results a pool's completion counter shows (R58, R223). -/
def Block.intakePool (b : Block) (far : List FarRead) (q : Pool) : Block :=
  match tget b.rq.spcPools q.num, b.unitRead far q.compCtr 8 with
  | some (_, _, ring, log2), .ok c =>
    if q.kind = 0 || q.compCtr = 0 || ring = 0 then b
    else
      let seen := tgetD b.rq.seen q.num 0
      let shown := leNat c
      let n := min (shown - seen) (2 ^ log2)
      let b := (List.range n).foldl (fun b i =>
        let l := match b.unitRead far (ring + (seen + i) % 2 ^ log2 * 32) 32 with
          | .ok l => l
          | .error _ => zeros 32
        b.takeResult q.num l) b
      { b with rq := { b.rq with seen := tset b.rq.seen q.num (max seen shown) } }
  | _, _ => b

/-- The completion slot of an order. -/
def Block.doneSlot (b : Block) (seq : Nat) : List Byte := b.rd0 (b.fget F.PG_DONE_BASE_BASE + seq % 65536 * 16) 16

/-- A completion record matches its format (R124): reserved bytes 0, a code of the table. -/
def doneStatus (l : List Byte) : Nat :=
  if decide (4 < lefld l 4 1) || lefld l 5 3 != 0 || lefld l 12 4 != 0 then 4 else lefld l 4 1

/-- The completions of the orders other than PREFILL (R124). -/
def Block.intakeOrders (b : Block) : Block :=
  b.rq.orders.foldl (fun b o =>
    let l := b.doneSlot o.seq
    if o.kind ≠ 1 && lefld l 0 4 = o.seq then b.endOrder o (doneStatus l) (lefld l 8 4) false else b) b

/-- Completion slots that hold a byte, ascending. -/
def Block.slotsHeld (b : Block) : List Nat :=
  let base := b.fget F.PG_DONE_BASE_BASE
  ((b.mem.stack.filter (fun c => decide (base ≤ c.1) && decide (c.1 < base + 2 ^ 20))).map (fun c => (c.1 - base) / 16)).foldl
    (fun r i => if r.getLast? = some i then r else r ++ [i]) []

/-- A completion record that was not there at the last Intake and whose ORDER_SEQ names no order still without a completion (R126): reported, with the
pool of the order that used its slot last; for an order never published there the pool is free (log 2). -/
def Block.strayDone (before : List Order) (b : Block) (i : Nat) : Block :=
  let l := b.doneSlot i
  let s := (tget b.rq.slots i).getD (0, 0, zeros 16)
  if s.2.2 = l then b
  else
    let b := { b with rq := { b.rq with slots := tset b.rq.slots i (s.1, s.2.1, l) } }
    let seq := lefld l 0 4
    if before.any (fun o => o.seq == seq) then b
    else if s.1 = seq + 1 then b.report 2 2 (seq + s.2.1 * 2 ^ 32)
    else
      let r := b.free
      r.2.report 2 2 (seq + r.1.toNat % 256 * 2 ^ 32)

/-- The stray records of this Intake. -/
def Block.intakeStray (b : Block) (before : List Order) : Block := b.slotsHeld.foldl (Block.strayDone before) b

/-- Orders without a completion at the Intake of the fourth tick after theirs (R127). -/
def Block.writeOffOrders (b : Block) : Block :=
  (b.rq.orders.filter (fun o => decide (o.tick + 4 ≤ b.tick))).foldl (fun b o => (b.endOrder o 4 0 true).report 2 1 (o.seq + o.src * 2 ^ 32)) b

/-- Pages are registered for the entries whose TRANSFER has completed, or whose first token no TRANSFER follows, the lowest index first (R138, R149). -/
def Block.registerAll (b : Block) : Block :=
  (b.live.filter (fun e => (b.side e).regDue)).foldl (fun b e =>
    (if b.eget e E.STATE = 7 then b else b.registerPages e).modSide e (fun s => { s with regDue := false })) b

/-- INTAKE_CLOSE (R58): each pool's completion counter is read once, and what it shows is taken in. -/
def Block.intake (b : Block) (far : List FarRead) : Block :=
  if !b.serves || !b.clk.ticking || b.clk.intakeClosed then b
  else
    let b := b.advanceTick (b.fget F.TICK_BUDGET_INTAKE_US)
    let before := b.rq.orders
    let b := b.rq.pools.foldl (fun b q => b.intakePool far q) b.warmOrders
    let b := ((b.intakeOrders.intakeStray before).writeOffOrders).registerAll
    ({ b with clk := { b.clk with intakeClosed := true } }).atPoint 1

/-- INTAKE_CLOSE (R58). -/
def execIntakeClose (far : List FarRead) (s : State) : Host.Outcome State Fault Refusal := s.run (fun b => b.intake far)

end Sys2Proof.Machine
end

