-- ==== Sys2Proof/Machine/Accept.lean ====
section
/-! DEFINITION. Accept for one entry (R37, R41 to R44, R59): cancellations and deadlines (R102, R103, R107 to R109), output verdicts
(R76, R77, R104, R329), step results (R199, R200, R224 to R233), write-offs (R111), ends, pauses and resumes (R98). -/
namespace Sys2Proof.Machine
open Sys2Proof

/-- Cancellations that apply at this Accept (R107 to R109). -/
def Block.applyCancel (b : Block) (e : Nat) : Block :=
  let st := b.eget e E.STATE
  let all := (b.side e).cancels
  let app := all.filter (fun c => decide (c.2 < b.intakeTime))
  let barge := all.any (fun c => c.1 == 1)
  if st = 0 || st = 7 || (app.isEmpty && !barge) then b
  else
    let cls := if barge then 1 else cancelClass app
    let b := if st = 2 then b.logCancelled e cls else b
    let b := ((b.eset e E.CANCEL_CLASS cls).eset e E.CANCEL_PEND 0).modSide e (fun s => { s with cancels := [], turnEnd := false })
    b.endHard e (0x10 + cls)

/-- The deadline of a request passes (R103). -/
def Block.applyDeadline (b : Block) (e : Nat) : Block :=
  let st := b.eget e E.STATE
  let d := b.eget e E.DEADLINE
  let governs := decide (2 ≤ st ∧ st ≤ 4) || ((st == 5 || st == 6) && b.eget e E.RESUME_PEND == 1)
  if !governs || d = 0 || b.intakeTime < d then b
  else
    let b := if st = 2 then b.logCancelled e 0x14 else b
    (b.modSide e (fun s => { s with turnEnd := false })).endHard e 0x14

/-- The reason of an output verdict other than PASS (R104, R331). -/
def outReason (v : Nat) : Nat := if v = 2 then 0x23 else if v = 1 then 0x24 else 0x25

/-- A request is blocked (R104): covered tokens blocked, every other held token discarded; the reason replaces an earlier one. -/
def Block.blockOutput (b : Block) (e : Nat) (s : Screen) (v : Nat) : Block :=
  let n := ((b.side e).toks.filter (fun t => t.item == s.id)).length
  let b := (b.esub e E.HELD n).eadd e E.BLOCKED n
  let b := b.modSide e (fun x => { x with turnEnd := false })
  if b.eget e E.STATE = 7 then (b.discardHeld e).eset e E.END_REASON (outReason v) else b.endHard e (outReason v)

/-- The verdict of an output item applied, with its log record and the matcher states it ends in (R327, R329). -/
def Block.applyOutput (b : Block) (e : Nat) (s : Screen) (v : Nat) : Block :=
  let r := b.logVerdict e s v s.toks
  let v := r.2
  let b := (r.1.countVerdict true v).modSide e (fun x => { x with screens := x.screens.filter (fun c => c.id != s.id) })
  let keep := fun (b : Block) (o : Nat) (m : Option MatchRes) => match m with
    | some k => if k.status = 0 then b.w0m (b.mstate e + o) 4 k.endState else b
    | none => b
  let b := keep (keep b 0 s.bset) 4 s.tset
  if v = 0 then b.modSide e (fun x => { x with toks := x.toks.map (fun (t : HeldTok) => if t.item = s.id then { t with pass := true } else t) })
  else b.blockOutput e s v

/-- The deadline of an output item queued or begun at an Accept (R68). -/
def Block.outDeadline (b : Block) : Nat := b.clk.bndUs + b.fget F.TICK_PERIOD_PERIOD_US - b.fget F.TICK_MON_GUARD_US

/-- An output item misses its deadline the first time (R76): its text is held a tick longer, and its work goes on. -/
def Block.holdOutput (b : Block) (e : Nat) (s : Screen) : Block :=
  let b := (b.count F.TICK_CNT_B_OUT_OVR).evt F.TICK_EVT_OUT_OVR
  let d := b.outDeadline
  let b := b.modScreen e s.id (fun c => { c with late := true, deadline := d })
  let covered := fun (x : Side) (c : HeldChar) => x.toks.any (fun t => t.item == s.id && c.of t.ord)
  let b := b.modSide e (fun x => { x with chars := x.chars.map (fun (c : HeldChar) => if covered x c then { c with late := true } else c) })
  let b := { b with cp := { b.cp with items := b.cp.items.map (fun (t : Item) => if t.screen = some s.id then { t with deadline := d } else t) } }
  let model := b.scrModel (b.eget e E.PROFILE) true s.sloe
  if s.stage != 0 || s.cls.st != 1 || b.cp.items.any (fun t => t.screen == some s.id) then b
  else if b.modelThere model then b.addScreenItem e s.id 2 3 model s.count d s.retried
  else b.screenAbsent e s.id

/-- One output item at an Accept after the one that made it (R329): a verdict reached by its deadline is applied; the first miss holds the text
(R76), the second is INDETERMINATE (R77). -/
def Block.acceptOutput (b : Block) (e sid : Nat) : Block :=
  match b.scr e sid with
  | none => b
  | some s =>
    match s.verdict.filter (fun _ => decide (s.reachedUs ≤ s.deadline)) with
    | some v => b.applyOutput e s v
    | none =>
      if s.late then (b.dropScreenItems [sid]).applyOutput e { s with overrun := true } 3
      else b.holdOutput e s

/-- A step is no longer outstanding. -/
def Block.closeStep (b : Block) (e : Nat) (st : Step) : Block :=
  (b.esub e E.OUTSTANDING 1).modSide e (fun s => { s with
    steps := s.steps.filter (fun t => !(t.tick == st.tick && t.compactOnly == st.compactOnly)),
    badOrders := s.badOrders.filter (fun q => some q != st.wait) })

/-- The decode pool of a request fails (R110): at the next Publish its own pages are released (R118) and the whole sequence is
dispatched again. -/
def Block.poolFailed (b : Block) (e pool : Nat) : Block :=
  ((b.eset e E.CPT_PEND 0).modSide e (fun s => { s with newPages := [] })).retryOrder e 7 0x40 [pool]

/-- A step written off (R111). -/
def Block.writeOffStep (b : Block) (e : Nat) (st : Step) : Block :=
  let b := ((b.eadd e E.DRAFTED st.n).eadd e E.REJECTED st.n).closeStep e st
  let b := b.report 1 1 (st.pool + e * 65536)
  if b.eget e E.STATE = 4 then b.poolFailed e st.pool else b

/-- PATH is one chain from the root (R224, R225). -/
def pathOk (rows : List Nat) : Option Nat → List Nat → Bool
  | _, [] => true
  | none, p :: r => rows.getD p 0 == 2 ^ p && pathOk rows (some p) r
  | some q, p :: r => rows.getD p 0 == rows.getD q 0 + 2 ^ p && !((rows.getD q 0).testBit p) && pathOk rows (some p) r

/-- A STEP or COMPACT_ONLY result is malformed for its step (R225). -/
def badResult (st : Step) (r : Result) (pieces : Nat) : Bool :=
  !r.crcOk || decide (st.d < r.pathLen) || r.path.any (fun p => decide (st.n ≤ p)) || !pathOk st.rows none r.path
  || (!st.compactOnly && r.status == 0 && decide (pieces ≤ r.own))

/-- What the walk of R199 carries: the reason of an end, a violation met, accepted nodes, the bytes that became complete. -/
structure Walk where
  blk : Block
  ended : Option Nat
  viol : Bool
  acc : Nat
  bytes : List Byte

/-- The end-of-sequence id of an entry. -/
def Block.entryEos (b : Block) (e : Nat) : Nat := ((b.vocab (b.eget e E.VOCAB)).map (fun i => iu i 24 4)).getD 0xFFFFFFFF

/-- The configuration after a token, none for a violation (R191, R199). -/
def Block.advanceCfg (b : Block) (e t : Nat) : Option Cfg :=
  match b.grmOf e with
  | none => some (b.cfgOf e)
  | some i =>
    if t = b.entryEos e then (if gAccepting i (b.cfgOf e) then some (b.cfgOf e) else none)
    else gStep i (b.entryEos e) (b.cfgOf e) t

/-- A token that is not accepted: cut away by an end, or at and after a violation. -/
def Block.cutToken (b : Block) (e : Nat) (drafted : Bool) : Block := if drafted then b.eadd e E.REJECTED 1 else b.dropToken e

/-- A violation of the grammar (R200): counted, logged, and reported once per tick and pool. -/
def Block.violation (b : Block) (e pool : Nat) : Block :=
  let b := (b.count F.GRM_CNT_B_VIOLATION).evt F.GRM_EVT_VIOLATION
  let b := b.logEvent 4 (leBytes 1 pool ++ zeros 3 ++ leBytes 2 e)
  if b.lgr.violPools.contains pool then b
  else ({ b with lgr := { b.lgr with violPools := pool :: b.lgr.violPools } }).report 5 1 (pool + e * 65536)

/-- One token of a result at Accept (R199). -/
def walkToken (e pool : Nat) (w : Walk) (t : Nat) (drafted : Bool) : Walk :=
  if w.ended.isSome || w.viol then
    let b := w.blk.cutToken e drafted
    { w with blk := if w.ended == some 2 && !drafted then b.count F.STP_CNT_A_TRUNC else b }
  else match w.blk.advanceCfg e t with
    | none => { w with blk := (w.blk.violation e pool).cutToken e drafted, viol := true }
    | some c =>
      let b := if drafted then w.blk.eadd e E.ACCEPTED 1 else w.blk
      let b := if (b.grmOf e).isSome then b.setCfg e c else b
      let b := b.seqAppend e [t]
      let h := b.holdToken e t 0
      let s := h.1.stopFeed e h.2
      let ended := if s.2 then some 2 else if t = s.1.entryEos e then some 1
        else if s.1.eget e E.MAX_NEW ≤ (s.1.side e).turn then some 3 else none
      { blk := s.1, ended := ended, viol := false, acc := w.acc + drafted.toNat, bytes := w.bytes ++ h.2 }

/-- The dead-end test that closes the walk (R199). -/
def Block.deadEnd (b : Block) (e : Nat) : Block × Option Nat :=
  match b.grmOf e with
  | none => (b, none)
  | some i =>
    if !gEmpty i (b.cfgOf e) then (b, none)
    else if gAccepting i (b.cfgOf e) then (b.count F.GRM_CNT_C_DONE, some 5)
    else (b.count F.GRM_CNT_C_EMPTY, some 4)

/-- The walk over the verified nodes and the own token. -/
def Block.walk (b : Block) (e pool : Nat) (path : List Nat) (own : Nat) : Walk :=
  let w := path.foldl (fun w t => walkToken e pool w t true) { blk := b, ended := none, viol := false, acc := 0, bytes := [] }
  let w := walkToken e pool w own false
  match w.ended with
  | some _ => w
  | none => let d := w.blk.deadEnd e; { w with blk := d.1, ended := d.2 }

/-- The tier of an estimate (R232). -/
def Block.tierOf (b : Block) (est : Nat) : Nat :=
  if b.fget F.SPC_THRESH_T_REDUCE ≤ est then 0 else if b.fget F.SPC_THRESH_T_MIN ≤ est then 1 else if b.fget F.SPC_THRESH_T_OFF ≤ est then 2 else 3

/-- The estimate, the tier and the outcome of a probe after a result with a accepted nodes of depth d (R231 to R233). -/
def Block.estimate (b : Block) (e a d : Nat) (probe : Bool) : Block :=
  let x : Int := ((65536 * a / d : Nat) : Int)
  let old : Int := (b.eget e E.EST : Int)
  let est := (old + (x - old) / ((2 ^ b.fget F.SPC_CTRL_EWMA_SHIFT : Nat) : Int)).toNat
  let b := if d = 0 then b else b.eset e E.EST est
  if b.eget e E.STIER = 3 then
    if !probe then b
    else if 1 ≤ a then (b.eset e E.EST (b.fget F.SPC_THRESH_T_MIN)).eset e E.STIER 2
    else b.eset e E.OFF_TICK b.tick
  else if d = 0 then b
  else
    let t := b.tierOf est
    let b := b.eset e E.STIER t
    if t = 3 then b.eset e E.OFF_TICK b.tick else b

/-- The request of an entry has not ended and is past its first token: DECODE, or paused (R226). -/
def Block.goesOn (b : Block) (e : Nat) : Bool := b.decoding e || b.eget e E.STATE == 5 || b.eget e E.STATE == 6

/-- A STEP result of an entry that has not ended (R226): the walk, the compaction, the estimate. -/
def Block.acceptStep (b : Block) (e : Nat) (st : Step) (r : Result) : Block × Option Nat × List Byte :=
  let root := b.r0 (b.fget F.SPC_TREE_BASE_BASE + 128 * e + 84) 4
  let b := (b.eadd e E.DRAFTED st.n).eadd e E.REJECTED (st.n - r.path.length)
  let w := b.walk e st.pool (r.path.map (fun p => st.toks.getD p 0)) r.own
  let src := ((List.range w.acc).map (fun j => r.path.getD j 0 * 2 ^ (4 * j))).foldl (· + ·) 0
  let b := if w.ended.isSome && b.eget e E.KEEP == 0 then w.blk
    else (((w.blk.eset e E.CPT_PEND 1).eset e E.CPT_BASE (root + 1)).eset e E.CPT_COUNT w.acc).eset e E.CPT_SRC src
  (((b.estimate e w.acc st.d st.probe).closeStep e st).modSide e (fun s => { s with lastPool := st.pool, compacted := false }), w.ended, w.bytes)

/-- Reasons under which held text goes on to its release (R105). -/
def softReason (r : Nat) : Bool := [1, 2, 3, 4, 5, 0x40, 0x41].contains r

/-- A STEP result of an entry that has ended: every node rejected. After an end of R105 its path is cut away and its own token discarded (R199); after
a cancellation, the deadline or a blocking verdict the tokens of path and own token count as discarded (R102, R104). The estimate is left alone
after a cancellation or the deadline (R226). -/
def Block.dropStep (b : Block) (e : Nat) (st : Step) (r : Result) : Block :=
  let b := (b.eadd e E.DRAFTED st.n).eadd e E.REJECTED st.n
  let why := b.eget e E.END_REASON
  let b := (List.range ((if softReason why then 0 else r.path.length) + 1)).foldl (fun b _ => b.dropToken e) b
  let b := if 0x10 ≤ why ∧ why ≤ 0x14 then b else b.estimate e 0 st.d st.probe
  b.closeStep e st

/-- One result taken in at this tick's Intake (R225, R226), with the end it brings and the bytes that became complete. -/
def Block.takeStep (b : Block) (e : Nat) (r : Result) : Block × Option Nat × List Byte :=
  match (if r.kind = 0 ∨ r.kind = 2 then (b.side e).steps.find? (fun s => s.tick == r.ref && s.compactOnly == (r.kind == 2)) else none) with
  | none => (b.strayResult r.pool, none, [])
  | some st =>
    if badResult st r (b.piecesOf e) then ((b.strayResult r.pool).writeOffStep e st, none, [])
    else if r.status ≠ 0 then
      if (match st.wait with
        | some q => (b.side e).badOrders.contains q
        | none => false) then
        let b := b.closeStep e st
        (if st.cpt && b.goesOn e then b.eset e E.CPT_PEND 1 else b, none, [])
      else (b.writeOffStep e st, none, [])
    else if st.compactOnly then (b.closeStep e st, none, [])
    else if b.goesOn e then b.acceptStep e st r
    else (b.dropStep e st r, none, [])

/-- The first sampled token of a dispatch (R98): DECODE, the estimate of a stream's first turn, and the token under R199. -/
def Block.takeFirst (b : Block) (e : Nat) : Block × Option Nat × List Byte :=
  let s := b.side e
  match s.firstTok with
  | none => (b, none, [])
  | some t =>
    let b := b.modSide e (fun s => { s with firstTok := none })
    let st := b.eget e E.STATE
    if st ≠ 3 && !b.goesOn e then (b.dropToken e, none, [])
    else
      let b := if st = 3 then (b.eset e E.STATE 4).eset e E.END_REASON 0 else b
      let b := if st = 3 && !s.isTurn then (b.eset e E.EST (b.fget F.SPC_THRESH_T_REDUCE)).eset e E.STIER 0 else b
      let w := (b.modSide e (fun s => { s with prefetched := false })).walk e s.lastPool [] t
      (w.blk, w.ended, w.bytes)

/-- Every result of an entry taken in at this tick, in order; a later one finds the entry as the earlier one left it. -/
def Block.takeResults (b : Block) (e : Nat) : Block × Option Nat × List Byte :=
  let f := b.takeFirst e
  let rs := (f.1.side e).results
  rs.foldl (fun (p : Block × Option Nat × List Byte) r =>
    let q := p.1.takeStep e r
    (q.1, (match p.2.1 with | some x => some x | none => q.2.1), p.2.2 ++ q.2.2)) (f.1.modSide e (fun s => { s with results := [] }), f.2)

/-- The output item of this Accept (R326): the tokens counted and still held, and the bytes that became complete. -/
def Block.newOutput (b : Block) (e ord pos : Nat) (bytes : List Byte) : Block :=
  let ts := (b.side e).toks.filter (fun t => decide (ord ≤ t.ord))
  if ts.isEmpty then b
  else
    let sid := b.rq.nextItem
    let b := { b with rq := { b.rq with nextItem := sid + 1 } }
    let s := Screen.new sid true false pos ts.length ord (ts.map (·.id)) bytes b.outDeadline
    let b := b.modSide e (fun x => { x with
      screens := x.screens ++ [s], toks := x.toks.map (fun (t : HeldTok) => if ord ≤ t.ord then { t with item := sid } else t) })
    b.startScreen e sid

/-- A resume whose prefetch is complete or has failed (R98, R145), and times to live that end (R142). -/
def Block.acceptPaused (b : Block) (e : Nat) : Block :=
  let s := b.side e
  let st := b.eget e E.STATE
  let paused := st == 5 || st == 6
  if s.prefetchFail && (paused || st == 3) then (b.modSide e (fun s => { s with prefetchFail := false, turnEnd := false })).endHard e 0x43
  else if paused && b.eget e E.RESUME_PEND = 1 && s.prefetched then
    ((((b.eset e E.STATE 4).eset e E.RESUME_PEND 0).eset e E.END_REASON 0).modSide e (fun s => { s with prefetched := false }))
  else if paused && b.eget e E.RESUME_PEND = 0 && b.eget e E.TTL_EXPIRY ≠ 0 && b.eget e E.TTL_EXPIRY ≤ b.intakeTime then
    if st = 5 then
      ((b.eset e E.STATE 6).eset e E.TTL_EXPIRY 0).modSide e (fun s => if b.eget e E.TIER = 1 then s.dueLast 6 else s)
    else (b.modSide e (fun s => { s with turnEnd := false })).endHard e 0x15
  else b

/-- Steps without a result at the Intake of the fourth tick after theirs (R111). -/
def Block.writeOffSteps (b : Block) (e : Nat) : Block :=
  ((b.side e).steps.filter (fun t => decide (4 ≤ (b.tick + 2 ^ 32 - t.tick) % 2 ^ 32))).foldl (fun b t => b.writeOffStep e t) b

/-- A probe falls due (R233). -/
def Block.probeDue (b : Block) (e : Nat) : Block :=
  let n := (b.tick + 2 ^ 32 - b.eget e E.OFF_TICK) % 2 ^ 32
  if b.eget e E.STATE = 4 && b.eget e E.STIER = 3 && n ≠ 0 && n % 64 = 0 then b.eset e E.PROBE_DUE 1 else b

/-- A second failure of an order ends its request (R110), in whatever state it is; input screening still under way is abandoned (R42). -/
def Block.acceptFailure (b : Block) (e : Nat) : Block :=
  let f := (b.side e).failWith
  let st := b.eget e E.STATE
  if f = 0 ∨ st < 2 ∨ st = 7 then b
  else
    let b := b.modSide e (fun s => { s with failWith := 0, turnEnd := false })
    let b := if st = 2 then b.modSide e (fun s => { s with screens := s.screens.filter (·.output) }) else b
    b.endSoft e f

/-- The end the results brought, a second failure of an order, and a PAUSE. -/
def Block.acceptEnds (b : Block) (e : Nat) (reason : Option Nat) : Block :=
  let b := match reason with
    | some r => if b.decoding e then b.endTurn e r else b
    | none => b
  let b := b.acceptFailure e
  if b.decoding e && (b.side e).pause then b.enterPause e 0 else b

/-- The rest of Accept for a stream still in DECODE: the stop holdback (R204), a probe, the root mask (R61). -/
def Block.acceptGoesOn (b : Block) (e : Nat) : Block :=
  if b.decoding e then
    let b := (b.holdStop e).probeDue e
    if b.eget e E.OUTSTANDING == 0 && (b.grmOf e).isSome then b.ownJob (b.mkJob 2 e 0) else b
  else b

/-- Accept for one entry, complete in one go (R59). DESIGN CHOICE (log 65): a cancellation and a passed DEADLINE that meet at one Accept have no
order in the specification; the cancellation is looked at first. -/
def Block.accept (b : Block) (e : Nat) : Block :=
  let b := (b.applyCancel e).applyDeadline e
  let b := ((b.side e).screens.filter (·.output)).foldl (fun b c => b.acceptOutput e c.id) b
  let b := b.acceptPaused e
  let ord := (b.side e).ord
  let pos := (b.side e).seqLen
  let r := b.takeResults e
  let b := (r.1.writeOffSteps e).newOutput e ord pos r.2.2
  ((b.acceptEnds e r.2.1).acceptGoesOn e).modSide e (fun s => { s with acceptDone := true, pause := false })

/-- Accept may run for an entry: the tick is under way, Intake has closed, and the owning sequencer is not halted. -/
def Block.acceptable (b : Block) (e : Nat) : Bool :=
  b.serves && b.clk.ticking && b.clk.intakeClosed && b.eget e E.STATE != 0 && !(b.side e).acceptDone && !b.seqHalted (seqOf e)

/-- Accept for every entry of a list that may have it, in the order of R106. -/
def Block.acceptAll (b : Block) (l : List Nat) : Block := (sortBy b.stepBefore (l.filter b.acceptable)).foldl (fun b e => b.accept e) b

/-- The entries of the same sequencer that R106 puts before an entry by PRIORITY. -/
def Block.ahead (b : Block) (e : Nat) : List Nat :=
  b.live.filter (fun f => seqOf f == seqOf e && decide (b.eget e E.PRIORITY < b.eget f E.PRIORITY))

/-- ACCEPT_PHASE (R199, R226): the streams of a higher PRIORITY that the sequencer owns have theirs first (R106, log 66). -/
def execAcceptPhase (entry : Nat) (s : State) : Host.Outcome State Fault Refusal :=
  s.run (fun b => if b.acceptable entry then (b.acceptAll (b.ahead entry)).accept entry else b)

end Sys2Proof.Machine
end

