-- ==== Sys2Proof/Machine/Code.lean ====
section
/-! DEFINITION. The outer code of the stack channels (R449, R450): GF(2^8), the RS(72,64) encoder, the decoder of errors and erasures, and the
place of each symbol in a gang line. Field elements are numbers below 256. -/
namespace Sys2Proof.Machine
open Sys2Proof

/-- Multiplication by the generating element 0x02, modulo x^8 + x^4 + x^3 + x^2 + 1. -/
def gfX (a : Nat) : Nat := if a < 128 then 2 * a else (2 * a) ^^^ 0x11D

/-- Multiplication in GF(2^8). -/
def gfMul (a b : Nat) : Nat := (List.range 8).foldl (fun r i => if b.testBit (7 - i) then gfX r ^^^ a else gfX r) 0

/-- The power n of 0x02. -/
def gfExp : Nat → Nat
  | 0 => 1
  | n + 1 => gfX (gfExp n)

/-- The inverse of a nonzero element: its power 254, as the product of seven repeated squares. -/
def gfInv (a : Nat) : Nat :=
  ((List.range 7).foldl (fun (r : Nat × Nat) _ => let s := gfMul r.2 r.2; (gfMul r.1 s, s)) (1, a)).1

/-- The generator of R450, from the coefficient of x^8 down. -/
def rsGen : List Nat := (List.range 8).foldl (fun p i => List.zipWith (· ^^^ ·) (p ++ [0]) (0 :: p.map (gfMul (gfExp i)))) [1]

/-- The check symbols of 64 data symbols: the remainder of the data polynomial times x^8 divided by the generator. -/
def rsCheck (d : List Nat) : List Nat :=
  d.foldl (fun r s => List.zipWith (· ^^^ ·) (r.tail ++ [0]) (rsGen.tail.map (gfMul (s ^^^ r.headD 0)))) (List.replicate 8 0)

/-- A polynomial at a point, from its highest coefficient down. -/
def gfEval (p : List Nat) (x : Nat) : Nat := p.foldl (fun r c => gfMul r x ^^^ c) 0

/-- The syndromes of a word of 72 symbols. -/
def rsSyndromes (c : List Nat) : List Nat := (List.range 8).map (fun j => gfEval c (gfExp j))

/-- The sum of two polynomials, from the lowest coefficient up. -/
def gfAdd (p q : List Nat) : List Nat := (List.range (max p.length q.length)).map (fun i => p.getD i 0 ^^^ q.getD i 0)

/-- The locator of some places of a word: the product of 1 - X x, where X is 0x02 to the power 71 less the place. -/
def rsLocator (l : List Nat) : List Nat := l.foldl (fun p i => gfAdd p (0 :: p.map (gfMul (gfExp (71 - i))))) [1]

/-- The shortest locator of errors beside known erasures that fits the syndromes, and the places it counts. -/
def rsSearch (s : List Nat) (era : List Nat) : List Nat × Nat :=
  let g := rsLocator era
  let f := era.length
  let r := (List.range (8 - f)).foldl (fun (r : List Nat × List Nat × Nat) k =>
    let n := f + k
    let d := (List.range (n + 1)).foldl (fun x j => x ^^^ gfMul (r.1.getD j 0) (s.getD (n - j) 0)) 0
    let xb := 0 :: r.2.1
    if d = 0 then (r.1, xb, r.2.2)
    else
      let t := gfAdd r.1 (xb.map (gfMul d))
      if 2 * r.2.2 ≤ n + f then (t, r.1.map (gfMul (gfInv d)), n + 1 + f - r.2.2) else (t, xb, r.2.2)) (g, g, f)
  (r.1, r.2.2)

/-- The errors and erasures of a word by Forney's formula, put right: the places are the roots of the locator. -/
def rsRepair (c s locator places : List Nat) : List Nat :=
  let omega := (List.range 8).map (fun n => (List.range (n + 1)).foldl (fun x j => x ^^^ gfMul (locator.getD j 0) (s.getD (n - j) 0)) 0)
  let deriv := (List.range (locator.length - 1)).map (fun i => if i % 2 = 0 then locator.getD (i + 1) 0 else 0)
  places.foldl (fun c i =>
    let x := gfExp (71 - i)
    let y := gfInv x
    c.set i (c.getD i 0 ^^^ gfMul x (gfMul (gfEval omega.reverse y) (gfInv (gfEval deriv.reverse y))))) c

/-- A word of 72 symbols decoded (R450, R451): `era` its erased places. With f erasures and e errors it is put right where 2e + f is at most 8. -/
def rsDecode (c era : List Nat) : Option (List Nat) :=
  if 8 < era.length then none
  else
    let s := rsSyndromes c
    if s.all (· == 0) then some c
    else
      let r := rsSearch s era
      let places := (List.range 72).filter (fun i => gfEval r.1.reverse (gfInv (gfExp (71 - i))) == 0)
      if 8 + era.length < 2 * r.2 ∨ places.length ≠ r.2 then none
      else
        let c := rsRepair c s r.1 places
        if (rsSyndromes c).all (· == 0) then some c else none

/-- Codeword j of a line of 512 data bytes (R449): 64 data and 8 check symbols. -/
def lineWord (l : List Byte) (j : Nat) : List Nat :=
  let d := (List.range 64).map (fun s => (l.getD (64 * j + s) 0).toNat)
  d ++ rsCheck d

/-- The burst a position of the gang stores of a line (R449): byte i is symbol 4 p + i mod 4 of codeword i / 4. -/
def lineBurst (l : List Byte) (p : Nat) : List Nat := (List.range 32).map (fun i => (lineWord l (i / 4)).getD (4 * p + i % 4) 0)

/-- The places of a codeword a position of the gang holds. -/
def positionPlaces (p : Nat) : List Nat := (List.range 4).map (fun i => 4 * p + i)

end Sys2Proof.Machine
end

