-- ==== Sys2Proof/Machine/Mirror.lean ====
section
/-! DEFINITION. The active of a Pair (R505, R506): the records of a sync, the journal, and what an acknowledgement lets go. State of the
mirror set that has no address travels in records of the model's own (log 39). -/
namespace Sys2Proof.Machine
open Sys2Proof

/-- A list with its length in front, cut or padded to a width. -/
def fixedW (n : Nat) (l : List Nat) : List Nat := l.length :: ((l ++ List.replicate n 0).take n)
def listW (l : List Nat) : List Nat := l.length :: l

def tokW (t : HeldTok) : List Nat := [t.ord, t.id, t.bytes.toNat, t.pass.toNat, t.cut.toNat, t.item]
def charW (c : HeldChar) : List Nat := [c.first, c.last, c.repl.toNat, c.late.toNat, c.bytes.length, leNat c.bytes]
def stepW (s : Step) : List Nat :=
  [s.tick, s.pool, s.n, s.d, s.compactOnly.toNat, s.wait.isSome.toNat, s.wait.getD 0, s.cpt.toNat + 2 * s.probe.toNat] ++ fixedW 16 s.rows ++ fixedW 16 s.toks

/-- What a screening item covers, as four lists. -/
def screenW (s : Screen) : List Nat :=
  listW [s.id, s.output.toNat, s.long.toNat, s.first, s.count, s.ordFirst, s.deadline] ++ listW s.toks ++ listW (s.bytes.map (·.toNat))
  ++ listW s.ids

/-- What a sequencer keeps beside an entry, as words; what screening items have done and drafting are not mirrored (R505). -/
def sideWords (s : Side) : List Nat :=
  [s.u8First, s.ord, s.turn, s.seqLen, (s.firstTok.map (· + 1)).getD 0, s.lastPool, s.endReason, s.regDue.toNat, s.pause.toNat, s.failed.toNat,
   s.prefetched.toNat, s.prefetchFail.toNat, s.endTick, s.tokWait.toNat, s.turnEnd.toNat, s.finalDue.toNat, s.promptAddr, s.promptBytes,
   s.isTurn.toNat, s.turnStart, s.failWith, s.lost]
  ++ listW (s.tail.map (·.toNat)) ++ listW s.pins ++ listW s.exclude ++ listW s.newPages ++ listW s.stack ++ listW s.badOrders
  ++ listW s.due ++ listW (s.cancels.flatMap (fun c => [c.1, c.2])) ++ listW (s.toks.flatMap tokW) ++ listW (s.chars.flatMap charW)
  ++ listW (s.steps.flatMap stepW) ++ s.screens.flatMap screenW

/-- The lists that follow a record's scalars, one after another. -/
def popLists : Nat → List Nat → List (List Nat)
  | 0, _ => []
  | n + 1, l => ((l.drop 1).take (l.headD 0)) :: popLists n ((l.drop 1).drop (l.headD 0))

/-- A list cut into pieces of a width. -/
def pieces (w : Nat) (l : List Nat) : List (List Nat) := (List.range (l.length / max w 1)).map (fun i => (l.drop (i * w)).take w)

def wTok (l : List Nat) : HeldTok :=
  { ord := l.getD 0 0, id := l.getD 1 0, bytes := l.getD 2 0 == 1, pass := l.getD 3 0 == 1, cut := l.getD 4 0 == 1, item := l.getD 5 0 }
def wChar (l : List Nat) : HeldChar :=
  { first := l.getD 0 0, last := l.getD 1 0, repl := l.getD 2 0 == 1, late := l.getD 3 0 == 1, bytes := leBytes (l.getD 4 0) (l.getD 5 0) }
def wStep (l : List Nat) : Step :=
  { tick := l.getD 0 0, pool := l.getD 1 0, n := l.getD 2 0, d := l.getD 3 0, compactOnly := l.getD 4 0 == 1,
    wait := if l.getD 5 0 = 1 then some (l.getD 6 0) else none, rows := (l.drop 9).take (l.getD 8 0), toks := (l.drop 26).take (l.getD 25 0),
    cpt := l.getD 7 0 % 2 == 1, probe := l.getD 7 0 / 2 == 1 }

/-- Screening items as yet undone, from the lists that end a record. -/
def wScreens : List (List Nat) → List Screen
  | a :: t :: x :: i :: rest =>
    if a.isEmpty then [] else
    { Screen.new (a.getD 0 0) (a.getD 1 0 == 1) (a.getD 2 0 == 1) (a.getD 3 0) (a.getD 4 0) (a.getD 5 0) t (x.map (BitVec.ofNat 8)) (a.getD 6 0) with
      ids := i } :: wScreens rest
  | _ => []

/-- What a sequencer keeps beside an entry, from its words. -/
def wSide (l : List Nat) : Side :=
  let b := fun (i : Nat) => l.getD i 0 == 1
  let x := popLists l.length (l.drop 22)
  let g := fun (i : Nat) => x.getD i []
  { Side.reset with
    u8First := l.getD 0 0, ord := l.getD 1 0, turn := l.getD 2 0, seqLen := l.getD 3 0,
    firstTok := if l.getD 4 0 = 0 then none else some (l.getD 4 0 - 1), lastPool := l.getD 5 0, endReason := l.getD 6 0, regDue := b 7,
    pause := b 8, failed := b 9, prefetched := b 10, prefetchFail := b 11, endTick := l.getD 12 0, tokWait := b 13, turnEnd := b 14,
    finalDue := b 15, promptAddr := l.getD 16 0, promptBytes := l.getD 17 0, isTurn := b 18, turnStart := l.getD 19 0, failWith := l.getD 20 0,
    lost := l.getD 21 0, tail := (g 0).map (BitVec.ofNat 8), pins := g 1, exclude := g 2, newPages := g 3, stack := g 4, badOrders := g 5,
    due := g 6, cancels := (pieces 2 (g 7)).map (fun p => (p.getD 0 0, p.getD 1 0)), toks := (pieces 6 (g 8)).map wTok,
    chars := (pieces 6 (g 9)).map wChar, steps := (pieces 42 (g 10)).map wStep, screens := wScreens (x.drop 11) }

def orderWords (o : Order) : List Nat :=
  [o.seq, o.kind, o.entry, o.gen, o.src, o.dst, o.tick, o.rebuild.toNat, o.listOff, o.listGran, o.tokens, o.orphan.toNat, o.purpose, o.tail,
   o.ctx.length] ++ o.ctx ++ o.pairs.flatMap (fun p => [p.1, p.2])

def wOrder (l : List Nat) : Order :=
  { seq := l.getD 0 0, kind := l.getD 1 0, entry := l.getD 2 0, gen := l.getD 3 0, src := l.getD 4 0, dst := l.getD 5 0,
    tail := l.getD 13 0, ctx := (l.drop 15).take (l.getD 14 0),
    pairs := (pieces 2 (l.drop (15 + l.getD 14 0))).map (fun p => (p.getD 0 0, p.getD 1 0)), tick := l.getD 6 0, rebuild := l.getD 7 0 == 1,
    listOff := l.getD 8 0, listGran := l.getD 9 0, tokens := l.getD 10 0, orphan := l.getD 11 0 == 1, purpose := l.getD 12 0 }

/-- What R505 mirrors at each sync: counters, ring claims, ORDER_SEQ, the last published tick of each pool. -/
def Block.syncWords (b : Block) : List Nat :=
  [b.rq.orderSeq, b.rq.punWritten, b.rq.admTaken, b.rq.ctlTaken, b.tick, b.lgr.admitted, b.lgr.ended, b.rq.orders.length, b.rq.nextItem]
  ++ (List.range 5).map (fun i => b.lgr.pages.getD i 0) ++ (List.range 8).map (fun n => (tget b.rq.lastAlloc n).map (· + 1) |>.getD 0)
  ++ [b.rq.published, b.rq.ringPos, b.rq.seen].flatMap (fun t => (List.range 256).map (fun p => (tget t p).map (· + 1) |>.getD 0))

def wordBytes (l : List Nat) : List Byte := l.flatMap (leBytes 8)
def byteWords (l : List Byte) : List Nat := (List.range (l.length / 8)).map (fun i => lefld l (8 * i) 8)

/-- A span cut into pieces of at most 65,536 bytes (R506), as (address, bytes). -/
def cutSpan (a n : Nat) : List (Nat × Nat) := (List.range (cdiv n 65536)).map (fun i => (a + 65536 * i, min 65536 (n - 65536 * i)))

/-- Data cut into pieces of at most 65,536 bytes. -/
def cutData (a : Nat) (l : List Byte) : List (Nat × List Byte) := (cutSpan a l.length).map (fun p => (p.1, (l.drop (p.1 - a)).take p.2))

/-- Bytes of space 0 or 3 of the own node. -/
def Block.ownBytes (b : Block) (a n : Nat) : List Byte :=
  let o := gaOff a
  if gaSpace a = 3 then (List.range n).map (fun i => (entryBytes (b.entry ((o + i) / 256))).getD ((o + i) % 256) 0) else b.rd0 o n

/-- A change noted for the mirror as a record: whole 8-byte words of spaces 0 and 3 as they now stand, other data as noted. -/
def Block.noteRecord (b : Block) (m : Nat × List Byte) : List (Nat × List Byte) :=
  let a := m.1 % 2 ^ 56
  if gaSpace a = 15 then cutData a m.2
  else
    let lo := a / 8 * 8
    (cutSpan lo (cdiv (a + m.2.length) 8 * 8 - lo)).map (fun p => (p.1, b.ownBytes p.1 p.2))

/-- The records that close a full sync: what changed beside the entries, the outstanding orders, the words of R505, CFG (R511). -/
def Block.syncTail (b : Block) : List (Nat × List Byte) :=
  let sides := b.live.filter (fun e => tget b.pair.sides e != some (b.side e))
  sides.flatMap (fun e => cutData (privAddr 1 e) (wordBytes (sideWords (b.side e))))
  ++ (List.range b.rq.orders.length).flatMap (fun i => cutData (privAddr 2 i) (wordBytes (((b.rq.orders[i]?).map orderWords).getD [])))
  ++ [(privAddr 5 0, padTo b.sa.cfg 48), (privAddr 0 0, wordBytes b.syncWords)]

/-- Journal bytes of a record. -/
def recBytes (l : List Byte) : Nat := 16 + cdiv l.length 16 * 16

/-- How many records, taken in order, fit in a number of bytes. -/
def fitCount : Nat → List (Nat × List Byte) → Nat
  | _, [] => 0
  | room, r :: rest => if recBytes r.2 ≤ room then fitCount (room - recBytes r.2) rest + 1 else 0

/-- An operation of the pair engine to the peer: a write with data, or an atomic add of 1 with release. -/
def Block.pairOp (b : Block) (a : Nat) (data : List Byte) : Block :=
  match b.pairLinks with
  | [] => b.agentFailed none 12 8 true
  | l :: _ =>
    if data.isEmpty then
      b.outOp { id := 0, kind := 2, route := 64 + l, addr := a, len := 0, value := 1, compare := 0, data := [], ord := 2,
                size4 := false, sent := false, issued := 0, purpose := .agent none 12 0 }
    else (splitSpan a data.length).foldl (fun b (p : Nat × Nat × Nat) =>
      b.outOp { id := 0, kind := 1, route := 64 + l, addr := p.1, len := p.2.1, value := 0, compare := 0, data := (data.drop p.2.2).take p.2.1,
                ord := 0, size4 := false, sent := false, issued := 0, purpose := .agent none 12 0 }) b

/-- The global address of a register of the peer. -/
def Block.peerReg (b : Block) (off : Nat) : Nat := b.fget F.LNK_NODE_PEER * 2 ^ 56 + 4 * 2 ^ 52 + off

/-- One record written into the standby's journal (R506). -/
def Block.putRecord (b : Block) (target : Nat) (data : List Byte) : Block :=
  let size := 2 ^ b.fget F.STA_PAIR_JRNL_SIZE_LOG2
  let r := leBytes 8 target ++ leBytes 4 data.length ++ leBytes 4 (b.pair.epoch + 1) ++ padTo data (cdiv data.length 16 * 16)
  let at_ := b.pair.journalHead % size
  let base := b.fget F.LNK_NODE_PEER * 2 ^ 56 + b.fget F.STA_PAIR_JRNL_BASE
  let b := b.pairOp (base + at_) (r.take (size - at_))
  let b := if size < at_ + r.length then b.pairOp base (r.drop (size - at_)) else b
  { b with pair := { b.pair with journalHead := b.pair.journalHead + r.length } }

/-- The spans a sync copies (R504): in the main window, at COPY_GBPS over SYNC_US. -/
def Block.copyNow (b : Block) : List (Nat × Nat) :=
  let most := b.fget F.STA_PAIR_CFG_COPY_GBPS * 1000 * b.fget F.STA_PAIR_CFG_SYNC_US
  if b.clk.mainWindow then (b.pair.copy.foldl (fun (r : List (Nat × Nat) × Nat) p => if r.2 + p.2 ≤ most then (r.1 ++ [p], r.2 + p.2) else (r.1, most + 1)) ([], 0)).1
  else []

/-- A sync (R506): the mirror records that fit, the sync record, the standby's epoch raised. A sync that leaves records for the next one does not
serve the writes of R507 that waited for it. -/
def Block.pairSync (b : Block) : Block :=
  if !b.mirrors then b
  else
    let room := 2 ^ b.fget F.STA_PAIR_JRNL_SIZE_LOG2 - (b.pair.journalHead - b.pair.journalAcked)
    if room < 16 then b
    else
      let notes := b.pair.mirror.flatMap b.noteRecord
      let copy := b.copyNow.map (fun p => (p.1, b.ownBytes p.1 p.2))
      let tail := if copy.length = b.pair.copy.length then b.syncTail else []
      let n := fitCount (room - 16) (notes ++ copy ++ tail)
      let full := n == notes.length + copy.length + tail.length && !tail.isEmpty
      let m := if full then n else min n (notes.length + copy.length)
      let b := ((notes ++ copy ++ tail).take m).foldl (fun (b : Block) r => b.putRecord r.1 r.2) b
      let b := (b.putRecord 0 []).pairOp (b.peerReg 0x58) []
      let e := b.pair.epoch + 1
      let p := b.pair
      { b with pair := { p with
        epoch := e
        mirror := notes.drop m
        copy := p.copy.drop (m - notes.length)
        heads := p.heads ++ [(2 * e + full.toNat, p.journalHead)]
        sides := if full then b.live.map (fun x => (x, b.side x)) else p.sides
        lastEpochUs := if p.heads.isEmpty then b.clk.timeUs else p.lastEpochUs
        heldWrites := if full then p.heldWrites else p.heldWrites.map (fun (w : HeldWrite) => { w with epoch := max w.epoch (e + 1) }) } }

/-- What the standby has acknowledged (R506): journal space, and READY after the first full sync (R504). -/
def Block.ackSeen (b : Block) : Block :=
  let ack := b.fget F.STA_PAIR_ACK_ACK
  let done := b.pair.heads.filter (fun h => decide (h.1 / 2 ≤ ack))
  match done.getLast? with
  | none => b
  | some h =>
    let b := { b with pair := { b.pair with heads := b.pair.heads.filter (fun h => decide (ack < h.1 / 2)), journalAcked := h.2,
                                            lastEpochUs := b.clk.timeUs } }
    if b.fget F.STA_PAIR_STATE = 3 && b.mirrors && done.any (fun h => h.1 % 2 == 1) then b.fset F.STA_PAIR_STATE 4 else b

end Sys2Proof.Machine
end

