-- ==== Sys2Proof/Machine/Draft.lean ====
section
/-! DEFINITION. The streams a tick steps and drafts (R106, R210 to R214), tree selection from the proposals of a draft pass (R194, R215, R216,
R218), and the draft cut-off, mask target and mask deadline (R60 to R64). -/
namespace Sys2Proof.Machine
open Sys2Proof

/-- The draft units a stream's tree needs (R211): the first, and how many. -/
def unitSpan (len nodes : Nat) : Nat × Nat :=
  let lo := (len - 512) / 64
  (lo, (len + nodes - 1) / 64 + 1 - lo)

/-- The units of a stream extended to its range; none where too few are free. -/
def Block.growUnits (b : Block) (e nodes : Nat) : Option Block :=
  let s := b.side e
  let r := unitSpan s.seqLen nodes
  let keep := !s.units.isEmpty && decide (r.1 ≤ s.unitBase + s.units.length) && decide (s.unitBase ≤ r.1)
  let base := if keep then s.unitBase else r.1
  let have_ := if keep then s.units else []
  let free := if keep then b.rq.unitFree else giveBack b.rq.unitFree s.units
  let need := r.1 + r.2 - (base + have_.length)
  if free.length < need then none
  else
    let us := have_ ++ free.take need
    let b := { b with rq := { b.rq with unitFree := free.drop need } }
    let b := (b.eset e E.UNIT_HEAD (us.head?.getD 0xFFFFFFFF)).eset e E.UNIT_COUNT us.length
    some (b.modSide e (fun s => { s with units := us, unitBase := base }))

/-- A stream finds too few units: stepped without a tree (R212). -/
def Block.unitWait (b : Block) (e : Nat) : Block :=
  (b.count F.SPC_CNT_C_UNIT_WAIT).modSide e (fun s => { s with passes := 99 })

/-- Entries a draft job names, each once, in the order of R106 among the streams stepped. -/
def Block.named (b : Block) (props : List Proposal) : List Nat := b.stepSet.filter (fun e => props.any (fun p => p.entry == e))

/-- A warm-up ends (R212): the streams it was granted to are warm; one whose part has failed is not drafted in this tick (R265). -/
def Block.warmDone (b : Block) (props : List Proposal) (jobFailed : Bool) : Block :=
  (b.named props).foldl (fun b e =>
    if (b.side e).warmed || !b.warmGrants.contains e then b
    else if jobFailed || props.any (fun p => p.entry == e && p.failed) then b.modSide e (fun s => { s with warmed := true, passes := 99 })
    else match b.growUnits e (shapeNodes (b.shape e)) with
      | none => b.unitWait e
      | some c => (c.eset e E.WARM 1).modSide e (fun s => { s with warmed := true, compacted := true })) b

/-- A proposal of a pass as a candidate node: parent, token, cumulative score (R215). -/
structure Cand where
  parent : Nat
  tok : Nat
  score : BitVec 32
deriving DecidableEq, Repr

/-- The order of selection: greatest score, then lower parent, then lower token. -/
def candBefore (x y : Cand) : Bool :=
  lt32 y.score x.score || (!(lt32 x.score y.score) && (decide (x.parent < y.parent) || (x.parent == y.parent && decide (x.tok ≤ y.tok))))

/-- The candidates of level p for a stream: each parent's W most probable tokens, then the W best of all. -/
def selectNodes (nodes : List Node) (eos level width : Nat) (props : List Proposal) : List Cand :=
  let parents := if level = 1 then [0xFF]
    else (List.range nodes.length).filter (fun i => match nodes[i]? with
      | some n => n.level == level - 1 && n.tok != eos
      | none => false)
  let base := fun (p : Nat) => ((nodes[p]?).map (·.score)).getD 0
  let of := fun (p : Nat) =>
    ((sortBy candBefore ((props.filter (fun x => x.parent == p)).map (fun x => { parent := p, tok := x.token, score := x.logp }))).take width).map
      (fun (c : Cand) => if p = 0xFF then c else { c with score := add32 (base p) c.score })
  (sortBy candBefore (parents.flatMap of)).take width

/-- The configuration of a new node (R194): none where it is pruned. -/
def Block.nodeCfg (b : Block) (e : Nat) (parent : Cfg) (t : Nat) : Option Cfg :=
  match b.grmOf e with
  | none => some parent
  | some i =>
    let eos := b.entryEos e
    if t = eos then (if gAccepting i parent then some parent else none)
    else match gStep i eos parent t with
      | none => none
      | some c => if gEmpty i c && !gAccepting i c then none else some c

/-- One chosen candidate becomes a node, with its mask queued, or is pruned. -/
def Block.addNode (b : Block) (e level : Nat) (c : Cand) : Block :=
  let s := b.side e
  let pc := match s.nodes[c.parent]? with
    | some n => if c.parent = 0xFF then b.cfgOf e else n.cfg
    | none => b.cfgOf e
  match b.nodeCfg e pc c.tok with
  | none => b.count F.GRM_CNT_A_NODE_PRUNE
  | some cfg =>
    let b := b.modSide e (fun s => { s with nodes := s.nodes ++
      [{ tok := c.tok, parent := c.parent, level := level, score := c.score, cfg := cfg, masked := false }] })
    if (b.grmOf e).isSome then b.ownJob (b.mkJob 3 e s.nodes.length) else b

/-- A stream's part of pass p (R215, R218, R265). -/
def Block.passPart (b : Block) (e p : Nat) (props : List Proposal) (jobFailed : Bool) : Block :=
  let s := b.side e
  let w := (b.shape e).getD (p - 1) 0
  let mine := props.filter (fun x => x.entry == e)
  if s.passes + 1 ≠ p || w = 0 then b
  else
    let start := fun (b : Block) =>
      if p ≠ 1 then some b
      else (b.growUnits e (shapeNodes (b.shape e))).map (fun c =>
        let c := if c.eget e E.PROBE_DUE = 1 && c.eget e E.STIER = 3 then c.count F.SPC_CNT_B_PROBES else c
        (c.eset e E.PROBE_DUE 0).modSide e (fun s => { s with drafted := true }))
    match start b with
    | none => b.unitWait e
    | some b =>
      if jobFailed || mine.any (·.failed) then b.modSide e (fun s => { s with passes := 99 })
      else
        let b := (selectNodes s.nodes (b.entryEos e) p w mine).foldl (fun b c => b.addNode e p c) b
        b.modSide e (fun s => { s with passes := p })

/-- DPASS_DONE (R218, R366): the head of the draft queue ends, its DONE is raised, and the next begins. A failure of a part that no executor has
shown counts once (R265). -/
def Block.draftDone (b : Block) (props : List Proposal) : Block :=
  match b.cp.dpass with
  | [] => b
  | j :: rest =>
    let b := { b with cp := { b.cp with dpass := rest } }
    let mine := fun (b : Block) (e : Nat) => b.draftModel e == some j.model
    let b := if !j.failed && props.any (fun p => p.failed && mine b p.entry) then b.countFail else b
    let b := if j.warm then b.warmDone (props.filter (fun p => mine b p.entry)) j.failed
      else (b.draftSet.filter (fun e => mine b e && props.any (fun p => p.entry == e))).foldl (fun b e => b.passPart e j.pass props j.failed) b
    let b := b.agentAdd j.done none j.seq 2
    if rest.isEmpty then b.dispatchItems else b.startDraft

/-- The draft cut-off (R60): what has not begun never begins, and a stream whose Accept has not finished drafts nothing. -/
def Block.draftCut (b : Block) : Block :=
  if !b.serves || !b.clk.ticking || b.clk.cutOff then b
  else
    let t := b.fget F.TICK_TURN_MASK_DL_US - b.fget F.TICK_BUDGET_PUBLISH_US - b.fget F.TICK_BUDGET_MASK_US
    let b := b.advanceTick t
    let b := { b with clk := { b.clk with cutOff := true }, cp := { b.cp with dpass := b.cp.dpass.take 1 } }
    let b := (b.live.filter (fun e => b.decoding e && !(b.side e).acceptDone)).foldl (fun b e => b.modSide e (fun s => { s with noDraft := true })) b
    (b.dispatchItems).atPoint 2

/-- The nodes of a tree that are left after some are removed with their descendants: the new numbers, and the nodes renumbered (R216). -/
def keepNodes (keep : Node → Bool) (l : List Node) : List (Option Nat) × List Node :=
  l.foldl (fun (r : List (Option Nat) × List Node) n =>
    let par := if n.parent = 0xFF then some 0xFF else (r.1.getD n.parent none)
    match par with
    | some p => if keep n then (r.1 ++ [some r.2.length], r.2 ++ [{ n with parent := p }]) else (r.1 ++ [none], r.2)
    | none => (r.1 ++ [none], r.2)) ([], [])

/-- The mask target (R61, R62): nodes without a complete mask leave their trees, and a stream without a root mask skips its step;
in Pair a sync follows (R506). -/
def Block.maskCut (b : Block) : Block :=
  if !b.serves || !b.clk.ticking || b.clk.maskTarget then b
  else
    let b := b.advanceTick (b.fget F.TICK_TURN_MASK_DL_US - b.fget F.TICK_BUDGET_PUBLISH_US)
    let b := { b with clk := { b.clk with maskTarget := true } }
    let b := (b.live.filter (fun e => b.decoding e && (b.grmOf e).isSome)).foldl (fun b e =>
      let s := b.side e
      let k := (keepNodes (·.masked) s.nodes).2
      (b.count F.GRM_CNT_D_LATE_PRUNE (s.nodes.length - k.length)).modSide e (fun s => { s with nodes := k, skip := !s.rootMask })) b
    (b.atPoint 3).pairSync

/-- A pool's publish counter write is late (R64). -/
def Block.maskLate (b : Block) (pool : Nat) : Block := (b.evt F.TICK_EVT_MASK_LATE).logEvent 3 (leBytes 1 pool)

/-- The mask deadline (R64): the pools whose counter writes have not completed. -/
def Block.maskOver (b : Block) : Block :=
  if !b.serves || !b.clk.ticking || b.clk.maskDeadline then b
  else
    let b := b.advanceTick (b.fget F.TICK_TURN_MASK_DL_US)
    let b := { b with clk := { b.clk with maskDeadline := true } }
    let late := b.rq.pools.filter (fun q => b.rm.out.any (fun o => match o.purpose with
      | .agent (some p) _ 1 => p == q.num
      | _ => false) || b.pair.heldWrites.any (fun w => w.what == 1 && w.pool == some q.num))
    (late.foldl (fun b q => b.maskLate q.num) b).atPoint 4

/-- DRAFT_CUTOFF (R60). -/
def execDraftCutoff (s : State) : Host.Outcome State Fault Refusal := s.run (fun b => b.draftCut)
/-- MASK_TARGET (R61). -/
def execMaskTarget (s : State) : Host.Outcome State Fault Refusal := s.run (fun b => b.maskCut)
/-- MASK_DEADLINE (R64). -/
def execMaskDeadline (s : State) : Host.Outcome State Fault Refusal := s.run (fun b => b.maskOver)
end Sys2Proof.Machine
end

