-- ==== Sys2Proof/Machine/Steps.lean ====
section
/-! DEFINITION. What Publish does for the pools: page commands (R147), orders due (R121 to R132, R141 to R146), pages of a step (R131,
R230), masks (R195 to R197), step records (R219 to R222, R227), draft units (R211, R213). -/
namespace Sys2Proof.Machine
open Sys2Proof

/-- One page command carried out (R147): OP 1 retires a page, OP 2 releases one. -/
def Block.pageOp (b : Block) (op p : Nat) : Block :=
  if b.fget F.PG_TOTAL_TOTAL ≤ p then b.fset F.PG_CMD_STATUS 2
  else if op = 1 then
    if b.pageState p = 0 then (b.retirePage p).fset F.PG_CMD_STATUS 0
    else (b.setPage p (b.pageLink p) (b.pageState p) (b.pageOwner p) true).fset F.PG_CMD_STATUS 1
  else if b.pageState p = 4 then (b.freeNow p).fset F.PG_CMD_STATUS 0
  else b.fset F.PG_CMD_STATUS 3

/-- The page commands that wait (R147), before any allocation. -/
def Block.pageCommand (b : Block) : Block :=
  b.rq.pgCmd.foldl (fun b c => b.pageOp c.1 c.2) { b with rq := { b.rq with pgCmd := [] } }

/-- Page moves due at Publish before any allocation: the command, records STALE without pins (R140), caches lost (R144). -/
def Block.pageMoves (b : Block) : Block :=
  let b := b.pageCommand
  let b := ({ b with rq := { b.rq with staleFree := [] } } |> fun c => b.rq.staleFree.foldl (fun c i => c.dropIdx i) c)
  (b.served.filter (fun e => (b.side e).lost != 0 && !b.inFlight e)).foldl (fun b e => b.loseCache e) b

/-- The nodes a stream is about to publish: the ones left once those without a mask are gone (R61). -/
def Block.dropUnmasked (b : Block) (e : Nat) : Block :=
  if (b.grmOf e).isNone then b
  else
    let s := b.side e
    let k := (keepNodes (·.masked) s.nodes).2
    (b.count F.GRM_CNT_D_LATE_PRUNE (s.nodes.length - k.length)).modSide e (fun s => { s with nodes := k })

/-- Pages for the slots of a step (R131): appended in the decode pool, none where they cannot be had. -/
def Block.stepPages (b : Block) (e slots : Nat) : Option Block :=
  let ps := b.pageTokens
  let need := cdiv slots ps - (b.pageList e).length
  if need = 0 then some b
  else match b.pool (b.eget e E.DECODE_POOL) with
    | none => none
    | some q => (Block.allocPages need b q).map (fun r =>
        let own := r.2.ownPages e
        let b := r.2.setList e ((r.2.pageList e).take (r.2.pfxPages e)) (own ++ r.1)
        r.1.foldl (fun b p => b.movePage p 1 e) b)

/-- The pages at the end of a list that are OWNED, at or above a number of slots. -/
def Block.freeTail (b : Block) (e slots : Nat) : Block :=
  let keep := cdiv slots b.pageTokens
  let own := b.ownPages e
  let pfx := (b.pageList e).take (b.pfxPages e)
  let tail := (own.drop (keep - pfx.length)).reverse.takeWhile (fun p => b.pageState p == 1)
  if tail.isEmpty then b
  else
    let b := b.setList e pfx (own.take (own.length - tail.length))
    tail.foldl (fun b p => b.freePage p) b

/-- The slot after the last one a pending compaction reads (R230). -/
def Block.cptTop (b : Block) (e : Nat) : Nat :=
  if b.eget e E.CPT_PEND = 0 then 0
  else b.eget e E.CPT_BASE + ((List.range (b.eget e E.CPT_COUNT)).map (fun j => bits (b.eget e E.CPT_SRC) (4 * j) 4 + 1)).foldl max 0

/-- Freeing of slots (R230): `slots` the ones the sequence and the step published need. -/
def Block.freeSlots (b : Block) (e slots : Nat) : Block :=
  if b.eget e E.OUTSTANDING = 0 && (b.decoding e || b.eget e E.STATE == 5) && !b.inFlight e then b.freeTail e (max slots (b.cptTop e)) else b

/-- What becomes of a stream of the step set: its step is published; it is deferred for want of pages (R132); it skips its step for want of its root
mask (R62), of mask slots (R197) or of a step slot (R219). -/
inductive Fate where
  | go
  | noPages
  | noRoot
  | noMaskRoom
  | noStepRoom
deriving DecidableEq, Repr

/-- A stream of the step set and its fate. -/
abbrev ToStep := Nat × Fate

/-- The orders due and the pages of the steps, in the order of R129; a stream that skips gets none. -/
def Block.allocations (b : Block) (set : List Nat) (skips : List ToStep) : Block × List ToStep :=
  (b.byPriority b.served).foldl (fun (r : Block × List ToStep) e =>
    let b := r.1.putDue e
    if set.contains e then
      match skips.find? (fun t => t.1 == e) with
      | some t => (b, r.2 ++ [t])
      | none =>
        let s := b.side e
        let slots := s.seqLen + s.nodes.length + 1
        if s.isDue 2 then (b, r.2 ++ [(e, .noPages)])
        else match b.stepPages e slots with
          | some c => (c.freeSlots e slots, r.2 ++ [(e, .go)])
          | none => (b.defer, r.2 ++ [(e, .noPages)])
    else (b.freeSlots e (b.side e).seqLen, r.2)) (b, [])

/-- The streams whose records or masks do not fit in their pools' halves, slots given from 0 in the order of R106 to those that go. -/
def Block.misfits (b : Block) (steps : List ToStep) : List ToStep :=
  (steps.foldl (fun (r : List ToStep × Tbl Nat × Tbl Nat) t =>
    let e := t.1
    let pool := b.eget e E.DECODE_POOL
    let js := tgetD r.2.1 pool 0
    let jm := tgetD r.2.2 pool 0
    let want := if (b.grmOf e).isSome then 1 + (b.side e).nodes.length else 0
    if t.2 ≠ .go then r
    else if ((tget b.rq.spcPools pool).map (fun p => p.2.1)).getD 0 ≤ js then (r.1 ++ [(e, .noStepRoom)], r.2)
    else if want ≠ 0 && decide (((b.maskPool pool).map (·.2)).getD 0 < jm + want) then (r.1 ++ [(e, .noMaskRoom)], r.2)
    else (r.1, tset r.2.1 pool (js + 1), tset r.2.2 pool (jm + want))) ([], [], [])).1

/-- The streams that skip: those without a root mask, and those that do not fit among the ones that get their pages. -/
def Block.skipsGo (b : Block) (set : List Nat) : Nat → List ToStep → List ToStep
  | 0, skips => skips
  | f + 1, skips =>
    let r := b.allocations set skips
    let bad := r.1.misfits (set.filterMap (fun e => r.2.find? (fun t => t.1 == e)))
    if bad.isEmpty then skips else Block.skipsGo b set f (skips ++ bad)
def Block.skips (b : Block) (set : List Nat) : List ToStep :=
  let rootless := set.filter (fun e => (b.grmOf e).isSome && ((b.side e).skip || !(b.side e).rootMask))
  b.skipsGo set (set.length + 1) (rootless.map (fun e => (e, .noRoot)))

/-- The areas of the pools filled so far in this Publish: mask slots and step slots by pool. -/
structure Area where
  blk : Block
  masks : Tbl Nat
  steps : Tbl Nat

/-- The half of an area a tick uses. -/
def Block.half (b : Block) : Nat := b.tick % 2

/-- Ancestry rows of a tree (R217). -/
def ancestry (l : List Node) : List Nat :=
  l.foldl (fun (r : List Nat) n => r ++ [(if n.parent = 0xFF then 0 else r.getD n.parent 0) + 2 ^ r.length]) []

def treeDepth (l : List Node) : Nat := l.foldl (fun d n => max d n.level) 0

/-- The order a step depends on (R125). -/
def Block.waitSeq (b : Block) (e : Nat) : Option Nat :=
  (b.rq.orders.find? (fun o => o.entry == e && o.gen == b.eget e E.GENERATION && (o.kind == 2 || o.kind == 5))).map (·.seq)

/-- A step record (R220). `slot0` is the mask slot of the root, where the stream has masks. -/
def Block.stepRecord (b : Block) (e : Nat) (compactOnly : Bool) (nodes : List Node) (slot0 : Option Nat) : List Byte :=
  let s := b.side e
  let wait := b.waitSeq e
  let cpt := b.eget e E.CPT_PEND == 1
  let mslot := fun (i : Nat) => match slot0 with
    | some m => leBytes 4 (m + i)
    | none => leBytes 4 0xFFFFFFFF
  let body := leBytes 2 (if compactOnly then 2 else 1) ++ leBytes 1 nodes.length ++ leBytes 1 (bitsOf [slot0.isSome, wait.isSome, cpt])
    ++ leBytes 2 e ++ leBytes 2 (b.eget e E.GENERATION) ++ leBytes 4 b.tick ++ leBytes 4 (s.seqLen - 1) ++ leBytes 4 (b.seqId e (s.seqLen - 1))
    ++ mslot 0 ++ leBytes 4 (wait.getD 0) ++ leBytes 1 (if cpt then b.eget e E.CPT_COUNT else 0) ++ leBytes 3 (if cpt then b.eget e E.CPT_SRC else 0)
    ++ leBytes 4 (if cpt then b.eget e E.CPT_BASE else 0) ++ leBytes 4 (b.eget e E.PAGE_TAIL) ++ leBytes 4 (b.pageList e).length ++ zeros 20
    ++ padTo ((List.range nodes.length).flatMap (fun i => leBytes 4 (((nodes[i]?).map (·.tok)).getD 0) ++ mslot (i + 1))) 128
    ++ padTo ((ancestry nodes).flatMap (leBytes 2)) 32 ++ zeros 28
  withCrc body

/-- The tree store record of a published tree (R222). -/
def Block.treeRecord (b : Block) (e : Nat) (nodes : List Node) : List Byte :=
  padTo (nodes.flatMap (fun n => leBytes 4 n.tok)) 64 ++ padTo (nodes.flatMap (fun n => leBytes 1 n.parent)) 16 ++ leBytes 1 nodes.length
    ++ leBytes 1 (treeDepth nodes) ++ zeros 2 ++ leBytes 4 ((b.side e).seqLen - 1) ++ leBytes 4 b.tick ++ zeros 36

/-- The masks of a stream written to its pool's mask area (R196): the root's slot, or none where they do not fit (R197). -/
def Area.putMasks (a : Area) (e pool : Nat) (img : Img) (nodes : List Node) : Option (Nat × Area) :=
  let b := a.blk
  let next := tgetD a.masks pool 0
  match b.maskPool pool with
  | none => none
  | some (addr, slots) =>
    if slots < next + 1 + nodes.length then none
    else
      let eos := b.entryEos e
      let put := fun (b : Block) (i : Nat) (c : Cfg) =>
        b.agentPut (addr + (b.half * slots + next + i) * 32768) (gMask img eos c) 0 (some pool) (seqOf e) 0
      let b := put b 0 (b.cfgOf e)
      let b := (List.range nodes.length).foldl (fun b i => match nodes[i]? with
        | some n => put b (i + 1) n.cfg
        | none => b) b
      some (next, { a with blk := b.count F.GRM_CNT_A_MASKS (1 + nodes.length), masks := tset a.masks pool (next + 1 + nodes.length) })

/-- A step or compaction record written to its pool's step area (R219); none where the half is full. -/
def Area.putStep (a : Area) (e pool : Nat) (compactOnly : Bool) (nodes : List Node) (slot0 : Option Nat) : Option Area :=
  let b := a.blk
  let j := tgetD a.steps pool 0
  match tget b.rq.spcPools pool with
  | none => none
  | some (addr, slots, _, _) =>
    if slots ≤ j then none
    else
      let cpt := b.eget e E.CPT_PEND == 1
      let st : Step :=
        { tick := b.tick % 2 ^ 32, pool := pool, n := nodes.length, d := treeDepth nodes, compactOnly := compactOnly, wait := b.waitSeq e,
          rows := ancestry nodes, toks := nodes.map (·.tok), cpt := cpt,
          probe := !compactOnly && b.eget e E.STIER == 3 && (b.side e).drafted }
      let b := b.compactDraft e
      let b := b.agentPut (addr + (b.half * slots + j) * 256) (b.stepRecord e compactOnly nodes slot0) 0 (some pool) (seqOf e) 0
      let b := ((b.eset e E.CPT_PEND 0).eadd e E.OUTSTANDING 1).modSide e (fun s => { s with steps := s.steps ++ [st] })
      some { a with blk := b, steps := tset a.steps pool (j + 1) }

/-- The cut-off took levels off a stream's tree (R60): nothing was drafted, or a pass did not run that had a node to extend. -/
def Block.trimmed (b : Block) (e : Nat) : Bool :=
  let s := b.side e
  if s.noDraft then b.mayDraft e && b.eget e E.WARM == 1
  else s.drafted && s.passes != 99 && decide (s.passes < shapeDepth (b.shape e))
    && (s.passes == 0 || s.nodes.any (fun n => n.level == s.passes && n.tok != b.entryEos e))

/-- The counts of a stream that is stepped without a full tree (R60, R212): one that needs a warm-up and is granted none, for want of
units while warm-ups are left. -/
def Block.treeCounts (b : Block) (e : Nat) : Block :=
  let b := if b.trimmed e then b.count F.SPC_CNT_A_TRIM else b
  if b.wantsDraft e && b.eget e E.WARM == 0 && (b.side e).passes != 99 then
    if b.warmGrants.contains e && (b.growUnits e (shapeNodes (b.shape e))).isNone then b.count F.SPC_CNT_C_UNIT_WAIT
    else b.count F.SPC_CNT_B_WARM_WAIT
  else b

/-- A skip under the terms of R62. -/
def Block.turnSkip (b : Block) : Block := (b.count F.TICK_CNT_B_TURN_SKIP).evt F.TICK_EVT_TURN_SKIP

/-- One stream of the step set published, skipped or deferred (R62, R106, R195, R197, R219). -/
def Area.step (a : Area) (t : ToStep) : Area :=
  let e := t.1
  let b := a.blk
  let s := b.side e
  let pool := b.eget e E.DECODE_POOL
  match t.2 with
  | .noRoot => { a with blk := b.turnSkip }
  | .noMaskRoom => { a with blk := (b.turnSkip.count F.GRM_CNT_B_AREA_SKIP).evt F.GRM_EVT_AREA_FULL }
  | .noStepRoom => { a with blk := b.turnSkip.count F.SPC_CNT_C_STEP_SKIP }
  | .noPages => { a with blk := b.count F.RQT_CNT_B_STEP_DEFER }
  | .go =>
    let m : Option Nat × Area := match b.grmOf e with
      | none => (none, a)
      | some i => match a.putMasks e pool i s.nodes with
        | some r => (some r.1, r.2)
        | none => (none, a)
    match m.2.putStep e pool false s.nodes m.1 with
    | none => a
    | some c =>
      let b := c.blk.treeCounts e
      let b := b.wr0m (b.fget F.SPC_TREE_BASE_BASE + 128 * e) (b.treeRecord e s.nodes)
      { c with blk := ((b.eset e E.PUB_NODES s.nodes.length).eset e E.PUB_DEPTH (treeDepth s.nodes)).eset e E.LAST_STEP_TICK b.tick }

/-- The compaction of a request that paused (R227). -/
def Area.compactOnly (a : Area) (e : Nat) : Area :=
  let b := a.blk
  match a.putStep e (b.eget e E.DECODE_POOL) true [] none with
  | some c => c
  | none => { a with blk := b.count F.SPC_CNT_C_STEP_SKIP }

/-- The steps of a tick (R106, R219, R227). -/
def Block.publishSteps (b : Block) : Block :=
  let order := b.stepOrder
  let set := b.stepSet
  let b := b.count F.RQT_CNT_B_STEP_DEFER (order.length - set.length)
  let b := set.foldl (fun b e => b.dropUnmasked e) b
  let r := b.allocations set (b.skips set)
  let steps := set.filterMap (fun e => r.2.find? (fun t => t.1 == e))
  let a := steps.foldl Area.step { blk := r.1, masks := [], steps := [] }
  let paused := a.blk.served.filter (fun e => (a.blk.eget e E.STATE == 5 || a.blk.eget e E.STATE == 6) && a.blk.eget e E.CPT_PEND == 1)
  (paused.foldl Area.compactOnly a).blk

/-- Nodes of a stream's current tree: the one drafted in this tick, and the one of the step that is outstanding (R211). -/
def Side.treeNodes (s : Side) : Nat := ((s.steps.filter (fun t => !t.compactOnly)).map (·.n)).foldl max s.nodes.length

/-- The draft units of an entry after its step (R211, R213, R230): a warm stream's cover its range; one outside the range is returned unless it holds a
slot of the outstanding tree or a source of the pending compaction. -/
def Block.trimUnits (b : Block) (e : Nat) : Block :=
  let s := b.side e
  if b.eget e E.STATE = 5 || b.eget e E.STATE = 6 || (b.eget e E.STIER = 3 && !s.drafted && !s.steps.any (·.probe)) then
    if s.units.isEmpty && b.eget e E.WARM == 0 then b else b.freeUnits e
  else
    let b := if b.eget e E.WARM == 1 && b.decoding e then (b.growUnits e s.treeNodes).getD b else b
    let s := b.side e
    let r := unitSpan s.seqLen (max s.treeNodes (b.cptTop e - s.seqLen))
    let keep := fun (i : Nat) => decide (r.1 ≤ s.unitBase + i ∧ s.unitBase + i < r.1 + r.2)
    let idx := List.range s.units.length
    let us := (idx.filter keep).map (fun i => s.units.getD i 0)
    let out := (idx.filter (fun i => !keep i)).map (fun i => s.units.getD i 0)
    let b := { b with rq := { b.rq with unitFree := giveBack b.rq.unitFree out } }
    let b := (b.eset e E.UNIT_HEAD (us.head?.getD 0xFFFFFFFF)).eset e E.UNIT_COUNT us.length
    b.modSide e (fun s => { s with units := us, unitBase := max s.unitBase r.1 })

end Sys2Proof.Machine
end

