-- ==== Sys2Proof/Machine/Publish.lean ====
section
/-! DEFINITION. Publish (R36, R63): the Punnet (R174 to R181), final and turn-end records with END orders (R102, R105, R113, R114, R127),
publish counters, and entries that become FREE (R98). -/
namespace Sys2Proof.Machine
open Sys2Proof

/-- A text or codec record (R179). -/
def Block.textRecord (b : Block) (e before : Nat) (bytes : List Byte) (tokens : Nat) (repl late : Bool) : List Byte :=
  let head := leBytes 2 (if b.codec e then 4 else 1) ++ leBytes 1 (bitsOf [repl, late]) ++ zeros 1 ++ leBytes 2 e ++ leBytes 2 (b.eget e E.GENERATION)
    ++ leBytes 8 (b.eget e E.HANDLE) ++ leBytes 8 before ++ leBytes 4 bytes.length ++ leBytes 4 tokens ++ leBytes 8 b.tick
    ++ leBytes 8 (b.eget e E.VRD_SEQ) ++ zeros 12
  head ++ leBytes 4 (crc32 (head ++ bytes)) ++ padTo bytes (cdiv bytes.length 64 * 64)

/-- A final (2) or turn-end (3) stream record (R113). -/
def Block.endRecord (b : Block) (e kind : Nat) : List Byte :=
  let r := if kind = 3 then (b.side e).endReason else b.eget e E.END_REASON
  withCrc (leBytes 2 kind ++ leBytes 1 r ++ leBytes 1 (if 0x10 ≤ r ∧ r ≤ 0x13 then b.eget e E.CANCEL_CLASS else 0xFF) ++ leBytes 2 e
    ++ leBytes 2 (b.eget e E.GENERATION) ++ leBytes 8 (b.eget e E.HANDLE) ++ leBytes 8 (b.side e).endTick ++ leBytes 4 (b.eget e E.PROMPT_LEN)
    ++ leBytes 4 (b.eget e E.GENERATED) ++ leBytes 4 (b.eget e E.COMMITTED) ++ leBytes 4 (b.eget e E.DISCARDED) ++ leBytes 4 (b.eget e E.BLOCKED)
    ++ leBytes 4 (b.eget e E.TEXT_BYTES) ++ leBytes 8 (b.eget e E.VRD_SEQ) ++ leBytes 2 (b.eget e E.TENANT) ++ leBytes 2 (b.eget e E.DOMAIN))

/-- The final record may be published (R102, R105). -/
def Block.finalReady (b : Block) (e : Nat) : Bool :=
  b.eget e E.STATE == 7 && (b.side e).finalDue && b.eget e E.HELD == 0 && (softReason (b.eget e E.END_REASON) || b.eget e E.OUTSTANDING == 0)

/-- Pools with an order ring that hold pages for a request (R102): those of its list, and both sides of its orders in flight. -/
def Block.holders (b : Block) (e : Nat) : List Nat :=
  let flying := (b.rq.orders.filter (fun o => o.entry == e && b.orderLive o)).flatMap (fun o => o.pairs.flatMap (fun p => [p.1, p.2]))
  let ps := (b.pageList e ++ flying.filter (· != noPage)).filterMap (fun p => (b.poolOf p))
  ((b.rq.pools.filter (fun q => q.kind != 4 && q.ring != 0 && ps.any (fun p => p.num == q.num))).map (·.num))

/-- The END orders of a request (R102, R122); none where one cannot be published (R127). -/
def Block.putEnds (b : Block) (e : Nat) : Option Block :=
  (b.holders e).foldl (fun (r : Option Block) q => r.bind (fun b => b.putOrder
    { kind := 3, entry := e, src := q, dst := q, pairs := [], list := [], count := 0, rebuild := false, start := 0, tokens := 0, ctx := 0,
      tail := 0xFFFFFFFF, purpose := 7 })) (some b)

/-- What a Punnet carries of one entry (R174, R180): its text record, then its final or turn-end record. -/
def Block.entryRecords (b : Block) (e : Nat) : Block × List (List Byte) :=
  let before := b.eget e E.TEXT_BYTES
  let r : Block × (List Byte × Nat × Bool × Bool) := if (b.side e).bargeLate then (b, [], 0, false, false) else b.releaseText e
  let b := r.1
  let text := if r.2.1.isEmpty && r.2.2.1 == 0 then [] else [b.textRecord e before r.2.1 r.2.2.1 r.2.2.2.1 r.2.2.2.2]
  if b.finalReady e then
    match b.putEnds e with
    | none => (b, text)
    | some c => (c.modSide e (fun s => { s with finalDue := false }), text ++ [c.endRecord e 2])
  else if (b.side e).turnEnd && b.eget e E.HELD == 0 && !b.prefilling e && (b.side e).steps.all (·.compactOnly) then
    (b.modSide e (fun s => { s with turnEnd := false }), text ++ [b.endRecord e 3])
  else (b, text)

/-- A Punnet being written: its records with their ring offsets, the bytes so far, records counted, entries put off. -/
structure Pun where
  blk : Block
  segs : List (Nat × List Byte)
  used : Nat
  count : Nat
  full : Bool
  deferred : List Nat

/-- A pad record (R178). -/
def padRecord (n : Nat) : List Byte :=
  padTo (withCrc (leBytes 2 0x00FF ++ zeros 2 ++ leBytes 4 n ++ zeros 52)) n

/-- One record placed in the ring after what the Punnet holds, a pad before it where it would span the end. -/
def placeRecord (size pos : Nat) (r : List (Nat × List Byte) × Nat) (x : List Byte) : List (Nat × List Byte) × Nat :=
  let at_ := (pos + r.2) % size
  let pad := if size < at_ + x.length then size - at_ else 0
  let segs := if pad = 0 then r.1 else r.1 ++ [(at_, padRecord pad)]
  (segs ++ [((at_ + pad) % size, x)], r.2 + pad + x.length)

/-- One entry put into the Punnet, or off to the next (R181). -/
def Pun.entry (size room : Nat) (p : Pun) (e : Nat) : Pun :=
  let r := p.blk.entryRecords e
  if r.2.isEmpty then (if p.full then p else { p with blk := r.1 })
  else
    let q := r.2.foldl (placeRecord size p.blk.rq.punWritten) (p.segs, p.used)
    if p.full || room < q.2 then { p with full := true, deferred := p.deferred ++ [e] }
    else { p with blk := r.1, segs := q.1, used := q.2, count := p.count + r.2.length }

/-- The header of a Punnet (R178). -/
def punHeader (count tick total : Nat) : List Byte :=
  withCrc (leBytes 2 0 ++ zeros 2 ++ leBytes 4 count ++ leBytes 8 tick ++ leBytes 8 total ++ zeros 36)

/-- The Punnet of a tick (R178 to R181). DESIGN CHOICE (log 65): with fewer than 64 bytes of the ring free no header is written and the counter is not
put in the tick. -/
def Block.punnet (b : Block) : Block :=
  let base := b.fget F.TOK_PUN_RING_BASE
  let size := 2 ^ b.fget F.TOK_PUN_CFG_SIZE_LOG2
  let room := size - (b.rq.punWritten - b.fget F.TOK_PUN_TAKEN_TAKEN)
  let first := b.rq.punDefer.filter (fun e => b.served.contains e)
  let order := first ++ b.served.filter (fun e => !first.contains e)
  let p : Pun := order.foldl (Pun.entry size room) { blk := b, segs := [], used := 64, count := 0, full := decide (room < 64), deferred := [] }
  let b := { p.blk with rq := { p.blk.rq with punDefer := p.deferred } }
  let b := if p.deferred.isEmpty then b
    else (b.count F.TOK_CNT_B_PUN_DEFER p.deferred.length).report 4 1 p.deferred.length
  if room < 64 then b
  else
    let segs := (b.rq.punWritten % size, punHeader p.count b.tick p.used) :: p.segs
    let b := segs.foldl (fun (b : Block) x => b.agentPut (base + x.1) x.2 0 none 11 0) b
    let b := b.noteMirror (privAddr 3 (b.rq.punWritten / 64)) (leBytes 8 b.rq.punWritten ++ segs.flatMap (·.2))
    let b := { b with rq := { b.rq with punWritten := b.rq.punWritten + p.used } }
    b.announce (b.fget F.TOK_PUN_CTR_ADDR) b.rq.punWritten none 11 0

/-- The publish counters of the tick (R63, R64): every pool present that has one. -/
def Block.publishCounters (b : Block) : Block :=
  (b.rq.pools.filter (fun q => q.kind != 0 && q.kind != 4 && q.pubCtr != 0)).foldl (fun b q =>
    let b := if b.clk.maskDeadline then b.maskLate q.num else b
    let b := { b with rq := { b.rq with published := tset b.rq.published q.num b.tick } }
    b.announce q.pubCtr b.tick (some q.num) 8 1) b

/-- The pages that orders of an entry in flight read, or write as they go on (R128). -/
def Block.flyingPages (b : Block) (e : Nat) : List Nat :=
  ((b.rq.orders.filter (fun o => o.entry == e && b.orderLive o)).flatMap (fun o => o.tail :: o.pairs.flatMap (fun p => [p.1, p.2]))).filter (· != noPage)

/-- An entry becomes FREE (R98): pages freed or unpinned, those of orders in flight left without an owner until the orders end (R127, R128), the entry
cleared except GENERATION. -/
def Block.freeEntry (b : Block) (e : Nat) : Block :=
  let gen := b.eget e E.GENERATION
  let fly := b.flyingPages e
  let own := (b.ownPages e).filter (fun p => !fly.contains p)
  let b := fly.foldl (fun b p => if b.pageState p = 1 ∨ b.pageState p = 3 then b.movePage p 3 noOwner else b) b
  let b := (b.releasePages own).unpinAll e
  let b := ((b.freeExtent e).freeUnits e).freeStates e
  let b := b.dropScreenItems ((b.side e).screens.map (·.id))
  let ws := (List.replicate 32 (0 : Word)).set 0 (BitVec.ofNat 64 (gen * 65536))
  let b := { b with rq := { b.rq with table := tset b.rq.table e ws, side := tdel b.rq.side e },
                    lgr := { b.lgr with ended := b.lgr.ended + 1 } }
  b.noteMirror (b.node * 2 ^ 56 + 3 * 2 ^ 52 + e * 256) (entryBytes ws)

/-- Publish may run: Intake has closed and the tick has not been published. -/
def Block.publishable (b : Block) : Bool := b.serves && b.clk.ticking && b.clk.intakeClosed && !b.clk.published

/-- Accept for every entry that has not had it (R59), and the mask target where it has not come (R61). -/
def Block.beforePublish (b : Block) : Block :=
  (b.acceptAll b.live).maskCut

/-- The tier moves that follow a turn-end record (R141). -/
def Block.spills (b : Block) : Block :=
  (b.byPriority (b.served.filter (fun e => (b.side e).due.head? == some 3))).foldl (fun b e => b.putSpill e) b

/-- PUBLISH_PHASE (R36). -/
def Block.publish (b : Block) : Block :=
  let b := b.beforePublish.pageMoves.publishSteps
  let b := b.served.foldl (fun b e => b.trimUnits e) b
  let b := b.punnet
  let b := (b.served.foldl (fun b e => b.noteHolds e) b).spills.publishCounters
  let done := b.served.filter (fun e => b.eget e E.STATE == 7 && !(b.side e).finalDue && b.eget e E.OUTSTANDING == 0)
  let b := done.foldl (fun b e => b.freeEntry e) b
  { b with clk := { b.clk with published := true } }

/-- PUBLISH_PHASE (R36). -/
def execPublishPhase (s : State) : Host.Outcome State Fault Refusal := s.run (fun b => if b.publishable then b.publish else b)

end Sys2Proof.Machine
end

