-- ==== Sys2Proof/Machine/RemoteNsi.lean ====
section
/-! DEFINITION. The remote memory class of NSI but for TFENCE (R357, R358, R383, R387 to R393), the completion of a
posted operation (R401), and the two ways a WAIT ends. -/
namespace Sys2Proof.Machine
open Sys2Proof

/-- The fields of R357. -/
def rmRD (w : NsiBody) : Nat := nf w 15 5
def rmRA (w : NsiBody) : Nat := nf w 20 5
def rmRB (w : NsiBody) : Nat := nf w 25 5
def rmRC (w : NsiBody) : Nat := nf w 30 5
def rmPS (w : NsiBody) : Nat := nf w 35 3
def rmORD (w : NsiBody) : Nat := nf w 38 2
def rmSIZE (w : NsiBody) : Nat := nf w 40 2

/-- The encoding rules of R357: X is not allowed, SIZE 2 and 3 are reserved for scalar operations. -/
def rmEnc (w : NsiBody) (scalar : Bool) : Bool := !nfX w && nf w 42 22 == 0 && (!scalar || decide (rmSIZE w ≤ 1))

/-- Bytes an operation touches: pairs of address and length. -/
def Posted.spans (p : Posted) : List (Nat × Nat) := if p.op < 2 then [(p.a, p.len), (p.b, p.len)] else [(p.a, if p.size4 then 4 else 8)]

/-- An earlier posted operation touches one of the same aligned words (R388). -/
def wordsMeet (l m : List (Nat × Nat)) : Bool :=
  l.any (fun p => m.any (fun q => overlap (p.1 / 8 * 8) (cdiv (p.1 % 8 + p.2) 8 * 8) (q.1 / 8 * 8) (cdiv (q.1 % 8 + q.2) 8 * 8)))

/-- A memory operation may issue now: no acquire is outstanding (R390), a blocking one waits for what its order and R388 need,
a posted one for room among 64 (R358). -/
def Exec.mayIssue (e : Exec) (blocking : Bool) (ord : Nat) (sp : List (Nat × Nat)) : Bool :=
  !e.acquiring
  && (if blocking then (ord < 2 || e.posted.isEmpty) && !(e.posted.any (fun p => wordsMeet p.spans sp))
      else decide (e.posted.length < 64))

/-- A blocking release is refused with PRIOR_FAILED where RM_ERR is not 0, once the checks before the target's state have passed (R392, R526). -/
def Exec.priorFailed (e : Exec) (ord code : Nat) : Bool := decide (2 ≤ ord) && e.rmErr != 0 && (code == 0 || decide (4 ≤ code))

/-- Issue of a posted operation: the far parts leave at once, the rest waits for REMOTE_OP_COMPLETE; an operation with a far part waits while its
part at the own node shares a word with an earlier one (R388). `a` is the address ORD applies
to, `c` the second address of PUT and GET or the value. -/
def Block.post (b : Block) (x : ExecId) (w : NsiBody) (e : Exec) (op a c len : Nat) : Block :=
  let k := xkey x
  let id := b.rm.nextId
  let p : Posted := { id := id, op := op, a := a, b := c, len := len, size4 := rmSIZE w == 1, ord := rmORD w, far := 0, err := 0 }
  let near := p.spans.filter (fun q => b.isHome q.1)
  if !e.mayIssue false (rmORD w) p.spans || (near.length < p.spans.length && e.posted.any (fun q => wordsMeet q.spans near)) then b
  else
    let b := { b with rm := { b.rm with nextId := id + 1 } }
    let b := b.done x w { e with posted := e.posted ++ [p] }
    let leave := fun (kind src : Nat) (data : List Byte) (n : Nat) (dst : Option Nat) =>
      match b.outErr (keyId k) src n with
      | .error er => (b.modPosted k id (fun q => { q with err := er })).settlePosted k id
      | .ok r => ((b.modPosted k id (fun q => { q with far := (splitSpan src n).length })).farSpan k id kind r src data n (rmORD w) dst)
    let scalar := fun (kind v : Nat) =>
      match b.outErr (keyId k) a (if rmSIZE w = 1 then 4 else 8) with
      | .error er => (b.modPosted k id (fun q => { q with err := er })).settlePosted k id
      | .ok r => (b.modPosted k id (fun q => { q with far := 1 })).outOp
          { id := 0, kind := kind, route := r, addr := a, len := 0, value := v, compare := 0, data := [], ord := rmORD w,
            size4 := rmSIZE w == 1, sent := false, issued := 0, purpose := .posted k id none }
    let src := if op = 0 then c else a
    let dst := if op = 0 then a else c
    if op < 2 then
      let de := b.spanErr (.ex k) .write dst len
      if !b.isHome src then (if de ≠ 0 then (b.modPosted k id (fun q => { q with err := de })).settlePosted k id else leave 0 src [] len (some dst))
      else if !b.isHome dst then
        match b.homeRead (.ex k) src len true false with
        | .ok l => leave 1 dst l len none
        | .error er => (b.modPosted k id (fun q => { q with err := er.1 })).settlePosted k id
      else b
    else if !b.isHome a then scalar (if op = 2 then 1 else 2) c
    else b

/-- PUT and GET: alignment (ALIGN) and length (ILLEGAL) of R383. -/
def Block.bulk (b : Block) (x : ExecId) (w : NsiBody) (op : Nat) : Block :=
  b.issue x w (rmEnc w false) true (fun e =>
    let a := (e.rs (rmRA w)).toNat
    let c := (e.rs (rmRB w)).toNat
    let n := (e.rs (rmRC w)).toNat
    if a % 4 ≠ 0 then b.raise x w 6 a
    else if c % 4 ≠ 0 then b.raise x w 6 c
    else if n % 4 ≠ 0 then b.raise x w 6 a
    else if n < 4 ∨ 16777216 < n then b.raise x w 1 0
    else b.post x w e op a c n)

/-- A scalar operation's alignment (R383). -/
def Block.scalarOp (b : Block) (x : ExecId) (w : NsiBody) (run : Exec → Nat → Nat → Block) : Block :=
  b.issue x w (rmEnc w true) true (fun e =>
    let a := (e.rs (rmRA w)).toNat
    let n := if rmSIZE w = 1 then 4 else 8
    if a % n ≠ 0 then b.raise x w 6 a else run e a n)

/-- An UNCORRECTABLE answer noted at its line (R451). -/
def Block.ueAt (b : Block) (a n code : Nat) : Block := if code = 5 && gaSpace a = 0 then b.ueAnswered (gaOff a) n else b

/-- Issue of a blocking scalar operation (R358): at once at the own node, else a request whose response completes it. -/
def Block.blockOp (b : Block) (x : ExecId) (w : NsiBody) (e : Exec) (op kind a n v cmp : Nat)
    (loc : Except (Nat × Nat) (Nat × Bool × Block)) : Block :=
  let k := xkey x
  let refuse := fun (c : Nat) (far : Bool) =>
    ((b.rmFail c far false).setEx x { (e.blockDone (rmRD w) (rmPS w) (.error c)) with pc := e.pc + 8 }).noteProgress e.item
  if !e.mayIssue true (rmORD w) [(a, n)] then b
  else if b.isHome a then
    match loc with
    | .ok r =>
      let c := r.2.2
      if e.priorFailed (rmORD w) 0 then refuse 11 false else
      let e := c.ex x
      (c.setEx x { (e.blockDone (rmRD w) (rmPS w) (.ok (r.1, r.2.1))) with pc := e.pc + 8 }).noteProgress e.item
    | .error er =>
      if e.priorFailed (rmORD w) er.1 then refuse 11 false
      else (((b.ueAt a n er.1).rmFail er.1 false false).setEx x
        { (e.blockDone (rmRD w) (rmPS w) (.error er.1)) with pc := e.pc + 8 }).noteProgress e.item
  else
    match b.outErr (keyId k) a n with
    | .error c => refuse c true
    | .ok r =>
      if e.priorFailed (rmORD w) 0 then refuse 11 true
      else (b.setEx x { e with pc := e.pc + 8, blocked := .far op (rmRD w) (rmPS w) }).outOp
        { id := 0, kind := kind, route := r, addr := a, len := 0, value := v, compare := cmp, data := [], ord := rmORD w,
          size4 := n == 4, sent := false, issued := 0, purpose := .block k }

/-- A value cut to the width of a scalar operation. -/
def cut (n v : Nat) : Nat := v % 2 ^ (8 * n)

/-- PUT (R358): a posted copy of s[RC] bytes from s[RB] to s[RA]. -/
def execNsiPut (x : ExecId) (w : NsiBody) (_ext : BitVec 64) (s : State) : Host.Outcome State Fault Refusal :=
  s.run (fun b => b.bulk x w 0)

/-- GET (R358): a posted copy of s[RC] bytes from s[RA] to s[RB]. -/
def execNsiGet (x : ExecId) (w : NsiBody) (_ext : BitVec 64) (s : State) : Host.Outcome State Fault Refusal :=
  s.run (fun b => b.bulk x w 1)

/-- PUTS (R358): a posted scalar write of s[RB] to s[RA]. -/
def execNsiPuts (x : ExecId) (w : NsiBody) (_ext : BitVec 64) (s : State) : Host.Outcome State Fault Refusal :=
  s.run (fun b => b.scalarOp x w (fun e a n => b.post x w e 2 a (cut n (e.rs (rmRB w)).toNat) n))

/-- GETS (R358): a blocking scalar read, zero-extended. -/
def execNsiGets (x : ExecId) (w : NsiBody) (_ext : BitVec 64) (s : State) : Host.Outcome State Fault Refusal :=
  s.run (fun b => b.scalarOp x w (fun e a n =>
    b.blockOp x w e 3 0 a n 0 0 (match b.homeRead (.ex (xkey x)) a n false (n == 4) with
      | .ok l => .ok (leNat l, true, b.latchRead (.exec (xkey x)) a)
      | .error er => .error er)))

/-- AADD (R358): a posted atomic add. -/
def execNsiAadd (x : ExecId) (w : NsiBody) (_ext : BitVec 64) (s : State) : Host.Outcome State Fault Refusal :=
  s.run (fun b => b.scalarOp x w (fun e a n => b.post x w e 4 a (cut n (e.rs (rmRB w)).toNat) n))

/-- FADD (R358): the same, blocking, with the value before the add. -/
def execNsiFadd (x : ExecId) (w : NsiBody) (_ext : BitVec 64) (s : State) : Host.Outcome State Fault Refusal :=
  s.run (fun b => b.scalarOp x w (fun e a n =>
    let v := cut n (e.rs (rmRB w)).toNat
    b.blockOp x w e 5 3 a n v 0 (match b.homeAtomic (.ex (xkey x)) .add a (n == 4) (fun o => some (cut n (o + v))) with
      | .ok p => .ok (p.1, true, p.2.afterRegWrite a)
      | .error er => .error er)))

/-- CAS (R358): if the value at s[RA] equals s[RC], writes s[RB]; p[PS] := 1 only if the write was made. -/
def execNsiCas (x : ExecId) (w : NsiBody) (_ext : BitVec 64) (s : State) : Host.Outcome State Fault Refusal :=
  s.run (fun b => b.scalarOp x w (fun e a n =>
    let v := cut n (e.rs (rmRB w)).toNat
    let c := cut n (e.rs (rmRC w)).toNat
    b.blockOp x w e 6 4 a n v c (match b.homeAtomic (.ex (xkey x)) .cas a (n == 4) (fun o => if o = c then some v else none) with
      | .ok p => .ok (p.1, p.1 == c, p.2.afterRegWrite a)
      | .error er => .error er)))

/-- WAIT (R358, R387): completes at once where the value is already at least s[RB]; else the executor waits. -/
def execNsiWait (x : ExecId) (w : NsiBody) (_ext : BitVec 64) (s : State) : Host.Outcome State Fault Refusal :=
  s.run (fun b => b.scalarOp x w (fun e a n =>
    let t := cut 8 (e.rs (rmRB w)).toNat
    let lim := (e.rs (rmRC w)).toNat
    let till := if lim = 0 then 0 else b.clk.timeUs + lim
    let waiting := fun (v : Nat) => { e with pc := e.pc + 8, blocked := .wait a t (rmRD w) (rmPS w) (if n = 4 then 1 else 0) till v }
    let refuse := fun (b : Block) (c : Nat) (far : Bool) =>
      ((b.rmFail c far false).setEx x { (e.blockDone (rmRD w) (rmPS w) (.error c)) with pc := e.pc + 8 }).noteProgress e.item
    if !e.mayIssue true (rmORD w) [(a, n)] then b
    else if b.isHome a then
      match b.homeRead (.ex (xkey x)) a n false (n == 4) with
      | .error er => if e.priorFailed (rmORD w) er.1 then refuse b 11 false else refuse (b.ueAt a n er.1) er.1 false
      | .ok l =>
        if e.priorFailed (rmORD w) 0 then refuse b 11 false
        else
          let b := b.latchRead (.exec (xkey x)) a
          if t ≤ leNat l then (b.setEx x { (e.blockDone (rmRD w) (rmPS w) (.ok (leNat l, true))) with pc := e.pc + 8 }).noteProgress e.item
          else b.setEx x (waiting (leNat l))
    else
      match b.outErr (keyId (xkey x)) a n with
      | .error c => refuse b c true
      | .ok _ => if e.priorFailed (rmORD w) 0 then refuse b 11 true else (b.setEx x (waiting 0)).waitRead (xkey x) a (n == 4)))

/-- FENCE (R358): waits for every earlier posted operation; p[PS] := 1 if none failed; clears RM_ERR. -/
def execNsiFence (x : ExecId) (w : NsiBody) (_ext : BitVec 64) (s : State) : Host.Outcome State Fault Refusal :=
  s.run (fun b => b.issue x w (rmEnc w false) true (fun e =>
    if e.posted.isEmpty then b.done x w { (e.wp (rmPS w) (e.rmErr == 0)) with rmErr := 0 }
    else b.setEx x { e with pc := e.pc + 8, blocked := .fence (rmPS w) none }))

/-- What a posted operation does at the own node: 0 or the code of its failure. -/
def Block.perform (b : Block) (k : Nat) (p : Posted) : Block × Nat :=
  let s := Src.ex k
  let src := if p.op = 0 then p.b else p.a
  let dst := if p.op = 0 then p.a else p.b
  let n := if p.size4 then 4 else 8
  let e := b.homeErr s .write dst p.len true false
  let e0 := if p.op < 2 then (let r := b.homeErr s .read src p.len true false; if r = 0 ∨ 4 ≤ r then e else r)
    else b.homeErr s (if p.op = 2 then .write else .add) p.a n false p.size4
  if p.err ≠ 0 then (b, p.err)
  else if (b.exAt k).priorFailed p.ord e0 then (b, 11)
  else if p.op < 2 then
    match b.homeRead s src p.len true false with
    | .error er => (b, er.1)
    | .ok l => if e ≠ 0 then (b, e) else
      match b.homeWrite s dst l true false with
      | .ok c => (c, 0)
      | .error er => (b, er.1)
  else
    if p.op = 2 then
      match b.homeWrite s p.a (leBytes n p.b) false p.size4 with
      | .ok c => (c.afterRegWrite p.a, 0)
      | .error er => (b, er.1)
    else
      match b.homeAtomic s .add p.a p.size4 (fun o => some (cut n (o + p.b))) with
      | .ok r => (r.2.afterRegWrite p.a, 0)
      | .error er => (b, er.1)

/-- The first posted operation with no far part, unless a release that must wait or a word shared with an earlier one. -/
def Exec.nextLocal (e : Exec) : Option Posted :=
  match e.posted.find? (fun p => p.far == 0) with
  | none => none
  | some p =>
    let earlier := e.posted.takeWhile (fun q => q.id != p.id)
    if (p.ord ≥ 2 && !earlier.isEmpty) || earlier.any (fun q => wordsMeet q.spans p.spans) then none else some p

/-- An executor's next posted operation at the own node is performed (R358, R401); with none, nothing happens. -/
def Block.opComplete (b : Block) (x : ExecId) : Block :=
  match (b.ex x).nextLocal with
  | none => b
  | some p =>
    let r := b.perform (xkey x) p
    let c := p.spans.foldl (fun b q => b.ueAt q.1 q.2 r.2) r.1
    Block.pump 70 (xkey x) (c.postedDone (xkey x) p r.2)

/-- A WAIT at the own node observes its counter (R387). -/
def Block.waitMet (b : Block) (x : ExecId) : Block :=
  let e := b.ex x
  match e.blocked with
  | .wait a t rd ps size lim _ =>
    if b.isHome a then
      match b.homeRead (.ex (xkey x)) a (if size = 1 then 4 else 8) false (size == 1) with
      | .error er => (((b.ueAt a (if size = 1 then 4 else 8) er.1).rmFail er.1 false false).setEx x (e.blockDone rd ps (.error er.1))).noteProgress e.item
      | .ok l =>
        let b := b.latchRead (.exec (xkey x)) a
        if t ≤ leNat l then (b.setEx x (e.blockDone rd ps (.ok (leNat l, true)))).noteProgress e.item
        else b.setEx x { e with blocked := .wait a t rd ps size lim (leNat l) }
    else b
  | _ => b

/-- A WAIT whose time limit has passed (R358, R400): p[PS] := 0, rd the last value read. -/
def Block.waitOver (b : Block) (x : ExecId) : Block :=
  let e := b.ex x
  match e.blocked with
  | .wait a _ rd ps size lim last =>
    if lim = 0 then b
    else
      let b := b.advance lim
      let v := if b.isHome a then
          match b.homeRead (.ex (xkey x)) a (if size = 1 then 4 else 8) false (size == 1) with
          | .ok l => leNat l
          | .error _ => last
        else last
      let b := if b.isHome a then b.latchRead (.exec (xkey x)) a else b
      let b := { b with rm := { b.rm with out := b.rm.out.map (fun (o : OutOp) =>
        if o.purpose == Purpose.block (xkey x) then { o with purpose := .agent none 99 0 } else o) } }
      (b.setEx x (e.blockDone rd ps (.ok (v, false)))).noteProgress e.item
  | _ => b

/-- WAIT_CONDITION_MET (R358): a WAIT observes its counter at or above the target. -/
def execWaitConditionMet (x : ExecId) (s : State) : Host.Outcome State Fault Refusal := s.run (fun b => b.waitMet x)

/-- WAIT_TIMEOUT (R358). -/
def execWaitTimeout (x : ExecId) (s : State) : Host.Outcome State Fault Refusal := s.run (fun b => b.waitOver x)

end Sys2Proof.Machine
end

