-- ==== Sys2Proof/Machine/Fence.lean ====
section
/-! DEFINITION. Completion of outbound operations and of jobs, the tick fence over them (R393), and what a failed fence undoes (R394). -/
namespace Sys2Proof.Machine
open Sys2Proof

/-- A stream's step of a tick is treated as not published (R394). -/
def Block.unpublish (b : Block) (pool tick e : Nat) : Block :=
  ((b.side e).steps.filter (fun t => t.pool == pool && t.tick == tick % 2 ^ 32)).foldl (fun b t =>
    let b := b.closeStep e t
    let b := if t.cpt then b.eset e E.CPT_PEND 1 else b
    if !t.compactOnly && b.decoding e then b.poolFailed e pool else b) b

/-- A pool whose artefacts of a tick did not all arrive (R394): its streams, and its orders of the tick. -/
def Block.poolUnpublished (b : Block) (pool tick : Nat) : Block :=
  let b := b.live.foldl (fun b e => b.unpublish pool tick e) b
  (b.rq.orders.filter (fun o => o.src == pool && o.tick == tick)).foldl (fun b o => b.endOrder o 4 0 false) b

/-- Something a TFENCE of sequencer n, issued in a tick that began at `us`, still waits for (R393). -/
def Block.fenceBusy (b : Block) (n tick us : Nat) : Bool :=
  let job := fun (j : Job) => j.kind == 0 && j.seq == some n && j.tick == tick
  !(b.exAt n).posted.isEmpty
  || b.cp.units.any (fun u => (u.1 / 64 == 0 || u.1 / 64 == 2) && u.2.jobs.any job)
  || b.cp.dpass.any (fun j => j.seq == n)
  || b.rm.out.any (fun o => match o.purpose with
    | .agent pool seq _ => decide (us ≤ o.issued) && (seq == n || b.rq.orders.any (fun r => pool == some (orderKey r.seq) && seqOf r.entry == n))
    | _ => false)

/-- A TFENCE of sequencer n completes once it waits for nothing. -/
def Block.tfence (b : Block) (n : Nat) : Block :=
  let e := b.exAt n
  match e.blocked with
  | .fence ps (some (tick, us)) =>
    if b.fenceBusy n tick us then b
    else
      let bad := e.rmErr != 0 || b.rm.agentFail.contains n
      let b := b.setExAt n { (e.wp ps (!bad)) with rmErr := 0, blocked := .no }
      let b := { b with rm := { b.rm with agentFail := b.rm.agentFail.filter (· != n) } }
      if bad then (distinct ((b.rm.failPools.filter (fun p => decide (p.1 < 1000) && p.2 == n)).map (·.1))).foldl (fun b k => b.poolUnpublished k tick) b else b
  | _ => b

/-- The writes of R507 whose epoch the standby has acknowledged are performed, in order. -/
def Block.releaseHeld (b : Block) : Block :=
  let go := b.pair.heldWrites.filter (fun w => decide (w.epoch ≤ b.fget F.STA_PAIR_ACK_ACK))
  if go.isEmpty then b
  else
    let b := { b with pair := { b.pair with heldWrites := b.pair.heldWrites.filter (fun w => decide (b.fget F.STA_PAIR_ACK_ACK < w.epoch)) } }
    go.foldl (fun (b : Block) w =>
      if gaNode w.addr = b.node && gaSpace w.addr = 4 then b.setReg (gaOff w.addr) (BitVec.ofNat 64 (leNat w.data))
      else b.agentPut w.addr w.data 2 w.pool w.seq w.what) b

/-- What follows the completion of an operation or a job: writes of R507 that are acknowledged, releases that can no longer go out (R392), the completions of the block's own
orders (R123), fences, and log records that have room (R334). -/
def Block.settled (b : Block) : Block :=
  let b := (List.range 8).foldl (fun b n => b.tfence n) (b.ackSeen.releaseHeld.agentReleases.warmOrders)
  if b.log.staged.isEmpty then b else b.logPump

/-- TFENCE (R393). -/
def execNsiTfence (x : ExecId) (w : NsiBody) (_ext : BitVec 64) (s : State) : Host.Outcome State Fault Refusal :=
  s.run (fun b => b.issue x w (rmEnc w false) (isSeq x) (fun e =>
    (b.done x w { e with blocked := .fence (rmPS w) (some (b.tick, b.clk.bndUs)) }).settled))

/-- LATTICE_JOB_DONE (R361). -/
def execLatticeJobDone (unit : Nat) (fault : Bool) (far : List FarRead) (s : State) : Host.Outcome State Fault Refusal :=
  s.run (fun b => (b.jobEnd 0 unit fault [] far).settled)
/-- MATCH_JOB_DONE (R319). -/
def execMatchJobDone (unit : Nat) (fault : Bool) (far : List FarRead) (s : State) : Host.Outcome State Fault Refusal :=
  s.run (fun b => (b.jobEnd 1 unit fault [] far).settled)
/-- MASK_JOB_DONE (R362). -/
def execMaskJobDone (unit : Nat) (fault : Bool) (far : List FarRead) (s : State) : Host.Outcome State Fault Refusal :=
  s.run (fun b => (b.jobEnd 2 unit fault [] far).settled)
/-- TREE_JOB_DONE (R308). -/
def execTreeJobDone (unit : Nat) (bad : List ReadFault) (far : List FarRead) (s : State) : Host.Outcome State Fault Refusal :=
  s.run (fun b => (b.jobEnd 3 unit false bad far).settled)
/-- DPASS_DONE (R366). -/
def execDpassDone (proposals : List Proposal) (s : State) : Host.Outcome State Fault Refusal :=
  s.run (fun b => (b.draftDone proposals).settled)
/-- REMOTE_OP_COMPLETE (R401). -/
def execRemoteOpComplete (x : ExecId) (s : State) : Host.Outcome State Fault Refusal := s.run (fun b => (b.opComplete x).settled)

/-- A far-side operation gets no response within TIMEOUT_US (R399). -/
def Block.opTimeout (b : Block) (op : Nat) : Block :=
  match b.rm.out.find? (fun o => o.id == op) with
  | none => b
  | some o =>
    if 64 ≤ o.route ∧ (b.linkAt (o.route - 64)).state = 1 then b
    else (b.advance (o.issued + b.fget F.LNK_RM_CFG_TIMEOUT_US)).finishOut o (.error 9)

/-- REMOTE_TIMEOUT (R399). -/
def execRemoteTimeout (op : Nat) (s : State) : Host.Outcome State Fault Refusal := s.run (fun b => (b.opTimeout op).settled)

end Sys2Proof.Machine
end

