-- ==== Sys2Proof/Machine/Windows.lean ====
section
/-! DEFINITION. The main window: the cluster split (R67 to R70), the cyclic table (R79 to R83) and the deadline monitor with
Sloe fallback (R84 to R87, R282, R285). -/
namespace Sys2Proof.Machine
open Sys2Proof

/-- The class a cluster holds once its move is done. -/
def Block.target (b : Block) (c : Nat) : Nat := (tget b.cp.moving c).getD (b.clsOf c)

/-- The clusters of a class, moves counted where they go. -/
def Block.clustersOf (b : Block) (k : Nat) : List Nat := b.clusters.filter (fun c => b.target c == k)

/-- TICK_SPLIT shows the split (R55, R69). -/
def Block.showSplit (b : Block) : Block :=
  let n := fun (k : Nat) => (b.clustersOf k).length
  [(F.TICK_SPLIT_LANGID, 1), (F.TICK_SPLIT_INPUT, 2), (F.TICK_SPLIT_OUTPUT, 3), (F.TICK_SPLIT_DEEP, 4), (F.TICK_SPLIT_LONG, 5),
   (F.TICK_SPLIT_IDLE, 0)].foldl (fun b (p : Fld × Nat) => b.fset p.1 (n p.2)) b

/-- cost(i) of R84: the cost of R273 less what has been spent, never below 0. -/
def Block.costLeft (b : Block) (t : Item) : Nat := b.itemCost t - b.spentNow t

/-- The end of a transfer of some µs that begins at an instant: it runs in the main windows alone (R276, R281), the ticks being those that lie
a period apart from the last boundary. Both are instants of the time base. -/
def Block.spanEnd (b : Block) (from_ us : Nat) : Nat :=
  let p := max (b.fget F.TICK_PERIOD_PERIOD_US) 1
  let back := cdiv (b.clk.bndUs - from_) p * p
  let x := from_ + back - b.clk.bndUs
  let off := max (x % p) b.windowStart
  let fin := b.clk.bndUs + x / p * p + off + us + cdiv (off + us - p) (max b.windowLen 1) * b.windowStart
  if us = 0 then from_ else fin - back

/-- The time of a transfer of an object's image at a rate, in µs (R282). -/
def Block.moveTime (b : Block) (ad : Bool) (n gbps : Nat) : Nat := cdiv (b.objBytes ad n) (max (gbps * 1000) 1)

/-- When an object's copy is WARM (R276, R277, R282): now, at the end of its load, or at the end of one that waits for room and is next tried at the
boundary. A source in the own space 0 has no rate. -/
def Block.warmAt (b : Block) (ad : Bool) (n : Nat) : Nat :=
  let src := b.objSource ad n
  let us := if gaSpace src = 0 && gaNode src == b.node then 0 else b.moveTime ad n (b.fget F.MDL_RATE_COLD_GBPS)
  let waits := b.st.loads.contains (ad, n, none)
  if b.objState ad n = 3 then b.clk.timeUs
  else b.spanEnd ((b.loading ad n).getD (if waits then b.clk.bndUs + b.fget F.TICK_PERIOD_PERIOD_US else b.clk.timeUs)) us

/-- When a context can give way at the earliest (R282, R287, R288): past its minimum residence, and with the items that can run on it done. -/
def Block.leavesAt (b : Block) (c : Ctx) : Nat :=
  let k := (if c.resident then c.filledTick else b.tick) + 1 + b.fget F.MDL_CTRL_RESIDE_MIN - b.tick
  let runs := if b.blockedCtx c.adapter c.num then [] else b.itemsFor c.adapter c.num
  let work := (runs.map (fun t => b.costLeft t * 512 / max (b.rate512 (b.clustersOf t.cls)) 1)).foldl (· + ·) 0
  max (if k = 0 then b.clk.timeUs else b.clk.bndUs + k * b.fget F.TICK_PERIOD_PERIOD_US) (b.clk.timeUs + work)

/-- The first instant from `t` on at which a fill could begin (R282, R288), if there is one. -/
def Block.roomAt (b : Block) (ad : Bool) (n t : Nat) : Option Nat :=
  let full := b.adaptersFull ad
  let cand := b.st.hot.filter (b.mayLeave full)
  let fits := fun (u : Nat) =>
    let gone := cand.filter (fun c => decide (b.leavesAt c ≤ u))
    decide (b.objGranules ad n ≤ (gone.map (fun c => c.granules.length)).foldl (· + ·) b.freeCount) && !(full && gone.isEmpty)
  (sortNat (t :: (cand.map b.leavesAt).filter (fun u => decide (t < u)))).find? fits

/-- When an object is hot (R282): now, at the end of its fill, or at the end of the fill that can begin first once it is WARM; none while nothing
that lies in the hot store can make room. -/
def Block.hotAt (b : Block) (ad : Bool) (n : Nat) : Option Nat :=
  let us := b.moveTime ad n (b.fget F.MDL_RATE_FILL_GBPS)
  match b.ctx ad n with
  | some c => some (if c.resident then b.clk.timeUs else b.spanEnd c.began us)
  | none => (b.roomAt ad n (b.warmAt ad n)).map (fun u => b.spanEnd u us)

/-- The earliest start of an item, in µs from now (R282): its model and its adapters are hot. -/
def Block.startIn (b : Block) (t : Item) : Nat :=
  ((b.adaptersFor t.entry t.model).map (b.hotAt true)).foldl (fun m u => max m (u.getD (2 ^ 64))) ((b.hotAt false t.model).getD (2 ^ 64)) - b.clk.timeUs

/-- The first item of a queue projected to end after its deadline; `acc` is the projected end of the one before it, in µs from now times
`rate`, the class's rate in cluster-cycles per µs times 512. -/
def Block.lateGo (b : Block) (rate : Nat) : Nat → List Item → Option Item
  | _, [] => none
  | acc, t :: r =>
    let fin := max acc (b.startIn t * rate) + b.costLeft t * 512
    if t.deadline < b.clk.timeUs ∨ (t.deadline - b.clk.timeUs) * rate < fin then some t else b.lateGo rate fin r

/-- The first late item of a class served by some clusters. -/
def Block.lateIn (b : Block) (k : Nat) (cs : List Nat) : Option Item := b.lateGo (b.rate512 cs) 0 (b.queueOf k)

/-- `late` of R84. -/
def Block.findLate (b : Block) : Option Item :=
  clsOrder.foldl (fun r k => match r with
    | some t => some t
    | none => b.lateIn k (b.clustersOf k)) none

/-- The lowest-numbered cluster that can leave its class without an item of that class late (log 29). -/
def Block.donor (b : Block) (k : Nat) : Option Nat :=
  b.clusters.find? (fun c => let from_ := b.target c
    from_ != k && (from_ == 0 || (b.lateIn from_ ((b.clustersOf from_).filter (· != c))).isNone))

/-- The Sloe model of an item's profile, if there is one and it is hot (R84, R285). -/
def Block.sloeOf (b : Block) (t : Item) : Option Nat :=
  let p := if t.screen.isSome then b.eget t.entry E.PROFILE else t.profile
  let m := match t.screen, t.part, t.cls with
    | some _, 1, _ => 0xFFFF
    | some _, 3, _ => b.deepModel p true
    | some sid, _, _ => b.scrModel p (((b.scr t.entry sid).map (·.output)).getD false) true
    | none, _, 1 => 0xFFFF
    | none, _, 4 => b.deepModel p true
    | none, _, k => b.scrModel p (k == 3) true
  if m = 0xFFFF ∨ 4095 < p ∨ !b.profFlag p 0 ∨ m = t.model ∨ !b.resident false m then none else some m

/-- A Sloe substitution (R84, R86): partial work is discarded. -/
def Block.substitute (b : Block) (t : Item) (m : Nat) : Block :=
  let b := b.leaveExecs t.id
  let n := b.catchUp t.entry m (b.turnBefore t.entry t.screen)
  let b := b.modItem t.id (fun u => { u with model := m, sloe := true, begun := false, suspended := false, spent := 0, clusters := [],
                                             catchUp := n, tokens := t.tokens - t.catchUp + n })
  let b := match t.screen with
    | some sid => b.modScreen t.entry sid (fun s => if t.part = 3 then { s with deepSloe := true } else { s with sloe := true })
    | none => b
  let b := t.clusters.foldl (fun b c => b.clusterFree c) b
  let b := (b.count F.TICK_CNT_C_SLOE_SUBST).evt F.TICK_EVT_SLOE_USED
  let b := b.setLastUse false m
  ((b.adaptersFor t.entry m).foldl (fun b a => (b.setLastUse true a).needObject true a) b).stateAlloc t.entry m

/-- An item marked as overrun (R85): an ENQ item ends with OVERRUN; a class 3 item is held at its Accept; classes 1, 2 and 5 leave the
verdict to R74; a class 4 item gives INDETERMINATE to what raised the flag. -/
def Block.overrun (b : Block) (t : Item) : Block :=
  let b := b.dropItem t.id
  match t.screen with
  | none => (b.agentPut t.output (itemResult t 2 []) 0 none (t.entry / 8192) 0).agentAdd t.done none (t.entry / 8192) 2
  | some sid =>
    let b := b.modScreen t.entry sid (fun s => { s with overrun := true })
    if t.part = 3 then (b.dropScreenItems [sid]).reach t.entry sid 3
    else if t.cls = 3 then b
    else b.dropScreenItems [sid]

/-- Rounds of R84 until no item is late. -/
def Block.rounds : Nat → Block → Block
  | 0, b => b
  | f + 1, b =>
    match b.findLate with
    | none => b
    | some t =>
      match b.donor t.cls with
      | some c => rounds f (b.moveCluster c t.cls)
      | none =>
        match b.sloeOf t with
        | some m => rounds f (b.substitute t m)
        | none => rounds f (b.overrun t)

/-- The time of the next evaluation: the start of the main window and every EVAL_US after it. -/
def Block.evalTime (b : Block) : Nat :=
  b.windowStart + cdiv (b.tickUs - b.windowStart) (max (b.fget F.TICK_MON_EVAL_US) 1) * b.fget F.TICK_MON_EVAL_US

/-- An evaluation of the deadline monitor (R84); it runs in the main window of Full and Pair. -/
def Block.monitor (b : Block) : Block :=
  if !b.serves || !b.monitored || !b.clk.mainWindow then b
  else
    let b := b.advanceTick b.evalTime
    let b := b.retryFills
    ((b.rounds ((2 * b.clusters.length + 2) * b.cp.items.length + 8)).dispatchItems).showSplit

/-- The weights of R69 over the classes with work, each over a common denominator: pairs of class and numerator. Where every cost is 0
the weights are equal (log 30). -/
def Block.weights (b : Block) : List (Nat × Nat) :=
  let work := clsOrder.filter (fun k => b.cp.items.any (fun t => t.cls == k))
  let cost := fun (k : Nat) => ((b.queueOf k).map b.costLeft).foldl (· + ·) 0
  let time := fun (k : Nat) => max (b.fget F.TICK_MON_EVAL_US)
    (((b.queueOf k).map (fun t => t.deadline - b.clk.timeUs)).foldl min (2 ^ 64))
  let w : List (Nat × Nat) := work.map (fun k => (k, cost k * ((work.filter (· != k)).map time).foldl (· * ·) 1))
  if (w.map (·.2)).foldl (· + ·) 0 == 0 then work.map (fun k => (k, 1)) else w

/-- The best of some classes by a measure, the first of equals. -/
def bestBy (f : Nat → Int) (l : List Nat) : Option Nat :=
  l.foldl (fun r k => match r with
    | none => some k
    | some m => if f m < f k then some k else r) none

/-- Steps 3 and 4 of R69 on the counts: pairs of class and count. -/
def balance (e : Nat) (ws : List (Nat × Nat)) (s : Nat) : Nat → List (Nat × Nat) → List (Nat × Nat)
  | 0, n => n
  | f + 1, n =>
    let sum := (n.map (·.2)).foldl (· + ·) 0
    let cnt := fun (k : Nat) => tgetD n k 0
    let excess := fun (k : Nat) => ((e * tgetD ws k 0 : Nat) : Int) - ((cnt k * s : Nat) : Int)
    let put := fun (k x : Nat) => n.map (fun (p : Nat × Nat) => if p.1 = k then (k, x) else p)
    if sum < e then
      match bestBy excess (clsOrder.filter (fun k => n.any (·.1 == k))) with
      | some k => balance e ws s f (put k (cnt k + 1))
      | none => n
    else if e < sum then
      match bestBy (fun k => - excess k) ([4, 5, 2, 1, 3].filter (fun k => decide (1 < cnt k))) with
      | some k => balance e ws s f (put k (cnt k - 1))
      | none => n
    else n

/-- The counts of R69. -/
def Block.splitCounts (b : Block) : List (Nat × Nat) :=
  let e := b.clusters.length
  let ws := b.weights
  let s := (ws.map (·.2)).foldl (· + ·) 0
  balance e ws s 128 (ws.map (fun p => (p.1, max 1 (e * p.2 / s))))

/-- Clusters placed under R69: each keeps the class it holds, whatever move of it waits, while that is short of its count, the rest fill the
classes still short, in order. -/
def Block.placeSplit (b : Block) (n : List (Nat × Nat)) : Block :=
  let b := { b with cp := { b.cp with moving := [] } }
  let keep := b.clusters.foldl (fun (r : List Nat × List (Nat × Nat)) c =>
    let k := b.clsOf c
    if k ≠ 0 ∧ 0 < tgetD r.2 k 0 then (r.1, r.2.map (fun (p : Nat × Nat) => if p.1 = k then (k, p.2 - 1) else p)) else (r.1 ++ [c], r.2)) ([], n)
  let need := clsOrder.flatMap (fun k => List.replicate (tgetD keep.2 k 0) k)
  (List.range keep.1.length).foldl (fun b i =>
    let c := keep.1.getD i 0
    let k := need.getD i 0
    if b.target c = k then b else b.moveCluster c k) b

/-- The row of the table for a frame of the current tick (R79, R81). -/
def Block.tableRow (b : Block) (frame : Nat) : List Nat :=
  b.cp.table.getD ((b.tick - b.clk.tableK0) % max (b.cp.table.length / 8) 1 * 8 + frame) []

/-- A frame of the cyclic table begins: lent clusters return, those at work once their item ends (R70), each position's cluster takes its code,
and free ones take work, their own or lent (R82). TICK_SPLIT shows the first frame's row (R69). -/
def Block.startFrame (b : Block) (frame : Nat) : Block :=
  let b := { b with clk := { b.clk with frame := frame }, cp := { b.cp with lent := b.cp.lent.filter (fun p => (b.busyItem p.1).isSome) } }
  let row := b.tableRow frame
  let b := b.cp.spareFor.foldl (fun b p =>
    let k := if b.cp.posLost.contains p.1 then 0 else row.getD p.1 0
    if !b.clusterOn p.2 || (b.target p.2 == k && (tget b.cp.lent p.2).isNone) then b else b.moveCluster p.2 k) b
  (if frame = 0 then b.showSplit else b).dispatchItems

/-- The end of the turn window (R69). -/
def Block.windowEnd (b : Block) : Block :=
  if !b.serves || !b.clk.ticking || b.clk.mainWindow then b
  else
    let b := b.advanceTick b.windowStart
    let b := ({ b with clk := { b.clk with mainWindow := true } }).retryFills
    let b := if b.monitored then (b.placeSplit b.splitCounts).dispatchItems.showSplit else b.startFrame 0
    b.atPoint 5

/-- TURN_WINDOW_END (R69). -/
def execTurnWindowEnd (s : State) : Host.Outcome State Fault Refusal := s.run (fun b => b.windowEnd)

/-- MONITOR_EVAL (R84). -/
def execMonitorEval (s : State) : Host.Outcome State Fault Refusal := s.run (fun b => b.monitor)

/-- SCHEDULE_FRAME (R82): the next of the 8 frames of the main window begins, in Compact and Standard. -/
def execScheduleFrame (s : State) : Host.Outcome State Fault Refusal :=
  s.run (fun b =>
    if !b.serves || b.monitored || !b.clk.mainWindow || decide (7 ≤ b.clk.frame) then b
    else (b.advanceTick (b.windowStart + (b.clk.frame + 1) * b.windowLen / 8)).startFrame (b.clk.frame + 1))

end Sys2Proof.Machine
end

