-- ==== Sys2Proof/Machine/Stem.lean ====
section
/-! DEFINITION. The Stem ports (R404 to R413): inbound requests and their responses, responses to the block's own requests, and the
state of a port. -/
namespace Sys2Proof.Machine
open Sys2Proof

/-- A Stem port error (R407, R410, R413): reported, and a parity error or stall counts in the port's fault window. -/
def Block.stemError (b : Block) (p : Nat) (f : Fld) (window : Bool) : Block :=
  let b := (b.count (f.at p)).report 19 1 p
  if window then b.fault 4 p false else b

/-- A packet's reserved fields and LENGTH (R409, R413): 0, or the code of the answer. Request KIND 0 READ to 4 CAS. -/
def pktBad (kind : Nat) (p : Pkt) : Nat :=
  if p.flags / 8 ≠ 0 ∨ (kind ≠ 4 ∧ p.compare ≠ 0) then 1
  else if p.length = 0 then 0
  else if kind ≤ 1 ∧ 4 ≤ p.length ∧ p.length ≤ 4096 ∧ p.length % 4 = 0 then 0 else 2

/-- A success response to a request (R410). -/
def okRsp (kind tag value : Nat) (casOk : Bool) (data : List Byte) : Rsp :=
  { kind := kind, tag := tag, code := 0, detail := 0, value := value, casOk := casOk, data := data }
/-- An RSP_ERR (R409). -/
def errRsp (tag code detail : Nat) : Rsp := { kind := 10, tag := tag, code := code, detail := detail, value := 0, casOk := false, data := [] }

/-- An inbound request performed under R381 to R385 and R526: the block after it, and the answer. `wrongNode` is the code for another node. -/
def Block.inbound (b : Block) (s : Src) (wrongNode kind : Nat) (p : Pkt) : Block × Rsp :=
  let a := p.addr.toNat
  let size4 := p.flags.testBit 2
  let n := if size4 then 4 else 8
  let refuse := fun (b : Block) (e : Nat × Nat) => (b.rmFail e.1 false true, errRsp p.tag e.1 e.2)
  let bad := pktBad kind p
  if bad ≠ 0 then refuse b (bad, 0)
  else if gaNode a ≠ b.node then refuse b (wrongNode, 0)
  else if gaSpace a = 5 ∨ gaSpace a = 6 then refuse b (3, 0)
  else if kind = 0 then
    let len := if p.length = 0 then n else p.length
    match b.homeRead s a len (p.length ≠ 0) size4 with
    | .error e => refuse (b.ueAt a len e.1) e
    | .ok l => (b.latchRead s.reg a, if p.length = 0 then okRsp 8 p.tag (leNat l) false [] else okRsp 8 p.tag 0 false l)
  else if kind = 1 then
    let l := if p.length = 0 then leBytes n (cut n p.value.toNat) else (padTo p.data p.length).take p.length
    match b.homeWrite s a l (p.length ≠ 0) size4 with
    | .error e => refuse b e
    | .ok c => (c.afterRegWrite a, okRsp 9 p.tag 0 false [])
  else
    let f := fun (old : Nat) =>
      if kind = 4 then (if cut n p.compare.toNat = old then some (cut n p.value.toNat) else none) else some (old + p.value.toNat)
    match b.homeAtomic s (if kind = 4 then .cas else .add) a size4 f with
    | .error e => refuse (b.ueAt a n e.1) e
    | .ok r => (r.2.afterRegWrite a, if kind = 2 then okRsp 9 p.tag 0 false [] else okRsp 8 p.tag r.1 (kind = 4 && cut n p.compare.toNat == r.1) [])

/-- A request packet received on Stem port `pkt.port` (R411, R413). -/
def Block.stemRequest (b : Block) (kind : Nat) (p : Pkt) : Block :=
  let n := p.port
  if 8 ≤ n ∨ !(b.stemAt n).up then b
  else if !p.headerOk then b.stemError n F.MGT_STEM_PAR_ERR true
  else
    let sent := fun (b : Block) (r : Rsp) => (if r.kind = 10 then b.count (F.MGT_STEM_ERR_RSP.at n) else b).answer n r
    if !p.payloadOk then
      let b := sent (b.rmFail 5 false true) (errRsp p.tag 5 1)
      b.stemError n F.MGT_STEM_PAR_ERR true
    else
      let r := b.inbound (.stem n) 3 kind p
      (sent r.1 r.2).settled

/-- The block's outstanding request that a response answers: on the same route, with its tag, of a kind that gets such a response. -/
def Block.answered (b : Block) (route kind : Nat) (p : Pkt) : Option OutOp :=
  b.rm.out.find? (fun o => o.sent && o.route == route && o.id % 65536 == p.tag
    && (if kind = 10 then true else if kind = 9 then o.kind == 1 || o.kind == 2 else o.kind == 0 || o.kind == 3 || o.kind == 4)
    && (kind != 8 || p.length == (if o.kind = 0 then o.len else 0)))

/-- What a response gives its operation (R399, R412, R413): KIND 8 RSP_DATA, 9 RSP_ACK, 10 RSP_ERR. -/
def rspRes (kind : Nat) (p : Pkt) : FarRes :=
  if !p.payloadOk then .error 5
  else if kind = 10 then .error 10
  else .ok (p.value.toNat, (padTo p.data p.length).take p.length, p.flags.testBit 3)

/-- A response packet received on a Stem port (R410, R412, R413). -/
def Block.stemResponse (b : Block) (kind : Nat) (p : Pkt) : Block :=
  let n := p.port
  if 8 ≤ n ∨ !(b.stemAt n).up then b
  else if !p.headerOk then b.stemError n F.MGT_STEM_PAR_ERR true
  else
    let b := if kind = 10 then b.count (F.MGT_STEM_ERR_RSP.at n) else b
    let b := if p.payloadOk then b else b.stemError n F.MGT_STEM_PAR_ERR true
    match b.answered n kind p with
    | none => b.stemError n F.MGT_STEM_DROP false
    | some o => (b.finishOut o (rspRes kind p)).settled

/-- STEM_READ (R411). -/
def execStemRead (pkt : Pkt) (s : State) : Host.Outcome State Fault Refusal := s.run (fun b => b.stemRequest 0 pkt)
/-- STEM_WRITE (R411). -/
def execStemWrite (pkt : Pkt) (s : State) : Host.Outcome State Fault Refusal := s.run (fun b => b.stemRequest 1 pkt)
/-- STEM_AADD (R411). -/
def execStemAadd (pkt : Pkt) (s : State) : Host.Outcome State Fault Refusal := s.run (fun b => b.stemRequest 2 pkt)
/-- STEM_FADD (R411). -/
def execStemFadd (pkt : Pkt) (s : State) : Host.Outcome State Fault Refusal := s.run (fun b => b.stemRequest 3 pkt)
/-- STEM_CAS (R411). -/
def execStemCas (pkt : Pkt) (s : State) : Host.Outcome State Fault Refusal := s.run (fun b => b.stemRequest 4 pkt)
/-- STEM_RSP_DATA (R410). -/
def execStemRspData (pkt : Pkt) (s : State) : Host.Outcome State Fault Refusal := s.run (fun b => b.stemResponse 8 pkt)
/-- STEM_RSP_ACK (R410). -/
def execStemRspAck (pkt : Pkt) (s : State) : Host.Outcome State Fault Refusal := s.run (fun b => b.stemResponse 9 pkt)
/-- STEM_RSP_ERR (R412). -/
def execStemRspErr (pkt : Pkt) (s : State) : Host.Outcome State Fault Refusal := s.run (fun b => b.stemResponse 10 pkt)

/-- Credits of a virtual channel returned to the block (R406). -/
def Block.stemCredits (b : Block) (p vc n : Nat) : Block :=
  let k := b.stemAt p
  if 8 ≤ p ∨ !k.up ∨ 1 < vc ∨ n = 0 ∨ 15 < n then b
  else (b.setStem p (if vc = 0 then { k with req := k.req + n } else { k with rsp := k.rsp + n })).trySend

/-- STEM_CREDIT_RETURN (R406). -/
def execStemCreditReturn (port vc count : Nat) (s : State) : Host.Outcome State Fault Refusal := s.run (fun b => b.stemCredits port vc count)

/-- A port comes up (R408), in any stage, unless it is retired; its credits come with the returns that follow (log 31). -/
def Block.stemUp (b : Block) (p : Nat) : Block :=
  let k := b.stemAt p
  if 8 ≤ p ∨ k.up ∨ k.retired then b else (b.setStem p { k with up := true, req := 0, rsp := 0 }).trySend

/-- STEM_PORT_UP (R408). -/
def execStemPortUp (port : Nat) (s : State) : Host.Outcome State Fault Refusal := s.run (fun b => b.stemUp port)

/-- STEM_PORT_DOWN (R408). -/
def execStemPortDown (port : Nat) (s : State) : Host.Outcome State Fault Refusal :=
  s.run (fun b => if 8 ≤ port ∨ !(b.stemAt port).up then b else (b.stemDown port).settled)

/-- STEM_TX_STALL (R407): an offered beat has waited 65,536 cycles. -/
def execStemTxStall (port : Nat) (s : State) : Host.Outcome State Fault Refusal :=
  s.run (fun b => if 8 ≤ port ∨ !(b.stemAt port).up then b else (b.stemError port F.MGT_STEM_STALL true).settled)

end Sys2Proof.Machine
end

