-- ==== Sys2Proof/Machine/Links.lean ====
section
/-! DEFINITION. The links (R429 to R443): flits with their acknowledgements and credits, replay, training, lanes, and the packets
they carry. -/
namespace Sys2Proof.Machine
open Sys2Proof

/-- A link carries traffic. -/
def Link.live (k : Link) : Bool := k.state == 2 || k.state == 3

/-- An ACK (R435): flits up to the named SEQ leave the retry buffer, and their credits move from INFLIGHT to PEER. -/
def Link.ack (k : Link) (seq : Nat) : Link :=
  if !k.retry.any (fun f => f.1 == seq) then k
  else
    let n := (k.retry.takeWhile (fun f => f.1 != seq)).length + 1
    (k.retry.take n).foldl (fun (k : Link) f => { k with inflight := vcSub k.inflight f.2.1 1, peer := vcAdd k.peer f.2.1 1 })
      { k with retry := k.retry.drop n }

/-- A credit return on a virtual channel (R435): credits move from PEER to HELD, no more than PEER holds (log 32). -/
def Link.credit (k : Link) (vc total : Nat) : Link :=
  let d := min ((total + 65536 - vcGet k.crdSeen vc % 65536) % 65536) (vcGet k.peer vc)
  let seen := if vc = 0 then (total % 65536, k.crdSeen.2) else (k.crdSeen.1, total % 65536)
  { k with peer := vcSub k.peer vc d, held := vcAdd k.held vc d, crdSeen := seen }

/-- The acknowledgement and credits of a flit whose CRC holds, ACK first (R432, R435). -/
def Link.returns (k : Link) (f : Flit) : Link :=
  let k := if f.ackValid then k.ack f.ack else k
  (k.credit 0 f.crdReq).credit 1 f.crdRsp

/-- Flits from a SEQ on are sent again. -/
def Link.resend (k : Link) (seq : Nat) : Link :=
  let n := (k.retry.takeWhile (fun f => f.1 != seq)).length
  { k with retry := k.retry.take n ++ (k.retry.drop n).map (fun f => (f.1, f.2.1, f.2.2 + 1)) }

/-- A flit has been sent 8 times without an acknowledgement (R436). -/
def Link.worn (k : Link) : Bool := k.retry.any (fun f => decide (8 ≤ f.2.2))

/-- A replay (R436): counted, a transient of the link, and past its limit a retraining. -/
def Block.replay (b : Block) (l seq : Nat) : Block :=
  let k := b.linkAt l
  if !k.live || !k.retry.any (fun f => f.1 == seq) then b
  else
    let b := b.setLink l (k.resend seq)
    let b := (b.count (F.LNK_STAT_REPLAYS.at l)).evt F.LNK_EVT_REPLAY
    let b := b.fault 1 l false
    if (b.linkAt l).worn then b.retrain l else b

/-- A received flit's returns applied, and what can now be sent is sent. -/
def Block.linkReturns (b : Block) (l : Nat) (f : Flit) : Block :=
  if f.crcOk && (b.linkAt l).live then (b.setLink l ((b.linkAt l).returns f)).trySend else b

/-- A DATA flit (R436): taken where its CRC holds and its SEQ is the one expected, else discarded with a NAK on the first discard. -/
def Block.dataFlit (b : Block) (l : Nat) (f : Flit) : Block :=
  if !(b.linkAt l).live then b
  else
    let b := b.linkReturns l f
    let k := b.linkAt l
    if f.crcOk && f.seq == k.rxSeq && decide (f.vc ≤ 1) then
      b.setLink l { k with rxSeq := (k.rxSeq + 1) % 4096, nakSent := false, rxHeld := vcAdd k.rxHeld f.vc 1 }
    else b.setLink l { k with nakSent := true }

/-- LINK_DATA_FLIT (R436). -/
def execLinkDataFlit (link : Nat) (flit : Flit) (s : State) : Host.Outcome State Fault Refusal :=
  s.run (fun b => if 64 ≤ link then b else b.dataFlit link flit)

/-- LINK_NAK_FLIT (R436): the sender replays from the named SEQ. -/
def execLinkNakFlit (link : Nat) (flit : Flit) (s : State) : Host.Outcome State Fault Refusal :=
  s.run (fun b => if 64 ≤ link ∨ !flit.crcOk then b else (b.linkReturns link flit).replay link (flit.expect % 4096))

/-- LINK_IDLE_FLIT (R432): acknowledgement and credits only. -/
def execLinkIdleFlit (link : Nat) (flit : Flit) (s : State) : Host.Outcome State Fault Refusal :=
  s.run (fun b => if 64 ≤ link then b else b.linkReturns link flit)

/-- LINK_ACK_TIMEOUT (R436): ACK has made no progress for 4 µs; the sender replays from the oldest flit. -/
def execLinkAckTimeout (link : Nat) (s : State) : Host.Outcome State Fault Refusal :=
  s.run (fun b => if 64 ≤ link then b else match (b.linkAt link).retry.head? with
    | some f => b.replay link f.1
    | none => b)

/-- The lanes a training covers: those in service, or all four in a test (R442). -/
def Link.trains (k : Link) : Nat := if k.testing then 15 else k.lanes

/-- LINK_CTRL_FLIT (R437): what the peer sends in step 3 is kept; on a link that does not train it has no effect. -/
def execLinkCtrlFlit (link : Nat) (ctrl : Ctrl) (s : State) : Host.Outcome State Fault Refusal :=
  s.run (fun b =>
    let k := b.linkAt link
    if 64 ≤ link ∨ !ctrl.crcOk ∨ !(k.state == 1 || k.testing) then b else b.setLink link { k with ctrl := some ctrl })

/-- A training failed (R438): an uncorrectable fault of the link, and the next attempt at once where that does not retire it, a retraining where FRESH is 0. -/
def Block.trainFail (b : Block) (l : Nat) : Block :=
  let b := b.fault 1 l true
  let k := b.linkAt l
  if k.state = 1 then
    let b := b.setLink l { k with ctrl := none }
    if k.fresh then b else (b.count (F.LNK_STAT_RETRAINS.at l)).evt F.LNK_EVT_RETRAIN
  else b

/-- The result of a test training (R442). -/
def Block.testDone (b : Block) (l result : Nat) : Block :=
  let k := b.linkAt l
  let c := k.ctrl
  let b := b.setLink l { k with testing := false, ctrl := none }
  ((b.fset (F.LNK_STAT_TEST.at l) result).evt F.LNK_EVT_TEST_DONE).report 12 5
    (l + 256 * result + 65536 * ((c.map (·.node)).getD 0) + 2 ^ 24 * ((c.map (·.link)).getD 0))

/-- Signal on the lanes a training uses (R437). -/
def Link.signal (k : Link) : Bool := k.oeReady && k.los &&& lanesUsed k.trains == 0

/-- A training finishes (R437, R439, R440): the peer's CTRL flit has come, and the link is UP or DEGRADED, or the training has failed. -/
def Block.trainDone (b : Block) (l : Nat) : Block :=
  let k := b.linkAt l
  match k.ctrl with
  | none => b
  | some c =>
    if !k.signal then b
    else if b.pairLink l && !(c.node == b.fget F.LNK_NODE_PEER && c.link == l) then b
    else if k.testing then b.testDone l 1
    else if k.state ≠ 1 then b
    else if !k.fresh && (c.fresh || c.node ≠ k.peerNode || c.link ≠ k.peerLink) then (b.report 12 6 l).trainFail l
    else if k.fresh && !c.fresh then b
    else
      let n := popcount 4 k.lanes
      if n < 2 ∨ (n < 4 ∧ b.fget F.LNK_CTRL_DEGRADE_EN = 0) then b.retireLink l
      else
        let k := if k.fresh then
            { k with retry := [], held := (c.grantReq, c.grantRsp), inflight := (0, 0), peer := (0, 0), grant := (c.grantReq, c.grantRsp),
                     txSeq := c.seq % 4096, rxSeq := 0, crdSeen := (0, 0), crdGiven := (0, 0), rxHeld := (0, 0) }
          else k.resend (c.seq % 4096)
        let again := !k.fresh
        let b := b.setLink l { k with state := if n = 4 then 2 else 3, fresh := false, nakSent := false, ctrl := none,
                                      peerNode := c.node, peerLink := c.link }
        let b := if n = 4 then b else b.report 12 2 l
        let b := if again then b.fault 1 l false else b
        let b := if (b.linkAt l).live && (b.linkAt l).worn then b.retrain l else b
        b.trySend

/-- LINK_TRAIN_DONE (R437). -/
def execLinkTrainDone (link : Nat) (s : State) : Host.Outcome State Fault Refusal :=
  s.run (fun b => if 64 ≤ link then b else (b.trainDone link).settled)

/-- LINK_TRAIN_TIMEOUT (R438): TRAIN_MS has passed without a finished training. -/
def execLinkTrainTimeout (link : Nat) (s : State) : Host.Outcome State Fault Refusal :=
  s.run (fun b =>
    let k := b.linkAt link
    if 64 ≤ link then b
    else if k.testing then b.testDone link 2
    else if k.state = 1 then (b.trainFail link).settled
    else b)

/-- A retraining that something outside asks for (R437). -/
def Block.retrainNow (b : Block) (l : Nat) : Block :=
  b.retrain l

/-- LINK_LOS_CHANGE (R437, R442): a lane in use without signal retrains the link; a retired link that regains at least two lanes begins a test. -/
def execLinkLosChange (link : Nat) (los : BitVec 4) (s : State) : Host.Outcome State Fault Refusal :=
  s.run (fun b =>
    if 64 ≤ link then b
    else
      let k := b.linkAt link
      let b := (b.setLink link { k with los := los.toNat }).count (F.LIF_OE_EVENTS.at (link / 8)) (popcount 4 (los.toNat &&& (15 - k.los)))
      if k.state = 4 then
        if 2 ≤ popcount 4 (k.los &&& (15 - los.toNat)) && !k.testing then b.setLink link { k with los := los.toNat, testing := true, ctrl := none }
        else b
      else if los.toNat &&& lanesUsed k.lanes ≠ 0 then b.retrainNow link else b)

/-- OE_FAULT_RISE (R437). -/
def execOeFaultRise (link : Nat) (s : State) : Host.Outcome State Fault Refusal :=
  s.run (fun b => if 64 ≤ link then b else b.retrainNow link)

/-- OE_READY_CHANGE (R437): step 1 of a training waits for it. -/
def execOeReadyChange (link : Nat) (ready : Bool) (s : State) : Host.Outcome State Fault Refusal :=
  s.run (fun b => if 64 ≤ link then b else b.setLink link { (b.linkAt link) with oeReady := ready })

/-- FEC_LOCK_LOSS (R437). -/
def execFecLockLoss (link : Nat) (s : State) : Host.Outcome State Fault Refusal :=
  s.run (fun b => if 64 ≤ link then b else b.retrainNow link)

/-- LANE_SER_INTERVAL (R443): a 1 ms interval with more than SER_MAX symbols corrected on a lane in service, or a loss of lock on a lane in
use, is a transient of the lane. -/
def execLaneSerInterval (link lane corrected : Nat) (lockLost : Bool) (s : State) : Host.Outcome State Fault Refusal :=
  s.run (fun b =>
    let k := b.linkAt link
    if 64 ≤ link ∨ 4 ≤ lane ∨ !(k.live || k.state == 1) ∨ !k.lanes.testBit lane then b
    else if b.fget F.LNK_CTRL_SER_MAX < corrected || (lockLost && (lanesUsed k.lanes).testBit lane) then (b.fault 0 (4 * link + lane) false).settled
    else b)

/-- RETIRED_LINK_PROBE (R441): a retired link sends a CTRL request flit. -/
def execRetiredLinkProbe (link : Nat) (s : State) : Host.Outcome State Fault Refusal :=
  s.run (fun b =>
    let k := b.linkAt link
    if 64 ≤ link ∨ k.state ≠ 4 then b else b.setLink link { k with probes := k.probes + 1 })

/-- Flits of a packet that leave the receive buffer: their credits go back to the peer (R434). -/
def Block.freeRx (b : Block) (l vc : Nat) (data : List Byte) : Block :=
  let k := b.linkAt l
  let n := min (flitsOf data) (vcGet k.rxHeld vc)
  let g := vcAdd k.crdGiven vc n
  b.setLink l { k with rxHeld := vcSub k.rxHeld vc n, crdGiven := (g.1 % 65536, g.2 % 65536) }

/-- A request packet on a link (R433, R411): performed and answered there. -/
def Block.linkRequest (b : Block) (l kind : Nat) (p : Pkt) : Block :=
  if 64 ≤ l ∨ !(b.linkAt l).live then b
  else
    let b := b.freeRx l 0 p.data
    if 4 < kind then ((b.rmFail 1 false true).answer (64 + l) (errRsp p.tag 1 0)).settled
    else
      let r := b.inbound (.link l) 8 kind p
      (r.1.answer (64 + l) r.2).settled

/-- LINK_REQUEST_PACKET (R433). -/
def execLinkRequestPacket (link kind : Nat) (pkt : Pkt) (s : State) : Host.Outcome State Fault Refusal :=
  s.run (fun b => b.linkRequest link kind pkt)

/-- A response packet on a link (R433, R410): one that answers nothing is discarded. -/
def Block.linkResponse (b : Block) (l kind : Nat) (p : Pkt) : Block :=
  if 64 ≤ l ∨ !(b.linkAt l).live ∨ !(kind == 8 || kind == 9 || kind == 10) then b
  else
    let b := b.freeRx l 1 p.data
    match b.answered (64 + l) kind p with
    | none => b
    | some o => (b.finishOut o (rspRes kind { p with payloadOk := true })).settled

/-- LINK_RESPONSE_PACKET (R433). -/
def execLinkResponsePacket (link kind : Nat) (pkt : Pkt) (s : State) : Host.Outcome State Fault Refusal :=
  s.run (fun b => b.linkResponse link kind pkt)

end Sys2Proof.Machine
end

