-- ==== Sys2Proof/Machine/Stacks.lean ====
section
/-! DEFINITION. The stacks (R448 to R456): what reading one gang line gives, the rebuild walk, patrol scrub, the interface's
retraining, the catastrophic temperature pin, and the MEM commands. -/
namespace Sys2Proof.Machine
open Sys2Proof

/-- Positions of a gang that a read of a line takes as erased for a rebuild (R453): those being rebuilt, at the walk's line and above. -/
def Stack.rebuilding (k : Stack) (g line : Nat) : List Nat :=
  match k.rebuild.find? (fun r => r.1 == g) with
  | some r => if r.2.2 ≤ line then r.2.1.map (· % 18) else []
  | none => []

/-- DETAIL of an uncorrectable line (R461): stack, gang, gang line. -/
def lineDetail (n g line : Nat) : Nat := n + 16 * g + 64 * line

/-- A gang line lies in the Keep region of its stack (R456). -/
def Stack.keepLine (k : Stack) (line : Nat) : Bool := decide (k.lines ≤ line + 32768)

/-- Where a gang line's data lie: in the Keep regions, or in space 0 (R375, R449). -/
def Block.lineAt (b : Block) (n g line : Nat) : Nat :=
  let k := b.stackAt n
  let a := (3 * line + g) * 512
  if k.keepLine line then keepAddr n g ((line + 32768 - k.lines) * 512) else (a / 4096 * max b.stacksS 1 + n) * 4096 + a % 4096

/-- The 512 data bytes of a gang line. -/
def Block.lineData (b : Block) (n g line : Nat) : List Byte :=
  mrdN (if (b.stackAt n).keepLine line then b.mem.keep else b.mem.stack) (b.lineAt n g line) 512

/-- A gang line written, its check symbols with it (R452). -/
def Block.putLine (b : Block) (n g line : Nat) (l : List Byte) : Block :=
  if (b.stackAt n).keepLine line then { b with mem := { b.mem with keep := mwrN b.mem.keep (b.lineAt n g line) l } } else b.wr0 (b.lineAt n g line) l

/-- Codeword j of a line as its bursts return it (R449), and its erased places. -/
def recvWord (l : List Byte) (r : BurstRead) (gone : List Nat) (j : Nat) : List Nat × List Nat :=
  (((r.flips.filter (fun f => f.2.1 / 4 == j)).foldl (fun c f =>
      let i := 4 * f.1 + f.2.1 % 4
      c.set i (c.getD i 0 ^^^ f.2.2.toNat)) (lineWord l j)), gone.flatMap positionPlaces)

/-- One codeword of a read: what it decodes to, and the positions it corrects (R451). A codeword that comes as it was written, with nothing erased,
decodes to itself. -/
def readWord (l : List Byte) (r : BurstRead) (gone : List Nat) (j : Nat) : Option (List Nat) × List Nat :=
  if gone.isEmpty && !r.flips.any (fun f => f.2.1 / 4 == j && f.2.2 != 0) then (some ((List.range 64).map (fun s => (l.getD (64 * j + s) 0).toNat)), [])
  else
    let c := recvWord l r gone j
    match rsDecode c.1 c.2 with
    | none => (none, [])
    | some d => (some (d.take 64), (List.range 18).filter (fun p => (positionPlaces p).any (fun i => decide (d.getD i 0 ≠ c.1.getD i 0))))

/-- A read of a line, `gone` the positions being rebuilt: the data, where every codeword decodes, and the positions corrected. -/
def readBursts (l : List Byte) (r : BurstRead) (gone : List Nat) : Option (List Byte) × List Nat :=
  let erased := distinct (gone ++ r.sev)
  let ws := (List.range 8).map (readWord l r erased)
  (if ws.all (·.1.isSome) then some (ws.flatMap (fun w => (w.1.getD []).map (BitVec.ofNat 8))) else none, ws.flatMap (·.2))

/-- A line of a gang read (R451): whether every codeword decodes in the end, and the block with the corrections counted, the corrected line written
back, and the faults of the pseudo-channels recorded: a transient where a position is corrected or erased, an uncorrectable fault of those that supplied
an erasure to a read that failed. Positions being rebuilt record nothing. -/
def Block.lineRead (b : Block) (n g line : Nat) (r : LineRead) : Bool × Block :=
  let gone := (b.stackAt n).rebuilding g line
  let l := b.lineData n g line
  let r1 := readBursts l r.first gone
  let again := r1.1.isNone
  let last := if again then r.second else r.first
  let r2 := if again then readBursts l r.second gone else r1
  let ok := r2.1.isSome
  let own := fun (ps : List Nat) => (List.range 18).filter (fun p => ps.contains p && !gone.contains p)
  let failed := if ok then [] else own r.second.sev
  let touched := (own (r.first.sev ++ last.sev ++ (if ok then r2.2 else []))).filter (fun p => !failed.contains p)
  let b := b.count F.MEM_CNT_A_INNER_CE (r.first.innerCorrected + (if again then r.second.innerCorrected else 0))
  let b := if again then b.count F.MEM_CNT_B_REREAD else b
  let b := if ok && !(gone.isEmpty && last.sev.isEmpty && r2.2.isEmpty) then b.count F.MEM_CNT_A_OUTER_CE else b
  let key := lineKey n ((3 * line + g) * 512)
  let d := r2.1.getD l
  let b := if d = l then b else b.putLine n g line d
  let b := { b with mem := { b.mem with badLines := if ok then tdel b.mem.badLines key else tset b.mem.badLines key failed } }
  let b := (touched.map (b.pchAt n g)).foldl (fun b c => b.fault 2 c false) b
  (ok, (failed.map (b.pchAt n g)).foldl (fun b c => b.fault 2 c true) b)

/-- A gang line written with encoded zeros (R454), Keep lines included. -/
def Block.zeroLine (b : Block) (n g line : Nat) : Block := b.putLine n g line (zeros 512)

/-- The rebuild walk of a gang advances by one line (R453), or the walk of zeros of a released one (R454); in the main window only. -/
def Block.rebuildStep (b : Block) (n g : Nat) (r : LineRead) : Block :=
  if !b.run? || !b.clk.mainWindow then b
  else
    match (b.stackAt n).rebuild.find? (fun x => x.1 == g) with
    | none => b
    | some (_, ps, line) =>
      let b := if ps.isEmpty then b.zeroLine n g line
        else
          let x := b.lineRead n g line r
          if x.1 then x.2 else (x.2.count F.MEM_CNT_B_UE).report 13 4 (lineDetail n g line)
      let k := b.stackAt n
      if !k.rebuild.contains (g, ps, line) then b
      else if k.lines ≤ line + 1 then
        let b := b.setStack n { k with rebuild := k.rebuild.filter (fun x => x.1 != g) }
        (b.evt F.MEM_EVT_REBUILD_DONE).report 13 6 (n + 16 * g)
      else b.setStack n { k with rebuild := k.rebuild.map (fun x => if x.1 = g then (g, ps, line + 1) else x) }

/-- REBUILD_STEP (R453). -/
def execRebuildStep (stack gang : Nat) (read : LineRead) (s : State) : Host.Outcome State Fault Refusal :=
  s.run (fun b => (b.rebuildStep stack gang read).settled)

/-- Patrol scrub reads the next line of a gang in service, in ascending order, in the main window only (R455). -/
def Block.scrubStep (b : Block) (n : Nat) (r : LineRead) : Block :=
  let k := b.stackAt n
  if !b.run? || !b.clk.mainWindow || !k.up || k.lines == 0 then b
  else
    match ((List.range 3).map (fun i => (k.scrub + i) % (3 * k.lines))).find? (fun l => k.gangs.getD (l % 3) false) with
    | none => b
    | some l =>
      let b := b.setStack n { k with scrub := (l + 1) % (3 * k.lines) }
      let x := b.lineRead n (l % 3) (l / 3) r
      if x.1 then x.2
      else ((x.2.count F.MEM_CNT_B_SCRUB_UE).evt F.MEM_EVT_SCRUB_UE).report 13 5 (lineDetail n (l % 3) (l / 3))

/-- SCRUB_STEP (R455). -/
def execScrubStep (stack : Nat) (read : LineRead) (s : State) : Host.Outcome State Fault Refusal :=
  s.run (fun b => (b.scrubStep stack read).settled)

/-- STACK_INTERFACE_RETRAIN (R443): a transient of the stack, or uncorrectable where the retraining fails. -/
def execStackInterfaceRetrain (stack : Nat) (ok : Bool) (s : State) : Host.Outcome State Fault Refusal :=
  s.run (fun b => if 12 ≤ stack ∨ !(b.stackAt stack).up then b else (b.fault 3 stack (!ok)).settled)

/-- CATTRIP (R477): on the rise the stack is retired at once and reported; the level is kept for its release. -/
def execCattrip (stack : Nat) (high : Bool) (s : State) : Host.Outcome State Fault Refusal :=
  s.run (fun b =>
    let k := b.stackAt stack
    if 12 ≤ stack ∨ k.cattrip = high then b
    else
      let b := b.setStack stack { k with cattrip := high }
      if !high then b
      else (((b.evt F.THM_EVT_CATTRIP).report 15 4 stack).retireStack stack).settled)

/-- MEM_CMD written (R459): it waits for the next tick boundary. -/
def Block.memCmd (b : Block) (src : RegSrc) (v : Word) : Block :=
  b.regWrite src 0x1908 v (b.fget F.MEM_CMD_STATUS == 1) (fun b =>
    (b.status F.MEM_CMD_STATUS 1).atBoundary (if wfld v F.MEM_CMD_OP = 1 then 17 else 18) (wfld v F.MEM_CMD_UNIT) (wfld v F.MEM_CMD_STACK)
      (wfld v F.MEM_CMD_PCH))

/-- The word of MEM_CMD. -/
def memWord (op unit stack pch : Nat) : Word :=
  wput [(F.MEM_CMD_OP, op), (F.MEM_CMD_UNIT, unit), (F.MEM_CMD_STACK, stack), (F.MEM_CMD_PCH, pch)]

/-- MEM_CMD_RELEASE (R454). -/
def execMemCmdRelease (src : RegSrc) (unit stack pch : Nat) (s : State) : Host.Outcome State Fault Refusal :=
  s.run (fun b => b.memCmd src (memWord 1 unit stack pch))

/-- MEM_CMD_RETIRE (R459). -/
def execMemCmdRetire (src : RegSrc) (unit stack pch : Nat) (s : State) : Host.Outcome State Fault Refusal :=
  s.run (fun b => b.memCmd src (memWord 2 unit stack pch))

/-- A gang waits to return (R454): its lines are written with zeros. -/
def Stack.comeBack (k : Stack) (g : Nat) : Stack :=
  if k.gangs.getD g false then k
  else { k with back := if k.back.contains g then k.back else k.back ++ [g], rebuild := k.rebuild.filter (fun r => r.1 != g) ++ [(g, [], 0)] }

/-- A MEM release takes effect (R445, R454); STATUS as R459 gives it. -/
def Block.memRelease (b : Block) (unit n pch : Nat) : Block :=
  let k := b.stackAt n
  let done := fun (b : Block) => (b.status F.MEM_CMD_STATUS 0).count F.LIF_RETIRE_RELEASES
  if !((tget b.io.stks n).isSome) then b.status F.MEM_CMD_STATUS 3
  else if unit = 0 then
    if !k.out.testBit pch then b.status F.MEM_CMD_STATUS 2
    else
      let k := { k with out := k.out - 2 ^ pch }
      let k := match k.posOf pch with
        | some i => k.comeBack (i / 18)
        | none => { k with spares := sortNat (pch :: k.spares) }
      ((done (b.setStack n k)).clearWindow 2 (n * 64 + pch)).retirementChanged
  else if !k.retired ∨ k.cattrip then b.status F.MEM_CMD_STATUS 2
  else
    let k := [0, 1, 2].foldl Stack.comeBack { k with up := true, retired := false }
    ((done (b.setStack n k)).clearWindow 3 n).retirementChanged

/-- A MEM retirement by command takes effect. -/
def Block.memRetire (b : Block) (unit n pch : Nat) : Block :=
  if !((tget b.io.stks n).isSome) then b.status F.MEM_CMD_STATUS 3
  else ((if unit = 0 then b.retirePch n pch else b.retireStack n).status F.MEM_CMD_STATUS 0)

/-- Released gangs with every position in service and every line written return (R454). -/
def Block.gangsReturn (b : Block) : Block :=
  (b.io.stks.map (·.1)).foldl (fun b n =>
    let k := b.stackAt n
    let ok := k.back.filter (fun g => !k.rebuild.any (fun r => r.1 == g) && k.up
      && (List.range 18).all (fun p => !k.out.testBit (k.posmap.getD (18 * g + p) 0)))
    if ok.isEmpty then b
    else (b.setStack n { k with gangs := ok.foldl (fun l g => l.set g true) k.gangs, back := k.back.filter (fun g => !ok.contains g) }).retirementChanged) b

end Sys2Proof.Machine
end

