-- ==== Sys2Proof/Machine/Power.lean ====
section
/-! DEFINITION. Power and thermal (R462 to R478): samples and windows, the sources of the control power, the governor, the thermal
sensors, the trip; the arithmetic clock and the quads at a tick boundary. -/
namespace Sys2Proof.Machine
open Sys2Proof

def sumN (l : List Nat) : Nat := l.foldl (· + ·) 0

/-- The measured power of a sample in mW: the four segments' voltage times current, if all four answered (R469). -/
def measured (p : Sample) : Option Nat :=
  if p.segs.length = 4 ∧ p.segs.all (·.isSome) then some (sumN (p.segs.map (fun x => (x.map (fun v => v.1 * v.2)).getD 0)) / 1000) else none

/-- The core power used for control (R470), in a state; a NORMAL sample without a measurement uses E. -/
def Block.control (b : Block) (source e : Nat) (m : Option Nat) : Nat :=
  match source, m with
  | 0, some m => max e m
  | 0, none => e
  | 1, some m => m + b.fget F.PWR_DIV_MARGIN_W * 1000
  | _, _ => e * 13 / 10

/-- W as a register shows it. -/
def watts (mw : Nat) : Nat := min (mw / 1000) 1023

/-- What a window with a measurement does to the state (R470); `far` tells that E and M differ by more than a quarter of M. -/
def Block.windowState (b : Block) (far : Bool) (ew mw : Nat) : Block :=
  let p := b.pw
  match b.fget F.PWR_STAT_SOURCE with
  | 0 =>
    if !far then { b with pw := { p with divIn := 0 } }
    else if p.divIn + 1 < 8 then { b with pw := { p with divIn := p.divIn + 1 } }
    else ((({ b with pw := { p with divIn := 0, divOut := 0 } }).fset F.PWR_STAT_SOURCE 1).evt F.PWR_EVT_DIVERGE).report 14 1 (ew + 65536 * mw)
  | 1 =>
    if far then { b with pw := { p with divOut := 0 } }
    else if p.divOut + 1 < 64 then { b with pw := { p with divOut := p.divOut + 1 } }
    else (({ b with pw := { p with divIn := 0, divOut := 0 } }).fset F.PWR_STAT_SOURCE 0).report 14 2 0
  | _ =>
    if p.lostOut + 1 < 8 then { b with pw := { p with lostOut := p.lostOut + 1 } }
    else (({ b with pw := { p with divIn := 0, divOut := 0, lostOut := 0 } }).fset F.PWR_STAT_SOURCE 0).report 14 4 0

/-- A window without a measurement (R470). -/
def Block.windowLost (b : Block) : Block :=
  let lost := b.fget F.PWR_STAT_SOURCE == 2
  let fail := b.pw.segFail
  let b := { b with pw := { b.pw with divIn := 0, divOut := 0, lostOut := 0 } }
  if lost then b else ((b.fset F.PWR_STAT_SOURCE 2).evt F.PWR_EVT_MEAS_LOST).report 14 3 fail

/-- A window ends (R469, R470): the means, the registers that show them, energy and the ms counters, then the state. -/
def Block.windowClose (b : Block) : Block :=
  let w := b.pw.win
  let n := max w.length 1
  let ms := w.filterMap (·.2.1)
  let se := sumN (w.map (·.1))
  let e := se / n
  let x := sumN (w.map (·.2.2)) / n
  let m := if 8 ≤ ms.length then some (sumN ms / ms.length) else none
  let source := b.fget F.PWR_STAT_SOURCE
  let c := b.control (if m.isNone then 2 else source) e m
  let b := (b.fset F.PWR_WIN_E_W (watts e)).fset F.PWR_WIN_M_W (watts (m.getD 0))
  let b := b.fset F.PWR_WIN_P_W (watts (c + x))
  let j := b.pw.energy + c + x
  let b := { b with pw := { b.pw with energy := j % 1000000 } }
  let b := b.count F.LIF_ENERGY_JOULES (j / 1000000)
  let b := b.count F.PWR_CNT_B_DIV_MS (source == 1).toNat
  let b := b.count F.PWR_CNT_A_THROTTLE_MS (decide (b.fget F.PWR_STAT_DUTY < 16)).toNat
  let b := b.count F.THM_CNT_HOT_MS (b.fget F.THM_STAT_THROTTLE)
  let b := match m with
    | none => b.windowLost
    | some m =>
      let a := se * ms.length
      let d := sumN ms * n
      b.windowState (decide (d < (if a < d then d - a else a - d) * 4)) (watts e) (watts m)
  { b with pw := { b.pw with win := [], segFail := 0 } }

/-- The governor (R471). -/
def Block.governor (b : Block) : Block :=
  let s1 := b.pw.samples.take 10
  let st := b.pw.samples.take (10 * b.fget F.PWR_CAP_TAU_MS)
  let peak := b.fget F.PWR_CAP_PEAK_W * 1000 * max s1.length 1
  let cap := b.fget F.PWR_CAP_CAP_W * 1000 * max st.length 1
  let p1 := sumN s1
  let pt := sumN st
  let duty := b.fget F.PWR_STAT_DUTY
  let low := b.fget F.PWR_CTRL_DUTY_MIN
  let lim := if 8 < (b.pw.failed.filter id).length then 12 else 16
  let hot := b.fget F.THM_STAT_THROTTLE == 1
  let d := if peak < p1 then max low (duty - 2)
    else if cap < pt || hot || decide (lim < duty) then max low (duty - 1)
    else if decide (duty < lim) && decide (p1 * 10 ≤ 9 * peak) && decide (pt * 100 ≤ 95 * cap) then duty + 1
    else duty
  let b := (b.fset F.PWR_STAT_DUTY d).fset F.PWR_WIN_PT_W (watts (pt / max st.length 1))
  let b := if d < 16 then b.evt F.PWR_EVT_THROTTLE else b
  let b := if peak < p1 then b.evt F.PWR_EVT_PEAK else b
  { b with pw := { b.pw with tickDuty := b.pw.tickDuty || decide (d < 16)
                             tickOver := b.pw.tickOver || decide (9 * peak < p1 * 10) || decide (9 * cap < pt * 10)
                             tickLost := b.pw.tickLost || b.fget F.PWR_STAT_SOURCE == 2
                             tickVolt := b.pw.tickVolt || b.pw.voltFail } }

/-- Time added to an hour counter in units of 100 µs (R512). -/
def Block.hours (b : Block) (f : Fld) (t : Nat) : Nat × Block := (t % 36000000, b.count f (t / 36000000))

/-- The regulator's frames of a sample (R465): those that failed twice, and a Voltage write that failed three times in a row; a sample
without one means the writes succeed again. -/
def Block.avsFrames (b : Block) (p : Sample) : Block :=
  let b := if p.framesFailed = 0 then b else (b.count F.PWR_CNT_A_AVS_ERR p.framesFailed).evt F.PWR_EVT_AVS_ERR
  match p.voltageFail with
  | none => { b with pw := { b.pw with voltFail := false } }
  | some r => ({ b with pw := { b.pw with voltFail := true } }).report 14 5 r

/-- A power sample (R469), in RUN: time moves to the next multiple of 100 µs. -/
def Block.powerSample (b : Block) (p : Sample) : Block :=
  if !b.run? then b
  else
    let b := (b.advance ((b.clk.timeUs / 100 + 1) * 100)).avsFrames p
    let m := measured p
    let c := b.control (b.fget F.PWR_STAT_SOURCE) p.e m
    let silent := bitsOf ((List.range 4).map (fun i => (p.segs.getD i none).isNone))
    let b := { b with pw := { b.pw with
      samples := ((c + p.x) :: b.pw.samples).take 10000
      win := b.pw.win ++ [(p.e, m, p.x)]
      segFail := b.pw.segFail ||| silent } }
    let b := (List.range 8).foldl (fun b e =>
      if (List.range 8).any (fun i => ((tget b.io.links (8 * e + i)).map (·.oeReady)).getD false) then
        let r := b.hours (F.LIF_OE_HOURS.at e) (b.pw.oeTime.getD e 0 + 1)
        { r.2 with pw := { r.2.pw with oeTime := r.2.pw.oeTime.set e r.1 } }
      else b) b
    let b := b.governor
    if b.clk.timeUs % 1000 == 0 then b.windowClose else b

/-- POWER_SAMPLE (R469). -/
def execPowerSample (sample : Sample) (s : State) : Host.Outcome State Fault Refusal := s.run (fun b => (b.powerSample sample).settled)

/-- One sensor's reading (R476): failed after 3 bad readings in a row, back after 100 good ones. -/
def Block.sensorRead (b : Block) (i : Nat) (r : Option Nat) : Block :=
  let p := b.pw
  match r with
  | some q =>
    if q ≤ 760 then
      let good := p.goodRun.getD i 0 + 1
      let back := p.failed.getD i false && decide (100 ≤ good)
      { b with pw := { p with sensors := p.sensors.set i q, badRun := p.badRun.set i 0, goodRun := p.goodRun.set i (min good 100)
                              failed := if back then p.failed.set i false else p.failed } }
    else
      let bad := p.badRun.getD i 0 + 1
      let b := { b with pw := { p with badRun := p.badRun.set i (min bad 3), goodRun := p.goodRun.set i 0 } }
      if bad < 3 || p.failed.getD i false then b
      else (({ b with pw := { b.pw with failed := b.pw.failed.set i true } }).count F.THM_CNT_SENSOR_FAIL |>.evt F.THM_EVT_SENSOR_FAIL).report 15 3 i
  | none =>
    let bad := p.badRun.getD i 0 + 1
    let b := { b with pw := { p with badRun := p.badRun.set i (min bad 3), goodRun := p.goodRun.set i 0 } }
    if bad < 3 || p.failed.getD i false then b
    else (({ b with pw := { b.pw with failed := b.pw.failed.set i true } }).count F.THM_CNT_SENSOR_FAIL |>.evt F.THM_EVT_SENSOR_FAIL).report 15 3 i

/-- A level of R477 in °C as a reading. -/
def tempQ (c : Nat) : Nat := (c + 40) * 4

/-- A thermal level with its hysteresis (R477): the condition, its event and report on the way up. `l` pairs sensors in service with their
readings. -/
def Block.thermalLevel (b : Block) (l : List (Nat × Nat)) (level code : Nat) (st ev : Fld) : Block :=
  match l.find? (fun x => decide (tempQ level ≤ x.2)) with
  | some x =>
    if b.fget st = 1 then b else ((b.fset st 1).evt ev).report 15 code (x.1 + 256 * x.2)
  | none => if l.all (fun x => decide (x.2 < tempQ (level - b.fget F.THM_LIMIT_HYST_C))) then b.fset st 0 else b

/-- The readings of the 96 sensors (R476, R477, R512). -/
def Block.thermalRead (b : Block) (r : List (Option Nat)) : Block :=
  let b := (List.range 96).foldl (fun b i => b.sensorRead i (r.getD i none)) b
  let l := ((List.range 96).filter (fun i => !(b.pw.failed.getD i false) && ((r.getD i none).map (fun q => decide (q ≤ 760))).getD false)).map (fun i => (i, b.pw.sensors.getD i 0))
  let hi := l.foldl (fun (m : Nat × Nat) x => if m.2 < x.2 then x else m) (0, 0)
  let b := ((b.fset F.THM_STAT_MAX_Q hi.2).fset F.THM_STAT_MAX_SENSOR hi.1).fset F.THM_STAT_FAILED (b.pw.failed.filter id).length
  let warn := b.fget F.THM_LIMIT_WARN_C
  let thr := b.fget F.THM_LIMIT_THROTTLE_C
  let b := if warn = 0 then b else (b.thermalLevel l warn 1 F.THM_STAT_WARN F.THM_EVT_WARN)
  let b := if thr = 0 then b else (b.thermalLevel l thr 2 F.THM_STAT_THROTTLE F.THM_EVT_THROTTLE)
  let b := { b with pw := { b.pw with tickWarn := b.pw.tickWarn || l.any (fun x => decide (tempQ warn ≤ x.2))
                                      tickThrottle := b.pw.tickThrottle || l.any (fun x => decide (tempQ thr ≤ x.2)) } }
  let b := (List.range 24).foldl (fun b n => b.fset (F.THM_SENS_READ.at n) ((List.range 4).foldl (fun v i =>
    v + (b.pw.sensors.getD (4 * n + i) 0 + (if b.pw.failed.getD (4 * n + i) false then 32768 else 0)) * 2 ^ (16 * i)) 0)) b
  (List.range 12).foldl (fun b n =>
    if l.any (fun x => x.1 == 72 + n && decide (tempQ 85 ≤ x.2)) then
      let t := b.hours (F.LIF_STK_HOT_H.at n) (b.pw.hotTime.getD n 0 + 1)
      { t.2 with pw := { t.2.pw with hotTime := t.2.pw.hotTime.set n t.1 } }
    else b) b

/-- THERMAL_READ (R476). -/
def execThermalRead (readings : List (Option Nat)) (s : State) : Host.Outcome State Fault Refusal := s.run (fun b => b.thermalRead readings)

/-- The trip record (R478): TRIPPED, the sensor and its reading, TIME_US, TICK_COUNT, PWR_STAT and THM_STAT (log 33). -/
def Block.tripRecord (b : Block) (sensor q : Nat) : List Byte :=
  withCrc (leBytes 8 (1 + 2 * (sensor % 128) + 256 * (q % 1024)) ++ leBytes 8 b.clk.timeUs ++ leBytes 8 b.tick
    ++ leBytes 8 (b.reg 0x1C20).toNat ++ leBytes 8 (b.reg 0x1D08).toNat ++ zeros 20)

/-- THERMAL_TRIP (R478): the trip record is written to the lowest-numbered stack in service, and the block is inert until its next start. -/
def execThermalTrip (sensor reading : Nat) (s : State) : Host.Outcome State Fault Refusal :=
  s.run (fun b =>
    let b := b.keepLow 0x1000 (b.tripRecord sensor reading)
    { b with pw := { b.pw with tripped := true } })

/-- SLOT recomputed (R475). -/
def Block.setSlot (b : Block) : Block :=
  let live := b.pipsLive
  let n := max 64 (cdiv (cdiv live 16 * b.fget F.PWR_RAMP_PIP_MA * b.clk.mhz) (max (1000 * b.fget F.PWR_RAMP_A_PER_US) 1))
  let old := b.fget F.PWR_RAMP_SLOT
  let b := b.fset F.PWR_RAMP_SLOT n
  if old < n ∧ 64 < n then b.count F.PWR_CNT_B_STRETCH else b

/-- The voltage of a frequency in PWR_VF (R463). -/
def Block.millivolts (b : Block) (mhz : Nat) : Nat := bits (b.fget F.PWR_VF_MV) (12 * ((mhz - 1400) / 50)) 12

/-- The arithmetic clock at a tick boundary (R463, R474): `ended` tells that a tick has just ended. A rise is denied while a Voltage write is
failing (R465). -/
def Block.clockStep (b : Block) (ended : Bool) : Block :=
  let p := b.pw
  let top := max 1400 (b.fget F.PWR_CTRL_FMAX_MHZ)
  let r := if b.fget F.PWR_CTRL_MODE = 0 ∨ p.tickThrottle then (1400, 1400)
    else if p.tickDuty || p.tickWarn then (max 1400 (b.clk.mhz - 50), max 1400 (b.clk.mhz - 50))
    else
      let f := min (if p.voltFail then b.clk.mhz else b.clk.nextMhz) top
      (f, if ended && !p.tickOver && !p.tickLost && !p.tickVolt then min (f + 50) top else f)
  let b := { b with clk := { b.clk with mhz := min r.1 top, nextMhz := min r.2 top } }
  let b := (b.fset F.PWR_STAT_FREQ_MHZ b.clk.mhz).fset F.PWR_STAT_VOUT_MV (b.millivolts b.clk.nextMhz)
  { b with pw := { b.pw with tickDuty := decide (b.fget F.PWR_STAT_DUTY < 16), tickOver := false, tickWarn := false, tickThrottle := false,
                             tickLost := b.fget F.PWR_STAT_SOURCE == 2, tickVolt := b.pw.voltFail } }

/-- A quad powered up for a release that has not taken effect (R468). -/
def Block.quadAwaits (b : Block) (q : Nat) : Bool := b.ob.acts.any (fun a => a.what == 12 && a.a / 4 == q && a.b != 0)

/-- Quads in which a cluster is enabled, not retired, or a spare (R11), and those powered up for a release. -/
def Block.quadsOn (b : Block) : Nat :=
  bitsOf ((List.range 16).map (fun q => b.quadAwaits q
    || (List.range 4).any (fun i => (b.cp.enabled ||| b.cp.spares).testBit (4 * q + i) && !(b.cp.retired.testBit (4 * q + i)))))

/-- The release of a cluster in a quad that is off powers the quad up at once (R468); with it the time its ramp of 20 µs ends (R467), 0 where the
quad is on. -/
def Block.quadWake (b : Block) (c : Nat) : Block × Nat :=
  let on := b.fget F.PWR_PD_ON
  match b.ob.acts.find? (fun a => a.what == 12 && a.a / 4 == c / 4 && a.b != 0) with
  | some a => (b, a.b)
  | none => if on.testBit (c / 4) || !b.cp.retired.testBit c || (b.fget F.STA_MFG_FAIL_CLUSTERS).testBit c then (b, 0)
    else (b.fset F.PWR_PD_ON (on + 2 ^ (c / 4)), b.clk.timeUs + 20)

/-- Quads switch at a boundary (R468): on for a release, off where R11 holds. -/
def Block.quadStep (b : Block) : Block :=
  let b := b.fset F.PWR_PD_ON (b.fget F.PWR_PD_ON / 65536 * 65536 + b.quadsOn)
  { b with mem := { b.mem with die := b.mem.die.filter (fun c => b.quadsOn.testBit (c.1 / 2 ^ 27)) } }

end Sys2Proof.Machine
end

