-- ==== Sys2Proof/Machine/Commit.lean ====
section
/-! DEFINITION. Commit groups (R17, R418, R419, R525): the values a commit checks, the consistency check of every group (R56, R93, R120,
R184, R209, R236, R269, R295, R337, R398, R427, R458, R460, R480, R482), the tables read at a commit, commit and abort. -/
namespace Sys2Proof.Machine
open Sys2Proof

/-- The bits of a register's RWG fields. -/
def RDesc.rwgMask (r : RDesc) : Word := BitVec.ofNat 64 (sumN ((r.fields.filter (fun f => f.acc == .rwg)).map (fun f => fmask f.lo f.wid)))

/-- The registers of a commit group. -/
def groupRegs (g : Nat) : List RDesc := regTable.filter (fun r => r.group == some g)

/-- A word with the bits of a mask taken from another. -/
def mergeWord (w m v : Word) : Word := (w &&& ~~~m) ||| (v &&& m)

/-- The block as a commit of group g would have it: every RWG field at its committed value, those of g at their staged values where there are
any (R17, R525). -/
def Block.candidate (b : Block) (g : Nat) : Block :=
  (regTable.filter (fun r => r.group.isSome)).foldl (fun (c : Block) r =>
    let w := mergeWord (c.reg r.off) r.rwgMask (tgetD b.regs.committed r.off 0)
    c.setReg r.off (match r.group == some g, tget b.regs.staged r.off with
      | true, some s => mergeWord w s.1 s.2
      | _, _ => w)) b

/-- The first condition that fails, numbered from 1, with the offset it names; (0, 0) where all hold. -/
def firstFail (l : List (Bool × Nat)) : Nat × Nat :=
  match (List.range l.length).find? (fun i => !(l.getD i (true, 0)).1) with
  | none => (0, 0)
  | some i => (i + 1, (l.getD i (true, 0)).2)

def within (x lo hi : Nat) : Bool := decide (lo ≤ x) && decide (x ≤ hi)

/-- A field differs from its committed value. -/
def Block.changes (c o : Block) (f : Fld) : Bool := c.fget f != o.fcom f

/-- A region of space 0: offset and bytes; one of no bytes overlaps nothing. -/
abbrev Region := Nat × Nat

def clash (a b : List Region) : Bool := a.any (fun x => b.any (fun y => decide (0 < x.2) && decide (0 < y.2) && overlap x.1 x.2 y.1 y.2))

/-- No two of some regions overlap. -/
def apart : List Region → Bool
  | [] => true
  | x :: r => !clash [x] r && apart r

/-- The descriptors of the pool table (R119): those present. -/
def poolsOf (l : List Byte) : List Pool :=
  (List.range 256).filterMap (fun n =>
    let d := l.drop (64 * n)
    if lefld d 0 1 = 0 then none
    else some { num := n, kind := lefld d 0 1, enabled := (lefld d 1 1).testBit 0, first := lefld d 4 4, count := lefld d 8 4,
                pageBytes := lefld d 12 4, base := lefld d 16 8, ring := lefld d 24 8, ringLog2 := lefld d 32 1, cap := lefld d 36 4,
                pubCtr := lefld d 40 8, compCtr := lefld d 48 8, dstDone := lefld d 56 8 })

/-- The pools of the last commit of PG that passed, in effect or not. -/
def Block.poolsCom (b : Block) : List Pool :=
  match (b.ob.acts.filter (fun a => a.what == 22 && a.a == 2)).getLast? with
  | some a => poolsOf a.bytes
  | none => b.rq.pools

/-- Page ranges in space 0 of a block's pools. -/
def Block.pageRegions (b : Block) (ps : List Pool) : List Region :=
  (ps.filter (fun p => gaNode p.base == b.node && gaSpace p.base == 0)).map (fun p => (gaOff p.base, p.count * p.pageBytes))

def Block.pfxRegions (c : Block) : List Region :=
  let n := 2 ^ c.fget F.PFX_CTRL_SIZE_LOG2
  [(c.fget F.PFX_IDX_BASE_BASE, n * 64), (c.fget F.PFX_TOK_BASE_BASE, n * 512)]

/-- The record array and the completion slots (R120 (f)). -/
def Block.pgRegions (c : Block) : List Region :=
  [(c.fget F.PG_REC_BASE_BASE, c.fget F.PG_TOTAL_TOTAL * 8), (c.fget F.PG_DONE_BASE_BASE, 65536 * 16)]
def Block.listRegion (c : Block) : Region := (c.fget F.PG_LIST_BASE, c.fget F.PG_LIST_SIZE_GRANULES * 4096)

def Block.tokRegions (c : Block) : List Region :=
  [(c.fget F.TOK_TPL_BASE_BASE, 4096 * 64), (c.fget F.TOK_DIR_BASE_BASE, 65536 * 16), (c.fget F.TOK_ARENA_BASE, c.fget F.TOK_ARENA_SIZE_GRANULES * 16384)]

def Block.spcRegions (c : Block) : List Region :=
  [(c.fget F.SPC_POOL_TBL_BASE, 256 * 32), (c.fget F.SPC_DRAFT_TBL_BASE, 32 * 8), (c.fget F.SPC_TREE_BASE_BASE, 65536 * 128),
   (c.fget F.SPC_UNIT_BASE_BASE, c.fget F.SPC_UNIT_COUNT_UNITS * 131072)]

def Block.mdlRegions (c : Block) : List Region :=
  [(c.fget F.MDL_CAT_BASE_BASE, 8192 * 128), (c.fget F.MDL_WARM_BASE, c.fget F.MDL_WARM_SIZE_UNITS * 2097152),
   (c.fget F.MDL_STATE_BASE, c.fget F.MDL_STATE_SIZE_UNITS * 65536), (c.fget F.MDL_ADP_BASE_BASE, 262144 * 64)]

def Block.vrdRegions (c : Block) : List Region :=
  [(c.fget F.VRD_PROF_BASE_BASE, 4096 * 512), (c.fget F.VRD_LEAF_BASE_BASE, 2 ^ c.fget F.VRD_LEAF_CFG_SIZE_LOG2),
   (c.fget F.VRD_MSTATE_BASE_BASE, 65536 * 16), (c.fget F.VRD_EXT_BASE_BASE, 65536 * 64)]

/-- A span that lies in the block's own space 0, as a region of it. -/
def Block.ownSpan (o : Block) (a n : Nat) : List Region := if gaSpace a = 0 && gaNode a == o.node then [(gaOff a, n)] else []

/-- The Punnet ring and the verdict log where they lie in the own space 0. -/
def Block.punRegions (c : Block) : List Region := c.ownSpan (c.fget F.TOK_PUN_RING_BASE) (2 ^ c.fget F.TOK_PUN_CFG_SIZE_LOG2)
def Block.logRegions (c : Block) : List Region := c.ownSpan (c.fget F.VRD_LOG_BASE_BASE) (128 * 2 ^ c.fget F.VRD_LOG_CFG_SIZE_LOG2)

/-- The regions of the PG and PFX groups, then those of further groups up to a number of the order TOK, GRM, SPC, MDL, VRD. -/
def Block.regionsUpTo (c : Block) (ps : List Pool) (k : Nat) : List Region :=
  c.pgRegions ++ [c.listRegion, (c.fget F.PG_POOL_TBL_BASE, 16384)] ++ c.pageRegions ps ++ c.pfxRegions
  ++ (([c.tokRegions ++ c.punRegions, [(c.fget F.GRM_MASK_TBL_BASE, 4096)], c.spcRegions, c.mdlRegions, c.vrdRegions ++ c.logRegions]).take k).flatten

/-- Ring regions of the RQT group. -/
def Block.rqtRegions (c : Block) : List Region :=
  let a := 2 ^ c.fget F.RQT_ADM_RING_SIZE_LOG2
  [(c.fget F.RQT_ADM_RING_BASE, a * 64), (c.fget F.RQT_ADM_RES_BASE, a * 8), (c.fget F.RQT_CTL_RING_BASE, 2 ^ c.fget F.RQT_CTL_RING_SIZE_LOG2 * 8)]

/-- The cyclic table (R78 to R80) against the values being committed. -/
def Block.tableOk (c : Block) (t : List Byte) : Bool :=
  let on := popcount 64 c.cp.mapOn
  let cyc := lefld t 6 1
  let code := fun (row p : Nat) => lefld t (64 + 32 * row + p / 2) 1 / 16 ^ (p % 2) % 16
  lefld t 0 2 == 0x5C7D && lefld t 2 1 == 1 && lefld t 3 1 == c.fget F.STA_IDENT_CONFIG && lefld t 4 1 == on
  && lefld t 5 1 == popcount 64 c.cp.mapSpare && within cyc 1 64 && lefld t 7 1 == 8
  && lefld t 8 4 == c.fget F.TICK_PERIOD_PERIOD_US && lefld t 12 2 == c.fget F.TICK_TURN_TURN_US && lefld t 14 2 == 0
  && (List.range (cyc * 8)).all (fun r =>
    (List.range 64).all (fun p => decide (code r p ≤ 5) && (decide (p < on) || code r p == 0)) && (List.range on).any (fun p => code r p == 3))

/-- The codes of a table's rows. -/
def tableRows (t : List Byte) : List (List Nat) :=
  (List.range (lefld t 6 1 * 8)).map (fun r => (List.range 64).map (fun p => lefld t (64 + 32 * r + p / 2) 1 / 16 ^ (p % 2) % 16))

/-- The bytes of the cyclic table at its base. -/
def Block.tableBytes (c : Block) : List Byte := c.rd0 (c.fget F.TICK_TABLE_BASE_OFFSET) (64 + c.r0 (c.fget F.TICK_TABLE_BASE_OFFSET + 6) 1 * 256)

/-- R56; `table` is the cyclic table. -/
def Block.checkTick (c : Block) (table : List Byte) : Nat × Nat :=
  let turn := c.fget F.TICK_TURN_TURN_US
  let period := c.fget F.TICK_PERIOD_PERIOD_US
  let bud := [F.TICK_BUDGET_INTAKE_US, F.TICK_BUDGET_ACCEPT_US, F.TICK_BUDGET_MASK_US, F.TICK_BUDGET_PUBLISH_US].map c.fget
  let dl := c.fget F.TICK_TURN_MASK_DL_US
  firstFail [
    (within period 5000 100000 && within (c.fget F.TICK_PERIOD_EXT_TOL) 1 50, 0x108),
    (within turn 2000 8000 && decide (turn + 1000 ≤ period), 0x110),
    (bud.all (fun x => within x 50 1000), 0x118),
    (decide (sumN bud ≤ dl) && decide (dl ≤ turn), 0x118),
    (!(c.isPair && c.fget F.TICK_CTRL_SOURCE == 0), 0x100),
    (c.monitored || (c.fget F.TICK_TABLE_BASE_OFFSET % 64 == 0 && c.tableOk table), 0x158)]

/-- R93; the test of the rings is made at a commit. -/
def Block.checkRqt (c : Block) (live : Bool) : Nat × Nat :=
  let idle := c.fget F.RQT_ADM_DB_POSTED == c.rq.admTaken && c.fget F.RQT_CTL_DB_POSTED == c.rq.ctlTaken
  firstFail [(c.rqtRegions.all (fun r => r.1 % 64 == 0) && within (c.fget F.RQT_ADM_RING_SIZE_LOG2) 6 16
    && within (c.fget F.RQT_CTL_RING_SIZE_LOG2) 6 16 && apart c.rqtRegions && (!live || idle), 0x208)]

/-- The pages below a bound that are OWNED, PREFIX or TRANSFER. -/
def Block.usedPages (b : Block) : List Nat := (List.range (b.fget F.PG_TOTAL_TOTAL)).filter (fun p => within (b.pageState p) 1 3)

/-- The pool of some descriptors whose range holds a page. -/
def poolHolding (ps : List Pool) (p : Nat) : Option Pool := ps.find? (fun q => decide (q.first ≤ p ∧ p < q.first + q.count))

/-- R120: the values being committed, the block as it is, the pools the commit reads. Conditions on the pool table, the pages and the orders
are tested at a commit (log 34). -/
def Block.checkPg (c o : Block) (ps : List Pool) (live : Bool) : Nat × Nat :=
  let total := c.fget F.PG_TOTAL_TOTAL
  let used := o.usedPages
  let core := c.pgRegions ++ c.pfxRegions
  let kindAt := fun (l : List Pool) (p : Nat) => (poolHolding l p).map (·.kind)
  firstFail [
    (within total 1 (2 ^ 27) && c.fget F.PG_POOL_TBL_BASE % 64 == 0 && (!live || (ps.all (fun p => decide (p.kind ≤ 5) && decide (p.first + p.count ≤ total))
      && apart (ps.map (fun p => (p.first, p.count))))), 0x318),
    (!live || (decide ((ps.filter (fun p => p.kind == 4)).length ≤ 1)
      && (ps.filter (fun p => p.kind == 4)).all (fun p => gaNode p.base == o.node && gaSpace p.base == 0)), 0x308),
    (!live || (ps.any (fun p => p.enabled && (p.kind == 1 || p.kind == 3)) && ps.any (fun p => p.enabled && (p.kind == 2 || p.kind == 3))), 0x308),
    (!live || used.all (fun p => (poolHolding ps p).isSome && kindAt ps p == kindAt o.rq.pools p), 0x308),
    (!live || !c.changes o F.PG_CTRL_PAGE_SIZE || used.isEmpty, 0x300),
    (c.fget F.PG_REC_BASE_BASE % 64 == 0 && c.fget F.PG_DONE_BASE_BASE % 64 == 0 && apart core && !clash core (if live then o.pageRegions ps else []), 0x310),
    (!live || (List.range (o.fget F.PG_TOTAL_TOTAL - total)).all (fun i => let s := o.pageState (total + i); s == 0 || s == 4), 0x318),
    (decide (1 ≤ c.fget F.PG_LIST_SIZE_GRANULES) && c.fget F.PG_LIST_BASE % 4096 == 0
      && !clash [c.listRegion] (core ++ (if live then o.pageRegions ps else []))
      && (!live || o.rq.orders.isEmpty || !(c.changes o F.PG_LIST_BASE || c.changes o F.PG_LIST_SIZE_GRANULES)), 0x368)]

/-- The ranges of the PFX fields (R148); the group has no list of its own. -/
def Block.checkPfx (c : Block) : Nat × Nat :=
  firstFail [(within (c.fget F.PFX_CTRL_SIZE_LOG2) 10 22 && c.fget F.PFX_IDX_BASE_BASE % 64 == 0, 0x340)]

/-- R184. -/
def Block.checkTok (c o : Block) (ps : List Pool) (live : Bool) : Nat × Nat :=
  let ch := fun (f : Fld) => c.changes o f
  firstFail [
    (c.fget F.TOK_TPL_BASE_BASE % 64 == 0 && c.fget F.TOK_DIR_BASE_BASE % 64 == 0 && c.fget F.TOK_ARENA_BASE % 16384 == 0
      && c.fget F.TOK_PUN_RING_BASE % 64 == 0, 0x400),
    (decide (1 ≤ c.fget F.TOK_ARENA_SIZE_GRANULES) && within (c.fget F.TOK_PUN_CFG_SIZE_LOG2) 20 30, 0x418),
    (apart c.tokRegions && !clash c.tokRegions (c.regionsUpTo ps 0), 0x400),
    (!live || o.live.isEmpty || !(ch F.TOK_DIR_BASE_BASE || ch F.TOK_ARENA_BASE || ch F.TOK_ARENA_SIZE_GRANULES), 0x408),
    (!live || o.fget F.TOK_PUN_TAKEN_TAKEN == o.rq.punWritten
      || !(ch F.TOK_PUN_RING_BASE || ch F.TOK_PUN_CFG_SIZE_LOG2 || ch F.TOK_PUN_CTR_ADDR), 0x420)]

/-- The GRM mask table (R196): its records that hold a byte. -/
def maskRecsOf (l : List Byte) : Tbl (List Byte) :=
  (List.range 256).filterMap (fun n => let r := (l.drop (16 * n)).take 16; if allZero r then none else some (n, r))

/-- Pools that hold a stream in DECODE, of some entries. -/
def Block.decodePools (b : Block) (p : Nat → Bool) : List Nat := (b.live.filter (fun e => b.decoding e && p e)).map (fun e => b.eget e E.DECODE_POOL)

/-- R209. -/
def Block.checkGrm (c o : Block) (ps : List Pool) (live : Bool) : Nat × Nat :=
  let base := c.fget F.GRM_MASK_TBL_BASE
  let new := maskRecsOf (o.rd0 base 4096)
  firstFail [
    (base % 64 == 0, 0x618),
    (!clash [(base, 4096)] (c.regionsUpTo ps 1), 0x618),
    (!live || new.all (fun r => lefld r.2 8 4 == 0 || lefld r.2 0 8 % 4096 == 0), 0x618),
    (!live || (o.decodePools (fun e => o.eget e E.GRAMMAR != 0)).all (fun p => tget new p == tget o.rq.maskRecs p), 0x618)]

/-- A tree shape (R236): no level of width 0 before one that is not, at most 16 nodes. -/
def shapeOk (v : Nat) : Bool :=
  let w := (List.range 6).map (fun i => bits v (5 * i) 5)
  decide (1 ≤ w.getD 0 0) && (List.range 5).all (fun i => w.getD i 0 != 0 || w.getD (i + 1) 0 == 0) && decide (sumN w ≤ 16)
def shapeSum (v : Nat) : Nat := sumN ((List.range 6).map (fun i => bits v (5 * i) 5))

/-- The SPC pool table (R219): (STEP_ADDR, STEP_SLOTS, RESULT_RING, RESULT_LOG2) of the pools that have any. -/
def spcPoolsOf (l : List Byte) : List (Nat × (Nat × Nat × Nat × Nat)) :=
  (List.range 256).filterMap (fun n =>
    let d := (l.drop (32 * n)).take 32
    if allZero d then none else some (n, (lefld d 0 8, lefld d 8 4, lefld d 16 8, lefld d 24 1)))

/-- The draft table (R210): slot, model, VOCAB_ID of the records that name a model. -/
def draftsOf (l : List Byte) : List (Nat × Nat × Nat) :=
  (List.range 32).filterMap (fun n => if lefld l (8 * n) 4 = 0xFFFFFFFF then none else some (n, lefld l (8 * n) 4, lefld l (8 * n + 4) 4))

/-- Models named by a draft table, each once. -/
def draftModels (d : List (Nat × Nat × Nat)) : List Nat := distinct (d.map (·.2.1))

/-- Pins of some models suit R284 under the values of a commit: each is WARM, and the pinned granules leave FREE_MIN. -/
def Block.pinsFit (o : Block) (freeMin : Nat) (drop add : List Nat) : Bool :=
  let still := o.st.pinned.filter (fun n => !(drop.contains n) || decide (1 < o.cat n 4 4))
  let all := still ++ add.filter (fun n => !still.contains n)
  add.all (fun n => o.cat n 0 1 == 3) && decide (sumN (all.map (o.objGranules false)) + freeMin ≤ 128 * o.hotBanks.length)

/-- R236; the SPC and draft tables are read at a commit. -/
def Block.checkSpc (c o : Block) (ps : List Pool) (live : Bool) : Nat × Nat :=
  let shapes := [F.SPC_SHAPE_FULL_WIDTHS, F.SPC_SHAPE_RED_WIDTHS, F.SPC_SHAPE_MIN_WIDTHS].map c.fget
  let th := [F.SPC_THRESH_T_REDUCE, F.SPC_THRESH_T_MIN, F.SPC_THRESH_T_OFF].map c.fget
  let new := spcPoolsOf (o.rd0 (c.fget F.SPC_POOL_TBL_BASE) 8192)
  let models := draftModels (draftsOf (o.rd0 (c.fget F.SPC_DRAFT_TBL_BASE) 256))
  let decode := o.decodePools (fun _ => true)
  firstFail [
    (shapes.all shapeOk, 0x708),
    (decide (shapeSum (shapes.getD 1 0) ≤ shapeSum (shapes.getD 0 0)) && decide (shapeSum (shapes.getD 2 0) ≤ shapeSum (shapes.getD 1 0)), 0x708),
    (decide (th.getD 0 0 ≤ 65536) && decide (th.getD 1 0 ≤ th.getD 0 0) && decide (th.getD 2 0 ≤ th.getD 1 0), 0x720),
    (c.fget F.SPC_POOL_TBL_BASE % 64 == 0 && c.fget F.SPC_DRAFT_TBL_BASE % 64 == 0 && c.fget F.SPC_TREE_BASE_BASE % 64 == 0
      && c.fget F.SPC_UNIT_BASE_BASE % 131072 == 0 && apart c.spcRegions && !clash c.spcRegions (c.regionsUpTo ps 2), 0x728),
    (!live || (ps.filter (fun p => p.kind == 2 || p.kind == 3)).all (fun p =>
      ((tget new p.num).map (fun r => decide (1 ≤ r.2.1) && r.2.2.1 != 0)).getD false), 0x728),
    (!live || (models.all (fun m => decide (m < 8192) && o.cat m 0 1 == 3 && o.cat m 1 1 == 0)
      && o.pinsFit (o.fget F.MDL_CTRL_FREE_MIN) (draftModels o.rq.drafts) models), 0x730),
    (!live || decode.isEmpty || !(c.changes o F.SPC_TREE_BASE_BASE || c.changes o F.SPC_UNIT_BASE_BASE || c.changes o F.SPC_UNIT_COUNT_UNITS), 0x738),
    (!live || decode.all (fun p => tget new p == tget o.rq.spcPools p), 0x728)]

/-- R269. -/
def Block.checkPip (c o : Block) (live : Bool) : Nat × Nat :=
  let m := c.fget F.PIP_CTRL_MIN_PIPS
  let on := if live then o.clusters else (List.range 64).filter (fun k => o.cp.mapOn.testBit k && !o.cp.retired.testBit k)
  firstFail [(within m 16 32 && (!c.monitored || on.all (fun k => decide (m ≤ (o.pipsOf k).length))), 0x800)]

/-- R295; conditions on models are tested at a commit. -/
def Block.checkMdl (c o : Block) (ps : List Pool) (live : Bool) : Nat × Nat :=
  let l := c.fget F.MDL_CTRL_LANGID
  let ch := fun (f : Fld) => c.changes o f
  firstFail [
    (c.fget F.MDL_CAT_BASE_BASE % 64 == 0 && c.fget F.MDL_WARM_BASE % 2097152 == 0 && c.fget F.MDL_STATE_BASE % 65536 == 0
      && c.fget F.MDL_ADP_BASE_BASE % 64 == 0, 0xB08),
    (apart c.mdlRegions && !clash c.mdlRegions (c.regionsUpTo ps 3), 0xB08),
    (!live || (o.cat l 0 1 == 3 && o.cat l 1 1 == 1), 0xB00),
    (decide (c.fget F.MDL_CTRL_FREE_MIN ≤ 8192) && (!live || o.pinsFit (c.fget F.MDL_CTRL_FREE_MIN) [o.fcom F.MDL_CTRL_LANGID] [l]), 0xB00),
    (!live || (((o.st.warm.map (fun w => (w.1, w.2.1))) ++ o.st.loads.map (fun l => (l.1, l.2.1))).all (fun w => w.1 || !within (o.cat w.2 0 1) 2 3)
        && o.st.states.isEmpty)
      || !(ch F.MDL_WARM_BASE || ch F.MDL_WARM_SIZE_UNITS || ch F.MDL_STATE_BASE || ch F.MDL_STATE_SIZE_UNITS), 0xB10)]

/-- R337. -/
def Block.checkVrd (c o : Block) (ps : List Pool) (live : Bool) : Nat × Nat :=
  let ch := fun (f : Fld) => c.changes o f
  firstFail [
    (c.fget F.VRD_PROF_BASE_BASE % 64 == 0 && c.fget F.VRD_LOG_BASE_BASE % 4096 == 0 && c.fget F.VRD_LEAF_BASE_BASE % 64 == 0
      && c.fget F.VRD_MSTATE_BASE_BASE % 64 == 0 && c.fget F.VRD_EXT_BASE_BASE % 64 == 0, 0xE00),
    (within (c.fget F.VRD_LEAF_CFG_SIZE_LOG2) 20 32 && apart c.vrdRegions && !clash c.vrdRegions (c.regionsUpTo ps 4), 0xE00),
    (!live || !ch F.VRD_PROF_BASE_BASE || (List.range 4096).all (fun p => !o.profFlag p 0), 0xE00),
    (!live || !ch F.VRD_MSTATE_BASE_BASE || o.live.isEmpty, 0xE50),
    (within (c.fget F.VRD_LOG_CFG_SIZE_LOG2) 12 24 && (!live || (o.log.staged.isEmpty && o.fget F.VRD_LOG_TAKEN_TAKEN == o.fget F.VRD_LOG_SEQ_SEQ)
      || !(ch F.VRD_LOG_BASE_BASE || ch F.VRD_LOG_CFG_SIZE_LOG2 || ch F.VRD_LOG_CTR_ADDR || ch F.VRD_LEAF_BASE_BASE || ch F.VRD_LEAF_CFG_SIZE_LOG2)), 0xE18)]

/-- The route table (R396): LINKS of the records that are VALID. -/
def routesOf (l : List Byte) : List (Nat × Nat) :=
  (List.range 256).filterMap (fun n => if (lefld l (16 * n + 8) 1).testBit 0 then some (n, lefld l (16 * n) 8) else none)

/-- R398. -/
def Block.checkRoute (c o : Block) (ps : List Pool) (live : Bool) : Nat × Nat :=
  let base := c.fget F.LNK_ROUTE_BASE_BASE
  let new := routesOf (o.rd0 base 4096)
  let pair := fun (m : Nat) => m / 2 ^ 56
  firstFail [
    (base % 64 == 0, 0xF08),
    (!clash [(base, 4096)] (c.regionsUpTo ps 5), 0xF08),
    (!live || !new.any (fun r => r.1 == o.node), 0xF08),
    (!live || !o.isPair || new.all (fun r => if r.1 = o.fget F.LNK_NODE_PEER then r.2 % 2 ^ 56 == 0 else pair r.2 == 0), 0xF08)]

/-- The regions of every commit group but MGT (R427): tables, arenas, the cyclic table, and the rings and areas that lie in the own space 0; those
that tables in space 0 name for a commit alone (log 34). -/
def Block.groupRegions (c o : Block) (ps : List Pool) (live : Bool) (table : List Byte) : List Region :=
  let named := fun (l : List Region) => if live then l else []
  c.regionsUpTo ps 5 ++ [(c.fget F.LNK_ROUTE_BASE_BASE, 4096)] ++ c.rqtRegions
  ++ (if c.monitored then [] else [(c.fget F.TICK_TABLE_BASE_OFFSET, table.length)])
  ++ named (ps.flatMap (fun p => (if p.ring = 0 then [] else o.ownSpan p.ring (64 * 2 ^ p.ringLog2)) ++ o.ownSpan p.dstDone (16 * 65536))
    ++ (maskRecsOf (o.rd0 (c.fget F.GRM_MASK_TBL_BASE) 4096)).flatMap (fun r => o.ownSpan (lefld r.2 0 8) (2 * lefld r.2 8 4 * 32768))
    ++ (spcPoolsOf (o.rd0 (c.fget F.SPC_POOL_TBL_BASE) 8192)).flatMap (fun r =>
      o.ownSpan r.2.1 (2 * r.2.2.1 * 256) ++ o.ownSpan r.2.2.2.1 (32 * 2 ^ r.2.2.2.2)))

/-- R427. -/
def Block.checkMgt (c o : Block) (ps : List Pool) (live : Bool) (table : List Byte) : Nat × Nat :=
  let base := c.fget F.MGT_RPT_BASE_BASE
  let ch := fun (f : Fld) => c.changes o f
  firstFail [
    (base == 0 || (base % 64 == 0 && (gaSpace base == 0 || gaSpace base == 5)), 0x1040),
    (within (c.fget F.MGT_RPT_CFG_SIZE_LOG2) 8 20, 0x1048),
    (base == 0 || gaSpace base != 0 || gaNode base != o.node
      || !clash [(gaOff base, 32 * 2 ^ c.fget F.MGT_RPT_CFG_SIZE_LOG2)]
        (c.groupRegions o ps live table), 0x1040),
    (!live || o.fget F.MGT_RPT_SEQ_SEQ == o.fget F.MGT_RPT_TAKEN_TAKEN
      || !(ch F.MGT_RPT_BASE_BASE || ch F.MGT_RPT_CFG_SIZE_LOG2 || ch F.MGT_RPT_CTR_ADDR), 0x1040)]

/-- R458. -/
def Block.checkLnk (c o : Block) (live : Bool) : Nat × Nat :=
  let q := c.fget F.LNK_CTRL_GRANT_REQ
  let r := c.fget F.LNK_CTRL_GRANT_RSP
  firstFail [
    (within q 18 494 && within r 18 494 && decide (q + r ≤ 512), 0x1400),
    (!live || c.fget F.LNK_CTRL_DEGRADE_EN == 1 || !(o.io.links.any (fun k => k.2.state == 3)), 0x1400)]

/-- R460. -/
def Block.checkMem (c o : Block) (live : Bool) : Nat × Nat :=
  firstFail [
    (within (c.fget F.MEM_CTRL_SCRUB_H) 1 168, 0x1900),
    (within (c.fget F.MEM_CTRL_REBUILD_GBPS) 10 400, 0x1900),
    (!live || c.fget F.MEM_CTRL_SPARE_EN == 1 || !(o.io.stks.any (fun k => k.2.rebuild.any (fun r => !r.2.1.isEmpty))), 0x1900)]

/-- R480. -/
def Block.checkPwr (c : Block) : Nat × Nat :=
  let cap := c.fget F.PWR_CAP_CAP_W
  let peak := c.fget F.PWR_CAP_PEAK_W
  let top := c.fget F.PWR_CTRL_FMAX_MHZ
  firstFail [
    (within top 1400 1600 && within (c.fget F.PWR_CTRL_DUTY_MIN) 1 16 && within cap 100 650 && within peak 100 900
      && within (c.fget F.PWR_CAP_TAU_MS) 10 1000 && within (c.fget F.PWR_RAMP_A_PER_US) 100 10000 && within (c.fget F.PWR_RAMP_PIP_MA) 50 1000
      && decide (c.fget F.PWR_DIV_MARGIN_W ≤ 300), 0x1C00),
    (decide (cap ≤ peak), 0x1C08),
    (top % 50 == 0, 0x1C00)]

/-- R482. -/
def Block.checkThm (c : Block) : Nat × Nat :=
  let w := c.fget F.THM_LIMIT_WARN_C
  let t := c.fget F.THM_LIMIT_THROTTLE_C
  let h := c.fget F.THM_LIMIT_HYST_C
  firstFail [
    (within w 60 110 && within t 70 112 && within h 1 20, 0x1D00),
    (decide (w < t), 0x1D00),
    (decide (t + h ≤ 115), 0x1D00)]

/-- The consistency check of a group (R419): CHECK and FIELD_OFF, (0, 0) where it passes. `live` marks a commit; the check of a start image
leaves out what tables in space 0, entries, pages, orders and models would have to satisfy (log 34). -/
def Block.groupCheck (c o : Block) (g : Nat) (live : Bool) (table : List Byte) : Nat × Nat :=
  let ps := if g = 2 then poolsOf (o.rd0 (c.fget F.PG_POOL_TBL_BASE) 16384) else if live then o.poolsCom else []
  match g with
  | 0 => c.checkTick table
  | 1 => c.checkRqt live
  | 2 => c.checkPg o ps live
  | 3 => c.checkPfx
  | 4 => c.checkTok o ps live
  | 5 => c.checkGrm o ps live
  | 6 => c.checkSpc o ps live
  | 7 => c.checkPip o live
  | 8 => c.checkMdl o ps live
  | 9 => c.checkVrd o ps live
  | 10 => c.checkRoute o ps live
  | 11 => c.checkLnk o live
  | 12 => c.checkMem o live
  | 13 => c.checkPwr
  | 14 => c.checkThm
  | _ => c.checkMgt o ps live table

/-- The table a commit of a group reads (R80, R119, R196, R210, R219, R398). -/
def Block.tableRead (c : Block) (g : Nat) : List Byte :=
  match g with
  | 0 => if c.monitored then [] else c.tableBytes
  | 2 => c.rd0 (c.fget F.PG_POOL_TBL_BASE) 16384
  | 5 => c.rd0 (c.fget F.GRM_MASK_TBL_BASE) 4096
  | 6 => c.rd0 (c.fget F.SPC_POOL_TBL_BASE) 8192 ++ c.rd0 (c.fget F.SPC_DRAFT_TBL_BASE) 256
  | 10 => c.rd0 (c.fget F.LNK_ROUTE_BASE_BASE) 4096
  | _ => []

/-- Every staged value of a group discarded (R418, R421). -/
def Block.abortGroup (b : Block) (g : Nat) : Block :=
  { b with regs := { b.regs with staged := b.regs.staged.filter (fun e => !((groupRegs g).any (fun r => r.off == e.1))) } }

/-- A refused commit noted for the port that made it (R419). -/
def Block.commitRefused (b : Block) (s : RegSrc) (g : Nat) (r : Nat × Nat) : Block :=
  let w := mkWord [(0, g), (8, r.1), (16, r.2), (32, b.tick % 2 ^ 32)]
  let b := match s with
    | .portB => { b with mgt := { b.mgt with diagB := w } }
    | _ => { b with mgt := { b.mgt with diagA := w } }
  b.respond s 3

/-- A commit (R17, R418): checked, and where it passes every field of the group is committed at once and takes effect at the next boundary. -/
def Block.commit (b : Block) (s : RegSrc) (g : Nat) : Block :=
  if !b.run? then b.commitRefused s g (0xFF, 0)
  else
    let c := b.candidate g
    let r := c.groupCheck b g true c.tableBytes
    if r.1 ≠ 0 then b.commitRefused s g r
    else
      let rs := groupRegs g
      let committed := rs.foldl (fun t d => tset t d.off (c.reg d.off &&& d.rwgMask)) b.regs.committed
      let values := rs.flatMap (fun d => leBytes 8 (c.reg d.off &&& d.rwgMask).toNat)
      let pfx := g == 3 && [F.PFX_CTRL_KEY_EPOCH, F.PFX_CTRL_SIZE_LOG2, F.PFX_IDX_BASE_BASE, F.PFX_TOK_BASE_BASE].any (fun f => c.changes b f)
      let t := c.tableRead g
      let b := { b with regs := { b.regs with committed := committed, comPend := if b.regs.comPend.contains g then b.regs.comPend else b.regs.comPend ++ [g] } }
      let b := (b.abortGroup g).cfgEvent 0x1008 1 g values
      let b := if t.isEmpty then b else b.atBoundary 22 g 0 0 t
      if pfx then b.atBoundary 25 0 0 0 else b

/-- MGT_COMMIT written: commit or abort of its group. -/
def Block.mgtCommit (b : Block) (s : RegSrc) (v : Word) : Block :=
  b.regWrite s 0x1008 v false (fun b =>
    let g := bits v.toNat 0 5
    if opOf 0x1008 v = 1 then b.commit s g else b.abortGroup g)

/-- A request on a management port whose parity is wrong (R416); other sources have no parity. -/
def Block.parity (b : Block) (s : RegSrc) (ok : Bool) (f : Block → Block) : Block :=
  if ok || !(s == .portA || s == .portB) then f b else (b.count F.MGT_CNT_PORT_PARITY).respond s 7

/-- MGT_COMMIT_GROUP (R418). -/
def execMgtCommitGroup (src : RegSrc) (group : Nat) (parityOk : Bool) (s : State) : Host.Outcome State Fault Refusal :=
  s.run (fun b => b.parity src parityOk (fun b => b.mgtCommit src (cmdWord [(0, group % 32), (8, 1)])))

/-- MGT_ABORT_GROUP (R418). -/
def execMgtAbortGroup (src : RegSrc) (group : Nat) (parityOk : Bool) (s : State) : Host.Outcome State Fault Refusal :=
  s.run (fun b => b.parity src parityOk (fun b => b.mgtCommit src (cmdWord [(0, group % 32), (8, 2)])))

end Sys2Proof.Machine
end

