-- ==== Sys2Proof/Machine/Boundary.lean ====
section
/-! DEFINITION. The tick boundary (R46 to R50, R57, R140, R266, R267, R279, R445, R454, R463, R468, R475, R525): the sources that make one, the
values and commands that take effect at it, and the state of a tick at its start. -/
namespace Sys2Proof.Machine
open Sys2Proof

/-- Pending RWT values take effect (R15). -/
def Block.takeRwt (b : Block) : Block :=
  let c := b.regs.pend.foldl (fun (b : Block) p => b.setReg p.1 (mergeWord (b.reg p.1) p.2.1 p.2.2)) b
  { c with regs := { c.regs with pend := [] } }

/-- Bytes of a span of space 0 become zero. -/
def Block.clearSpan (b : Block) (a n : Nat) : Block :=
  { b with mem := { b.mem with stack := b.mem.stack.filter (fun c => !(decide (a ≤ c.1) && decide (c.1 < a + n))) } }

/-- A change of PG_TOTAL (R120): added pages are FREE, pages no longer there leave the counter that held them. -/
def Block.pageTotal (b : Block) (old new : Nat) : Block :=
  if old < new then
    let b := b.clearSpan (b.fget F.PG_REC_BASE_BASE + 8 * old) (8 * (new - old))
    { b with lgr := { b.lgr with pages := b.lgr.pages.set 0 ((b.lgr.pages.getD 0 0 + (new - old)) % 2 ^ 28) } }
  else
    let gone := (List.range (old - new)).map (new + ·)
    let ret := (gone.filter (fun p => b.pageState p == 4)).length
    let sub := fun (l : List Nat) (i n : Nat) => l.set i ((l.getD i 0 + 2 ^ 28 - n) % 2 ^ 28)
    { b with lgr := { b.lgr with pages := sub (sub b.lgr.pages 4 ret) 0 (gone.length - ret) }
             rq := { b.rq with freed := b.rq.freed.filter (fun p => decide (p < new)) } }

/-- The flush of the prefix index (R140): records without a pin are dropped and their pages freed, pinned ones become STALE. `new` is the block
with the committed values; a pinned record keeps its number in a new table, whose other records are empty (log 35). -/
def Block.flushPfx (b : Block) (new : Block) : Block :=
  let all := (List.range (2 ^ b.fget F.PFX_CTRL_SIZE_LOG2)).filter b.idxValid
  let pinned := all.filter (fun i => b.idx i 48 4 != 0)
  let b := (all.filter (fun i => b.idx i 48 4 == 0)).foldl (fun b i => b.dropIdx i) b
  let b := { (pinned.foldl (fun b i => b.setIdx i 29 1 3) b) with rq := { b.rq with staleFree := [] } }
  let at_ := new.fget F.PFX_IDX_BASE_BASE
  let tok := new.fget F.PFX_TOK_BASE_BASE
  let keep := pinned.map (fun i => (i, b.rd0 (b.fget F.PFX_IDX_BASE_BASE + 64 * i) 64, b.rd0 (b.idxTok i) 512))
  let b := b.clearSpan at_ (64 * 2 ^ new.fget F.PFX_CTRL_SIZE_LOG2)
  keep.foldl (fun b k => (b.wr0m (at_ + 64 * k.1) k.2.1).wr0m (tok + 512 * k.1) k.2.2) b

/-- The RWG fields of a group take their committed values (R525). -/
def Block.takeGroup (b : Block) (g : Nat) : Block :=
  (groupRegs g).foldl (fun b r => b.setReg r.off (mergeWord (b.reg r.off) r.rwgMask (tgetD b.regs.committed r.off 0))) b

/-- What else a group's new values change; `o` is the block before them. DESIGN CHOICE (log 65): a TICK commit that stages other fields and not
SOURCE, with SOURCE already 1, counts as one that sets SOURCE = 1, so it brings tick_in back (R49). -/
def Block.groupEffect (b o : Block) (g : Nat) : Block :=
  let ch := fun (f : Fld) => b.fget f != o.fget f
  match g with
  | 0 => b.fset F.TICK_CTRL_SOURCE_ACT (b.fget F.TICK_CTRL_SOURCE)
  | 2 =>
    let b := if ch F.PG_TOTAL_TOTAL then b.pageTotal (o.fget F.PG_TOTAL_TOTAL) (b.fget F.PG_TOTAL_TOTAL) else b
    if ch F.PG_LIST_BASE || ch F.PG_LIST_SIZE_GRANULES then { b with rq := { b.rq with listFree := List.range (b.fget F.PG_LIST_SIZE_GRANULES) } } else b
  | 4 => if ch F.TOK_ARENA_BASE || ch F.TOK_ARENA_SIZE_GRANULES then
      { b with rq := { b.rq with tokFree := List.range (b.fget F.TOK_ARENA_SIZE_GRANULES), tokOld := [] } } else b
  | 6 => if ch F.SPC_UNIT_BASE_BASE || ch F.SPC_UNIT_COUNT_UNITS then
      let used := b.live.flatMap (fun e => (b.side e).units)
      { b with rq := { b.rq with unitFree := (List.range (b.fget F.SPC_UNIT_COUNT_UNITS)).filter (fun u => !used.contains u) } } else b
  | 8 => if ch F.MDL_CTRL_LANGID then (b.unpin (o.fget F.MDL_CTRL_LANGID)).pin (b.fget F.MDL_CTRL_LANGID) else b
  | _ => b

/-- Draft-table pins move to the models of a new table (R210, R283). -/
def Block.takeDrafts (b : Block) (l : List Byte) : Block :=
  let new := draftsOf l
  let old := draftModels b.rq.drafts
  let add := draftModels new
  let b := { b with rq := { b.rq with drafts := new } }
  let b := (old.filter (fun n => !add.contains n)).foldl (fun b n => b.unpin n) b
  (add.filter (fun n => !old.contains n)).foldl (fun b n => b.pin n) b

/-- A table read at a commit takes effect (R57, R81, R119, R196, R210, R219, R398). -/
def Block.takeTable (b : Block) (g : Nat) (l : List Byte) : Block :=
  match g with
  | 0 => ({ b with cp := { b.cp with table := tableRows l }, clk := { b.clk with tableK0 := b.tick } }).logEvent 2 ((l.drop 16).take 48)
  | 2 => { b with rq := { b.rq with pools := poolsOf l } }
  | 5 => { b with rq := { b.rq with maskRecs := maskRecsOf l } }
  | 6 => ({ b with rq := { b.rq with spcPools := spcPoolsOf (l.take 8192) } }).takeDrafts (l.drop 8192)
  | _ => { b with rm := { b.rm with routes := routesOf l } }

/-- The mask of retired Pips of a cluster set. -/
def Block.setPipMask (b : Block) (c m : Nat) : Block :=
  if c % 2 = 0 then b.fset (F.PIP_RET_LOW.at (c / 2)) m else b.fset (F.PIP_RET_HIGH.at (c / 2)) m

def Block.pipMaskNow (b : Block) (c : Nat) : Nat :=
  if c % 2 = 0 then b.fget (F.PIP_RET_LOW.at (c / 2)) else b.fget (F.PIP_RET_HIGH.at (c / 2))

/-- Items, and a draft pass or warm-up, in flight on a cluster fail (R265, R266). -/
def Block.itemsLost (b : Block) (c : Nat) : Block :=
  let b := if b.draftShare c then b.failDraft else b
  (b.cp.items.filter (fun t => t.clusters.contains c || b.parkedOn t.id c)).foldl (fun b t =>
    let b := if t.failed then b else (b.count F.PIP_CNT_A_ITEM_FAIL).evt F.PIP_EVT_ITEM_FAIL
    b.endItem t 1 []) b

/-- Contexts with a granule in a bank that leaves the hot store (R279, R285): items on them wait for a new fill. -/
def Block.bankLeaves (b : Block) (c : Nat) : Block :=
  (b.st.hot.filter (fun x => x.granules.any (fun g => g / 128 == c))).foldl (fun b x =>
    let b := (b.itemsFor x.adapter x.num).foldl (fun b t => if t.clusters.isEmpty then b else b.suspendItem t) b
    let b := b.unhot x.adapter x.num
    if (b.st.pinned.contains x.num && !x.adapter) || !(b.itemsFor x.adapter x.num).isEmpty then
      b.fillLater x.adapter x.num
    else b) b

/-- The table position of a retired cluster passes to the lowest-numbered spare, or is lost (R9, R10). -/
def Block.passPosition (b : Block) (c : Nat) : Block :=
  match b.cp.spareFor.find? (fun p => p.2 == c) with
  | none => b
  | some p =>
    match (List.range 64).find? (fun s => b.cp.spares.testBit s && !(b.cp.retired.testBit s)) with
    | some s => { b with cp := { b.cp with spareFor := tset b.cp.spareFor p.1 s, enabled := b.cp.enabled ||| 2 ^ s, spares := b.cp.spares - 2 ^ s } }
    | none =>
      let b := { b with cp := { b.cp with posLost := b.cp.posLost ++ [p.1] }, lgr := { b.lgr with tableLoss := true } }
      (b.evt F.TICK_EVT_TABLE_LOSS).report 0 2 c

/-- A cluster leaves (R8 to R10, R266). -/
def Block.clusterLeaves (b : Block) (c : Nat) : Block :=
  if b.cp.retired.testBit c then b
  else
    let b := { b with cp := { b.cp with retired := b.cp.retired ||| 2 ^ c } }
    let b := ((b.evt F.PIP_EVT_CLUSTER_RETIRED).itemsLost c).bankLeaves c
    if b.monitored then b else b.passPosition c

/-- A cluster that the loss of a Pip retires (R266): counted and reported as its fault window would. -/
def Block.clusterShort (b : Block) (c : Nat) : Block :=
  if b.cp.retiring.contains c || b.cp.retired.testBit c then b
  else ((b.count F.LIF_RETIRE_COMPUTE).report 7 2 c).clusterLeaves c |>.retirementChanged

/-- A Pip leaves its cluster (R266). -/
def Block.pipLeaves (b : Block) (c k : Nat) : Block :=
  let b := (b.setPipMask c (b.pipMaskNow c ||| 2 ^ k)).evt F.PIP_EVT_PIP_RETIRED
  let b := b.itemsLost c
  if !b.monitored || decide ((b.pipsOf c).length < b.fget F.PIP_CTRL_MIN_PIPS) then b.clusterShort c else b

/-- Pips and clusters their fault windows have retired leave (R266). -/
def Block.computeLeaves (b : Block) : Block :=
  let pips := b.cp.retiringPips
  let cs := b.cp.retiring
  let b := { b with cp := { b.cp with retiringPips := [] } }
  let b := pips.foldl (fun b p => b.pipLeaves p.1 p.2) b
  let b := { b with cp := { b.cp with retiring := [] } }
  cs.foldl (fun b c => b.clusterLeaves c) b

/-- PIP_CMD release of a Pip (R267). -/
def Block.pipRelease (b : Block) (c k : Nat) : Block :=
  if (b.fget F.STA_MFG_FAIL_CLUSTERS).testBit c then b.status F.PIP_CMD_STATUS 3
  else if !b.pipRetired c k then b.status F.PIP_CMD_STATUS 2
  else ((((b.setPipMask c (b.pipMaskNow c - 2 ^ k)).clearWindow 5 (c * 32 + k)).count F.LIF_RETIRE_RELEASES).status F.PIP_CMD_STATUS 0).retirementChanged

/-- PIP_CMD release of a cluster and its Pips (R267): it rejoins now in Full and Pair, at the next start in Compact and Standard. -/
def Block.clusterRelease (b : Block) (c : Nat) : Block :=
  if (b.fget F.STA_MFG_FAIL_CLUSTERS).testBit c then b.status F.PIP_CMD_STATUS 3
  else if !b.cp.retired.testBit c then b.status F.PIP_CMD_STATUS 2
  else
    let en := if b.monitored || !b.cp.enabled.testBit c then b.cp.enabled else b.cp.enabled - 2 ^ c
    let sp := if b.monitored || !b.cp.spares.testBit c then b.cp.spares else b.cp.spares - 2 ^ c
    let b := { b with cp := { b.cp with retired := b.cp.retired - 2 ^ c, enabled := en, spares := sp } }
    let b := (List.range 32).foldl (fun b k => b.clearWindow 5 (c * 32 + k)) (b.setPipMask c 0)
    (((b.clearWindow 6 c).count F.LIF_RETIRE_RELEASES).status F.PIP_CMD_STATUS 0).retirementChanged

/-- A retired thread group leaves its engine (R311). -/
def Block.groupLeaves (b : Block) (c : Nat) : Block :=
  let u := b.unit 3 (c / 4)
  b.setUnit 3 (c / 4) { u with groups := if u.groups.testBit (c % 4) then u.groups - 2 ^ (c % 4) else u.groups }

/-- ORC_CMD release of a thread group (R311); jobs that waited for an engine are invoked again (R33). -/
def Block.groupRelease (b : Block) (n : Nat) : Block :=
  let u := b.unit 3 (n / 4)
  if 32 ≤ n ∨ u.groups.testBit (n % 4) then b.status F.ORC_CMD_STATUS 3
  else
    let b := (b.setUnit 3 (n / 4) { u with groups := u.groups ||| 2 ^ (n % 4) }).clearWindow 7 n
    (((b.count F.LIF_RETIRE_RELEASES).status F.ORC_CMD_STATUS 0).retirementChanged).retryLater 3

/-- A text unit returns to service with an empty fault window (R320, R445); jobs that waited for one are invoked again (R33). -/
def Block.unitRelease (b : Block) (kind n window : Nat) : Block :=
  let u := b.unit kind n
  ((((b.setUnit kind n { u with retired := false }).clearWindow window n).count F.LIF_RETIRE_RELEASES).retirementChanged).retryLater kind

/-- MAT_CMD release of a matcher (R320). -/
def Block.matcherRelease (b : Block) (n : Nat) : Block :=
  if 16 ≤ n ∨ !(b.unit 1 n).retired then b.status F.MAT_CMD_STATUS 3 else (b.unitRelease 1 n 8).status F.MAT_CMD_STATUS 0

/-- The number of an LNK_CMD unit is one the unit has (R457). -/
def lnkNumOk (unit num : Nat) : Bool := unit < 2 || (if unit = 4 then decide (num < 32) else decide (num < 8))

/-- A released lane (R439, R445). -/
def Block.laneRelease (b : Block) (l i : Nat) : Block :=
  let m := tgetD b.io.lanesRetired l 0
  let b := { b with io := { b.io with lanesRetired := if m = 2 ^ i then tdel b.io.lanesRetired l else tset b.io.lanesRetired l (m - 2 ^ i) } }
  ((b.setLink l { (b.linkAt l) with lanes := b.lanesIn l }).clearWindow 0 (4 * l + i)).count F.LIF_RETIRE_RELEASES

/-- A released link trains anew with all its lanes (R434, R445). -/
def Block.linkRelease (b : Block) (l : Nat) : Block :=
  let b := ((List.range 4).filter (fun i => (tgetD b.io.lanesRetired l 0).testBit i)).foldl (fun b i => b.laneRelease l i) b
  let k := b.linkAt l
  ((b.setLink l { Link.reset with state := 1, los := k.los, oeReady := k.oeReady }).clearWindow 1 l).count F.LIF_RETIRE_RELEASES

/-- LNK_CMD release (R445, R457). -/
def Block.lnkRelease (b : Block) (unit num lane : Nat) : Block :=
  let no := b.status F.LNK_CMD_STATUS 2
  let ok := fun (b : Block) => (b.status F.LNK_CMD_STATUS 0).retirementChanged
  if !lnkNumOk unit num then b.status F.LNK_CMD_STATUS 3
  else match unit with
    | 0 => if (b.linkAt num).state ≠ 4 then no else ok (b.linkRelease num)
    | 1 => if !(tgetD b.io.lanesRetired num 0).testBit lane then no else ok ((b.laneRelease num lane).retrain num)
    | 2 => if !(b.stemAt num).retired then no
      else ok (((b.setStem num { (b.stemAt num) with retired := false }).clearWindow 4 num).count F.LIF_RETIRE_RELEASES)
    | 3 => if !(b.unit 0 num).retired then no else ok (b.unitRelease 0 num 9)
    | _ => if !(b.unit 2 num).retired then no else ok (b.unitRelease 2 num 10)

/-- A text unit leaves (R320, R443). -/
def Block.unitLeaves (b : Block) (kn : Nat) : Block :=
  let u := b.unit (kn / 64) (kn % 64)
  b.setUnit (kn / 64) (kn % 64) { u with retired := true }

/-- LNK_CMD retire (R457). -/
def Block.lnkRetire (b : Block) (unit num lane : Nat) : Block :=
  let unitGoes := fun (k code : Nat) => if (b.unit k num).retired then b
    else (((b.unitLeaves (k * 64 + num)).count F.LIF_RETIRE_COMPUTE).report 12 7 (code + 256 * num)).retirementChanged
  if !lnkNumOk unit num then b.status F.LNK_CMD_STATUS 3
  else (match unit with
    | 0 => b.retireLink num
    | 1 => if (tgetD b.io.lanesRetired num 0).testBit lane then b else b.retireLane num lane
    | 2 => b.retireStem num
    | 3 => unitGoes 0 3
    | _ => unitGoes 2 4).status F.LNK_CMD_STATUS 0

/-- TICK_SEQ_CMD takes effect (R347, R371): the program runs from byte 0, R111 runs on the steps of its slice, and verdicts whose release time
has passed are posted INDETERMINATE with FAULT. -/
def Block.seqRelease (b : Block) (n : Nat) : Block :=
  let b := (b.setExAt n { (b.exAt n) with halted := false, restarts := 0 }).seqRestart n
  let mine := b.live.filter (fun e => seqOf e == n)
  let b := mine.foldl (fun b e => b.writeOffSteps e) b
  let late := mine.filter (fun e => b.eget e E.STATE == 2 && b.eget e E.RELEASE_TIME != 0 && decide (b.eget e E.RELEASE_TIME < b.clk.timeUs))
  (late.foldl (fun b e => b.postInput e true) b).status F.TICK_SEQ_CMD_STATUS 0

/-- One action that waited for the boundary. -/
def Block.applyAct (b : Block) (a : BndAct) : Block :=
  let ob := b.ob
  match a.what with
  | 1 => { b with ob := { ob with vocabs := tset ob.vocabs a.a a.b } }
  | 2 => { b with ob := { ob with vocabs := tdel ob.vocabs a.a } }
  | 3 => { b with ob := { ob with grammars := tset ob.grammars a.a a.b } }
  | 4 => { b with ob := { ob with grammars := tdel ob.grammars a.a } }
  | 5 => { b with ob := { ob with stops := tset ob.stops a.a a.b } }
  | 6 => { b with ob := { ob with stops := tdel ob.stops a.a } }
  | 7 => { b with ob := { ob with msets := tset ob.msets a.a a.b } }
  | 8 => { b with ob := { ob with msets := tdel ob.msets a.a } }
  | 9 => { b with ob := { ob with ensembles := tset ob.ensembles a.a a.bytes } }
  | 10 => { b with ob := { ob with ensembles := tdel ob.ensembles a.a } }
  | 11 => b.pipRelease a.a a.b
  | 12 => if b.clk.timeUs < a.b then b.atBoundary 12 a.a a.b 0 else b.clusterRelease a.a
  | 13 => b.groupRelease a.a
  | 14 => b.matcherRelease a.a
  | 15 => b.lnkRelease a.a a.b a.c
  | 16 => b.lnkRetire a.a a.b a.c
  | 17 => b.memRelease a.a a.b a.c
  | 18 => b.memRetire a.a a.b a.c
  | 19 => b.seqRelease a.a
  | 20 => b.wr0 (b.fget F.VRD_PROF_BASE_BASE + 512 * a.a) a.bytes
  | 22 => b.takeTable a.a a.bytes
  | 23 => b.groupLeaves a.a
  | 24 => b.unitLeaves a.a
  | _ => b

/-- The word of TOK_VIDnn (R183): VOCAB_ID, KIND, NORM and PIECES of the image a slot holds. -/
def Block.vidWord (b : Block) (n : Nat) : Word :=
  match tget b.ob.vocabs n with
  | none => 0
  | some base => mkWord [(0, b.r0 (base + 8) 4), (32, b.r0 (base + 6) 1 % 4), (34, b.r0 (base + 7) 1 % 4), (36, b.r0 (base + 12) 4 % 2 ^ 19)]

/-- The registers that show what is loaded, once something was loaded or unloaded (R183, R208, R312, R335). -/
def Block.showObjects (b : Block) : Block :=
  let b := b.fset F.TOK_SLOT_MAP_RESIDENT (bitsOf ((List.range 32).map (fun n => (tget b.ob.vocabs n).isSome)))
  let b := (List.range 32).foldl (fun (b : Block) n => b.setReg (0x0480 + 8 * n) (b.vidWord n)) b
  let b := (b.fset F.GRM_LOADED_COUNT b.ob.grammars.length).fset F.STP_LOADED_COUNT b.ob.stops.length
  (b.fset F.ORC_LOADED_COUNT b.ob.ensembles.length).fset F.MAT_LOADED_COUNT b.ob.msets.length

/-- Everything that takes effect at a boundary: RWT values, committed groups with their tables, then the actions in the order they were
asked for. -/
def Block.takeEffect (b : Block) : Block :=
  let o := b.takeRwt
  let groups := o.regs.comPend
  let acts := o.ob.acts
  let b := { o with regs := { o.regs with comPend := [] }, ob := { o.ob with acts := [] } }
  let new := groups.foldl (fun (b : Block) g => b.takeGroup g) b
  let b := if acts.any (fun a => a.what == 25) then b.flushPfx new else b
  let b := groups.foldl (fun (b : Block) g => b.takeGroup g) b
  let b := groups.foldl (fun (b : Block) g => b.groupEffect o g) b
  let b := acts.foldl (fun b a => b.applyAct a) b
  if acts.any (fun a => decide (1 ≤ a.what) && decide (a.what ≤ 10)) then b.showObjects else b

/-- An entry's own work of the tick starts anew. -/
def Side.newTick (s : Side) : Side :=
  { s with acceptDone := false, rootMask := false, skip := false, drafted := false, warmed := false, passes := 0, nodes := [],
           noDraft := false, bargeLate := false }

/-- A TFENCE waits across the boundary (R393): the failures it is to report are kept. -/
def Block.fenceOpen (b : Block) : Bool :=
  b.rm.execs.any (fun p => match p.2.blocked with
    | .fence _ (some _) => true
    | _ => false)

/-- The state of a tick at its start. -/
def Block.newTick (b : Block) : Block :=
  { b with
    clk := { b.clk with intakeClosed := false, cutOff := false, maskTarget := false, maskDeadline := false, published := false,
                        mainWindow := false, draftBegun := false, frame := 0 }
    rq := { b.rq with side := b.rq.side.map (fun p => (p.1, p.2.newTick)) }
    lgr := { b.lgr with phase0 := [], phase1 := [], checked := false, reqFault := false, fault := 0, culprit := 0xFFFF, violPools := [] }
    rm := { b.rm with failPools := if b.fenceOpen then b.rm.failPools else b.rm.failPools.filter (fun p => decide (1000000 ≤ p.1))
                      agentFail := if b.fenceOpen then b.rm.agentFail else []
                      execs := b.rm.execs.map (fun p => (p.1, { p.2 with restarts := 0 })) } }

/-- What waited is tried again at a boundary: loads (R277), stream state (R286), prompts without a token extent (R164); items whose screen has
been abandoned leave. -/
def Block.retryWaits (b : Block) : Block :=
  let b := (b.st.loads.filter (fun l => l.2.2.isNone)).foldl (fun b l => b.startLoad l.1 l.2.1) b
  let b := (b.cp.items.filter (fun t => match t.screen with
    | some sid => (b.screenOf sid).isNone
    | none => false)).foldl (fun b t => b.dropItem t.id) b
  let b := b.cp.items.foldl (fun b t => b.stateAlloc t.entry t.model) b
  (b.live.filter (fun e => (b.side e).tokWait && b.eget e E.STATE == 2)).foldl (fun b e =>
    (b.modSide e (fun s => { s with tokWait := false })).ownJob (b.mkJob 1 e 0)) b

/-- The new tick's number and its first instant (R46); `missed` tells that the block makes the boundary itself for want of an edge (R49). -/
def Block.openTick (b : Block) (missed : Bool) : Block :=
  let n := if b.clk.ticking then b.tick + 1 else 0
  let run := if missed then b.clk.missedRun + 1 else 0
  ({ b with clk := { b.clk with bndUs := b.clk.timeUs, bndCyc := b.clk.cycles, ticking := true, missedRun := run } }).fset F.TICK_COUNT_COUNT n

/-- The eighth boundary in a row without an edge gives the source up (R49). -/
def Block.sourceLost (b : Block) : Block :=
  if b.clk.missedRun < 8 then b
  else ((({ b with clk := { b.clk with missedRun := 0 } }).fset F.TICK_CTRL_SOURCE_ACT 0).evt F.TICK_EVT_SRC_LOST).report 0 1 0

/-- What the clock, the quads and the waiting work do at a boundary (R463, R468, R475); `ended` tells that a tick has just ended. -/
def Block.boundaryWork (b : Block) (ended : Bool) : Block :=
  (((b.gangsReturn.clockStep ended).quadStep).setSlot).retryWaits

/-- The tick check of the tick that ends (R368): one that was not made is counted. -/
def Block.closeLedger (b : Block) : Block :=
  if !b.clk.ticking || b.lgr.checked then b
  else if !b.lgr.phase1.isEmpty && (List.range 8).all (fun k => b.seqHalted k || b.lgr.phase1.contains k) then b.tickCheck
  else b.count F.TICK_SEQ_CNT_LTICK_MISS

/-- A tick boundary at the present instant. -/
def Block.boundary (b : Block) (missed : Bool) : Block :=
  let c := (b.closeLedger.openTick missed).newTick.takeEffect.computeLeaves
  let d := c.boundaryWork b.clk.ticking
  let d := if missed then (d.count F.TICK_CNT_A_MISSED).sourceLost else d
  (d.atPoint 0).settled

/-- The time base moved on to a cycle of the arithmetic clock not earlier than now (R47). -/
def Block.toCycle (b : Block) (n : Nat) : Block :=
  if n ≤ b.clk.cycles then b
  else { b with clk := { b.clk with timeUs := b.clk.timeUs + (n - b.clk.cycles) / max b.clk.mhz 1, cycles := n } }

/-- P × (1,000 + x) / 1,000 in cycles at the frequency in force, rounded up (R48). -/
def Block.limitCycles (b : Block) (milli : Nat) : Nat := cdiv (b.fget F.TICK_PERIOD_PERIOD_US * milli * b.clk.mhz) 1000
def Block.lateLimit (b : Block) : Nat := b.clk.bndCyc + b.limitCycles (1000 + b.fget F.TICK_PERIOD_EXT_TOL)

/-- Boundaries are made from tick_in (R50). -/
def Block.external (b : Block) : Bool := b.run? && b.fget F.TICK_CTRL_SOURCE_ACT == 1

/-- The block makes the boundaries whose limit passes before a cycle (R49), one at least after another until the source is given up. -/
def Block.missedTo (b : Block) : Nat → Nat → Block
  | 0, _ => b
  | f + 1, n =>
    if b.external && decide (b.lateLimit < n) then ((b.toCycle b.lateLimit).boundary true).missedTo f n else b

/-- An edge on tick_in first sampled high in a cycle (R47 to R50, R500). -/
def Block.tickEdge (b : Block) (cycle : Nat) : Block :=
  if !b.external then b
  else
    let n := max (cycle + 2) b.clk.cycles
    let b := b.missedTo 9 n
    if !b.external then b
    else if b.clk.ticking && decide (n - b.clk.bndCyc < b.limitCycles (1000 - b.fget F.TICK_PERIOD_EXT_TOL)) then b.count F.TICK_CNT_A_EARLY
    else (b.toCycle n).boundary false

/-- TICK_IN_EDGE (R48). -/
def execTickInEdge (cycle : Nat) (s : State) : Host.Outcome State Fault Refusal := s.run (fun b => b.tickEdge cycle)

/-- INTERNAL_TICK (R50). -/
def execInternalTick (s : State) : Host.Outcome State Fault Refusal :=
  s.run (fun b => if !b.run? || b.external then b else (b.advance (b.clk.bndUs + b.fget F.TICK_PERIOD_PERIOD_US)).boundary false)

/-- TICK_SOURCE_MISSED (R49). -/
def execTickSourceMissed (s : State) : Host.Outcome State Fault Refusal :=
  s.run (fun b => if b.external then (b.toCycle b.lateLimit).boundary true else b)

/-- tick_out and tick_turn (R46). -/
def Block.tickOut (b : Block) : Bool := b.clk.ticking && decide (b.clk.cycles < b.clk.bndCyc + 64)
def Block.tickTurn (b : Block) : Bool := b.clk.ticking && !b.clk.mainWindow

end Sys2Proof.Machine
end

