-- ==== Sys2Proof/Machine/Objects.lean ====
section
/-! DEFINITION. Loading and unloading vocabularies, grammars, stop sets, matcher sets and ensembles (R159, R160, R188, R202, R300, R301,
R311, R316, R320), screening profiles (R321 to R323), and the events they add to the configuration digest (R511). -/
namespace Sys2Proof.Machine
open Sys2Proof

/-- The kinds of image a check runs on, numbered. -/
def kindNum : LoadKind → Nat
  | .vocab => 0
  | .grammar => 1
  | .stopset => 2
  | .matcherSet => 3
  | .ensemble => 4

/-- Profiles that are defined. -/
def Block.profiles (b : Block) : List Nat := (List.range 4096).filter (fun p => b.profFlag p 0)

/-- Profile records a define has left for the boundary. -/
def Block.profPending (b : Block) (p : Nat) : Option (List Byte) :=
  ((b.ob.acts.filter (fun a => a.what == 20 && a.a == p)).getLast?).map (·.bytes)

/-- Some defined profile, in force or about to be, has a property of its record. -/
def Block.anyProfile (b : Block) (p : List Byte → Bool) : Bool :=
  b.profiles.any (fun n => p (b.rd0 (b.fget F.VRD_PROF_BASE_BASE + 512 * n) 512)) || b.ob.acts.any (fun a => a.what == 20 && p a.bytes)

/-- Some job queued or running on a kind of unit, or waiting for room on one, names an object. -/
def Block.anyJob (b : Block) (kind n : Nat) : Bool :=
  b.cp.units.any (fun u => u.1 / 64 == kind && u.2.jobs.any (fun j => j.num == n)) || b.cp.later.any (fun j => jobUnit j.kind == kind && j.num == n)

/-- A matcher set is busy (R316). -/
def Block.msetBusy (b : Block) (n : Nat) : Bool :=
  n != 0 && (b.anyJob 1 n
    || b.anyProfile (fun r => [32, 96].any (fun o => lefld r (o + 24) 2 == n || lefld r (o + 26) 2 == n)))

/-- MAT_CMD written (R316, R320). -/
def Block.matCmd (b : Block) (s : RegSrc) (v : Word) : Block :=
  let n := wfld v F.MAT_CMD_NUMBER
  let op := wfld v F.MAT_CMD_OP
  b.regWrite s 0x0D00 v (op != 3 && b.msetBusy n) (fun b =>
    match op with
    | 1 => b.startCheck 3 n (b.fget F.MAT_ADDR_BASE) F.MAT_CMD_STATUS
    | 2 => b.startUnload 3 n 0x0D00 (tget b.ob.msets n).isSome F.MAT_CMD_STATUS
    | _ => (b.status F.MAT_CMD_STATUS 1).atBoundary 14 n 0 0)

/-- An ensemble is busy (R301). -/
def Block.ensBusy (b : Block) (n : Nat) : Bool :=
  n != 0 && (b.anyJob 3 n
    || b.anyProfile (fun r => [32, 96].any (fun o => lefld r (o + 4) 1 == n || lefld r (o + 5) 1 == n)))

/-- ORC_CMD written (R300, R301, R311). -/
def Block.orcCmd (b : Block) (s : RegSrc) (v : Word) : Block :=
  let n := wfld v F.ORC_CMD_NUMBER
  let op := wfld v F.ORC_CMD_OP
  b.regWrite s 0x0C00 v (op == 2 && b.ensBusy n) (fun b =>
    match op with
    | 1 => b.startCheck 4 n (b.fget F.ORC_ADDR_BASE) F.ORC_CMD_STATUS
    | 2 => b.startUnload 4 n 0x0C00 (tget b.ob.ensembles n).isSome F.ORC_CMD_STATUS
    | _ => (b.status F.ORC_CMD_STATUS 1).atBoundary 13 n 0 0)

/-- TOK_SLOT_LOAD and TOK_SLOT_UNLOAD (R159, R160). -/
def execTokSlotLoad (src : RegSrc) (slot : Nat) (s : State) : Host.Outcome State Fault Refusal :=
  s.run (fun b => b.tokSlotCmd src (wput [(F.TOK_SLOT_CMD_SLOT, slot), (F.TOK_SLOT_CMD_OP, 1)]))
def execTokSlotUnload (src : RegSrc) (slot : Nat) (s : State) : Host.Outcome State Fault Refusal :=
  s.run (fun b => b.tokSlotCmd src (wput [(F.TOK_SLOT_CMD_SLOT, slot), (F.TOK_SLOT_CMD_OP, 2)]))
/-- GRAMMAR_LOAD and GRAMMAR_UNLOAD (R188). -/
def execGrammarLoad (src : RegSrc) (number : Nat) (s : State) : Host.Outcome State Fault Refusal :=
  s.run (fun b => b.grmCmd src (wput [(F.GRM_CMD_NUMBER, number), (F.GRM_CMD_OP, 1)]))
def execGrammarUnload (src : RegSrc) (number : Nat) (s : State) : Host.Outcome State Fault Refusal :=
  s.run (fun b => b.grmCmd src (wput [(F.GRM_CMD_NUMBER, number), (F.GRM_CMD_OP, 2)]))
/-- STOPSET_LOAD and STOPSET_UNLOAD (R202). -/
def execStopsetLoad (src : RegSrc) (number : Nat) (s : State) : Host.Outcome State Fault Refusal :=
  s.run (fun b => b.stpCmd src (wput [(F.STP_CMD_NUMBER, number), (F.STP_CMD_OP, 1)]))
def execStopsetUnload (src : RegSrc) (number : Nat) (s : State) : Host.Outcome State Fault Refusal :=
  s.run (fun b => b.stpCmd src (wput [(F.STP_CMD_NUMBER, number), (F.STP_CMD_OP, 2)]))
/-- MATCHER_SET_LOAD, MATCHER_SET_UNLOAD (R316) and MATCHER_RELEASE (R320). -/
def execMatcherSetLoad (src : RegSrc) (number : Nat) (s : State) : Host.Outcome State Fault Refusal :=
  s.run (fun b => b.matCmd src (wput [(F.MAT_CMD_NUMBER, number), (F.MAT_CMD_OP, 1)]))
def execMatcherSetUnload (src : RegSrc) (number : Nat) (s : State) : Host.Outcome State Fault Refusal :=
  s.run (fun b => b.matCmd src (wput [(F.MAT_CMD_NUMBER, number), (F.MAT_CMD_OP, 2)]))
def execMatcherRelease (src : RegSrc) (number : Nat) (s : State) : Host.Outcome State Fault Refusal :=
  s.run (fun b => b.matCmd src (wput [(F.MAT_CMD_NUMBER, number), (F.MAT_CMD_OP, 3)]))
/-- ENSEMBLE_LOAD, ENSEMBLE_UNLOAD (R300, R301) and THREAD_GROUP_RELEASE (R311). -/
def execEnsembleLoad (src : RegSrc) (number : Nat) (s : State) : Host.Outcome State Fault Refusal :=
  s.run (fun b => b.orcCmd src (wput [(F.ORC_CMD_NUMBER, number), (F.ORC_CMD_OP, 1)]))
def execEnsembleUnload (src : RegSrc) (number : Nat) (s : State) : Host.Outcome State Fault Refusal :=
  s.run (fun b => b.orcCmd src (wput [(F.ORC_CMD_NUMBER, number), (F.ORC_CMD_OP, 2)]))
def execThreadGroupRelease (src : RegSrc) (number : Nat) (s : State) : Host.Outcome State Fault Refusal :=
  s.run (fun b => b.orcCmd src (wput [(F.ORC_CMD_NUMBER, number), (F.ORC_CMD_OP, 3)]))

/-- The objects of a kind that are or are about to be loaded; `t` are the numbers loaded (R188, R202, R316). -/
def Block.loadedCount (b : Block) (kind : Nat) (t : List Nat) : Nat :=
  t.length + ((b.ob.acts.filter (fun a => a.what == 2 * kind + 1 && !t.contains a.a)).map (·.a)).eraseDups.length

/-- An object is loaded, or its load has passed and waits for the boundary. -/
def Block.loadedSoon (b : Block) (kind n : Nat) (loaded : Bool) : Bool :=
  loaded || b.ob.acts.any (fun a => a.what == 2 * kind + 1 && a.a == n)

/-- VOCAB_ID differs from that of every other slot resident or about to be (R159). -/
def Block.vocabIdNew (b : Block) (n id : Nat) : Bool :=
  b.ob.vocabs.all (fun e => e.1 == n || b.r0 (e.2 + 8) 4 != id)
  && b.ob.acts.all (fun a => a.what != 1 || a.a == n || b.r0 (a.b + 8) 4 != id)

/-- STATUS of a finished check: the image, then the number, then the room. -/
def Block.checkStatus (b : Block) (kind n base : Nat) : Nat :=
  let i := b.imgAt base
  let total := b.imgBytes kind base
  if base % 64 ≠ 0 || !b.readable base 128 || !b.readable base total then 2
  else match kind with
    | 0 => if vocOk i && b.vocabIdNew n (iu i 8 4) then 0 else 2
    | 1 => if !b.grammarOk i then 2 else if 4096 ≤ b.loadedCount 1 (b.ob.grammars.map (·.1)) then 4 else 0
    | 2 => if !b.stopOk i then 2 else if 4096 ≤ b.loadedCount 2 (b.ob.stops.map (·.1)) then 4 else 0
    | 3 => if !b.matcherOk i then 2 else if n = 0 ∨ 1023 < n ∨ b.loadedSoon 3 n (tget b.ob.msets n).isSome then 3
      else if 1023 ≤ b.loadedCount 3 (b.ob.msets.map (·.1)) then 4 else 0
    | _ =>
      if !orchardOk i then 2 else if n = 0 ∨ b.loadedSoon 4 n (tget b.ob.ensembles n).isSome then 3
      else if b.storeFree < oUnits (b.rd0 base total) then 4 else 0

/-- The command register of a kind: its STATUS and its offset. -/
def kindReg (kind : Nat) : Fld × Nat :=
  match kind with
  | 0 => (F.TOK_SLOT_CMD_STATUS, 0x0440)
  | 1 => (F.GRM_CMD_STATUS, 0x0600)
  | 2 => (F.STP_CMD_STATUS, 0x0680)
  | 3 => (F.MAT_CMD_STATUS, 0x0D00)
  | _ => (F.ORC_CMD_STATUS, 0x0C00)

/-- A check in progress finishes: STATUS, and the object is loaded at the next boundary; an ensemble's image is copied now. -/
def Block.checkDone (b : Block) (kind n : Nat) : Block :=
  match b.ob.checks.find? (fun c => c.1 == kind && c.2.1 == n) with
  | none => b
  | some (_, _, base) =>
    let b := { b with ob := { b.ob with checks := b.ob.checks.erase (kind, n, base) } }
    let st := b.checkStatus kind n base
    let b := b.status (kindReg kind).1 st
    if st ≠ 0 then b
    else
      let l := b.rd0 base (b.imgBytes kind base)
      (b.atBoundary (2 * kind + 1) n base 0 (if kind = 4 then l else [])).cfgEvent (kindReg kind).2 1 n (sha384 l)

/-- LOAD_CHECK_COMPLETE (R159, R188, R202, R300, R316). -/
def execLoadCheckComplete (kind : LoadKind) (number : Nat) (s : State) : Host.Outcome State Fault Refusal :=
  s.run (fun b => if b.run? then b.checkDone (kindNum kind) number else b)

/-- A threshold pair (R323). -/
def pairOk (r : List Byte) (o : Nat) : Bool :=
  let w := fun (k : Nat) => BitVec.ofNat 32 (lefld r k 4)
  !(dec32 (w o)).isNan && !(dec32 (w (o + 4))).isNan && ge32 (w (o + 4)) (w o)

/-- A feature source code (R322). -/
def sourceOk (code : Nat) : Bool :=
  let k := code / 256
  let i := code % 256
  decide (k ≤ 10) && (if k = 1 ∨ k = 2 ∨ k = 3 ∨ k = 10 then decide (i < 16) else i == 0)

/-- An ensemble suits the type of a feature source: CAT for LANG and TENANT, either for MISSING and EXT, NUM for the rest. -/
def typeOk (code ty : Nat) : Bool :=
  let k := code / 256
  k == 0 || k == 10 || (if k = 4 ∨ k = 7 then ty == 1 else ty == 0)

/-- A screen of a profile record (R321, R323). -/
def Block.screenOk (b : Block) (r : List Byte) (o map kind : Nat) : Bool :=
  let g := fun (k n : Nat) => lefld r (o + k) n
  let there := fun (m : Nat) => decide (m < 8192) && (b.objState false m == 1 || b.objState false m == 3) && b.cat m 1 1 == kind
  let feats := g 7 1
  let src := fun (k : Nat) => lefld r (map + 2 * k) 2
  let ens := fun (n : Nat) => n == 0 || (match b.ensemble n with
    | none => false
    | some i => oFeatures i == feats && decide (g 6 1 < oOutputs i) && (List.range feats).all (fun k => typeOk (src k) (iu i (iu i 24 8 + k) 1)))
  let set := fun (n alpha : Nat) => n == 0 || (match b.matcherSet n with
    | none => false
    | some i => iu i 6 1 == alpha)
  there (g 0 2) && (g 2 2 == 0xFFFF || (there (g 2 2) && b.objState false (g 2 2) == 3)) && decide (g 6 1 ≤ 15) && decide (feats ≤ 64)
  && ens (g 4 1) && ens (g 5 1) && (g 4 1 != 0 || g 5 1 != 0 || feats == 0)
  && pairOk r (o + 8) && pairOk r (o + 16) && set (g 24 2) 0 && set (g 26 2) 1 && allZero ((r.drop (o + 28)).take 36)
  && (List.range 64).all (fun k => if k < feats then sourceOk (src k) else src k == 0)

/-- The deep stage of a profile record. -/
def Block.deepOk (b : Block) (r : List Byte) : Bool :=
  let ok := fun (m : Nat) (warm : Bool) => m == 0xFFFF || (decide (m < 8192) && b.cat m 1 1 == 4
    && (b.objState false m == 3 || (!warm && b.objState false m == 1)))
  ok (lefld r 160 2) false && ok (lefld r 162 2) true && decide (lefld r 164 1 ≤ 15) && pairOk r 168

/-- The checks of R323 on a 512-byte record. -/
def Block.profileOk (b : Block) (r : List Byte) : Bool :=
  r.length == 512 && lefld r 252 4 == crc32 (r.take 252 ++ r.drop 256) && decide (lefld r 0 4 < 32)
  && within (lefld r 4 4) 2000 50000 && within (lefld r 8 4) 512 262144 && within (lefld r 12 4) 1000 50000
  && allZero ((r.drop 18).take 14) && lefld r 165 3 == 0 && allZero ((r.drop 176).take 76)
  && b.screenOk r 32 256 2 && b.screenOk r 96 384 3 && b.deepOk r

/-- The Sloe models of a profile record (R283). -/
def sloesOf (r : List Byte) : List Nat := [lefld r 34 2, lefld r 98 2, lefld r 162 2].filter (· != 0xFFFF)

/-- The record of a profile, in force or about to be, while it is defined. -/
def Block.profNow (b : Block) (p : Nat) : Option (List Byte) :=
  match b.profPending p with
  | some r => some r
  | none => if b.profFlag p 0 then some (b.rd0 (b.fget F.VRD_PROF_BASE_BASE + 512 * p) 512) else none

/-- The PROFILE event (R333). -/
def Block.profEvent (b : Block) (p version op : Nat) : Block := b.logEvent 1 (leBytes 2 p ++ leBytes 2 version ++ leBytes 1 op)

/-- A define (R323): pins, the event, and the record for the next boundary. -/
def Block.define (b : Block) (p : Nat) (r : List Byte) : Block :=
  let old := b.profNow p
  let drop := (old.map sloesOf).getD []
  let add := sloesOf r
  if !b.profileOk r then b.status F.VRD_CMD_STATUS 2
  else if !b.pinsFit (b.fget F.MDL_CTRL_FREE_MIN) drop add then b.status F.VRD_CMD_STATUS 4
  else
    let version := ((match old with
      | some o => lefld o 16 2
      | none => b.prof p 16 2) + 1) % 65536
    let rec_ := leBytes 4 (lefld r 0 4 ||| 1) ++ (r.drop 4).take 12 ++ leBytes 2 version ++ r.drop 18
    let b := drop.foldl (fun b n => b.unpin n) (add.foldl (fun b n => b.pin n) b)
    ((b.atBoundary 20 p 0 0 rec_).profEvent p version 1).status F.VRD_CMD_STATUS 0 |>.cfgEvent 0x0E08 1 p rec_

/-- An undefine (R323). -/
def Block.undefine (b : Block) (p : Nat) : Block :=
  match b.profNow p with
  | none => b.status F.VRD_CMD_STATUS 3
  | some r =>
    let b := { b with ob := { b.ob with acts := b.ob.acts.filter (fun a => !(a.what == 20 && a.a == p)) } }
    let a := b.fget F.VRD_PROF_BASE_BASE + 512 * p
    let b := (b.wr0 a (leBytes 4 (lefld r 0 4 / 2 * 2))).wr0 (a + 16) (leBytes 2 (lefld r 16 2))
    let b := (sloesOf r).foldl (fun b n => b.unpin n) b
    ((b.profEvent p (lefld r 16 2) 2).status F.VRD_CMD_STATUS 0).cfgEvent 0x0E08 2 p []

/-- VRD_CMD written (R323). -/
def Block.vrdCmd (b : Block) (s : RegSrc) (v : Word) : Block :=
  let p := wfld v F.VRD_CMD_PROFILE
  b.regWrite s 0x0E08 v (b.live.any (fun e => b.eget e E.PROFILE == p)) (fun b =>
    let base := b.fget F.VRD_ARG_BASE
    if wfld v F.VRD_CMD_OP = 2 then b.undefine p
    else b.define p (if base % 64 = 0 && b.readable base 512 then b.rd0 base 512 else []))

/-- PROFILE_DEFINE and PROFILE_UNDEFINE (R323). -/
def execProfileDefine (src : RegSrc) (number : Nat) (s : State) : Host.Outcome State Fault Refusal :=
  s.run (fun b => b.vrdCmd src (wput [(F.VRD_CMD_PROFILE, number), (F.VRD_CMD_OP, 1)]))
def execProfileUndefine (src : RegSrc) (number : Nat) (s : State) : Host.Outcome State Fault Refusal :=
  s.run (fun b => b.vrdCmd src (wput [(F.VRD_CMD_PROFILE, number), (F.VRD_CMD_OP, 2)]))

end Sys2Proof.Machine
end

