-- ==== Sys2Proof/Machine/ModelCmds.lean ====
section
/-! DEFINITION. The commands of the model store (R274 to R278, R283, R284, R289, R292, R293), and the completions of its loads and fills
(R276, R281, R288). -/
namespace Sys2Proof.Machine
open Sys2Proof

/-- A registration record may be kept or loaded (R275): COLD wants space 5 or 6, otherwise the own space 0. -/
def Block.sourceFits (b : Block) (src : Nat) (cold : Bool) : Bool :=
  if cold then gaSpace src == 5 || gaSpace src == 6 else gaSpace src == 0 && gaNode src == b.node

/-- The 128 bytes at MDL_ARG. -/
def Block.argRecord (b : Block) : List Byte :=
  let base := b.fget F.MDL_ARG_BASE
  if base % 64 = 0 && b.readable base 128 then b.rd0 base 128 else []

/-- STATUS of MDL_CMD or MDL_ADP_CMD. -/
def mdlStatus (ad : Bool) : Fld := if ad then F.MDL_ADP_CMD_STATUS else F.MDL_CMD_STATUS

/-- The command register waits for the load of an object: STATUS 1. -/
def Block.waitLoad (b : Block) (ad : Bool) (n : Nat) : Block :=
  (if ad then { b with st := { b.st with cmdAdapter := some n } } else { b with st := { b.st with cmdModel := some n } }).status (mdlStatus ad) 1

/-- The command register waits for nothing. -/
def Block.mdlEnd (b : Block) (ad : Bool) (st : Nat) : Block :=
  (if ad then { b with st := { b.st with cmdAdapter := none } } else { b with st := { b.st with cmdModel := none } }).status (mdlStatus ad) st

/-- A registered object is kept COLD, or loaded at once (R275, R289). -/
def Block.placeNew (b : Block) (ad : Bool) (n : Nat) (cold : Bool) : Block :=
  if cold then (b.setObjState ad n 1).mdlEnd ad 0 else ((b.setObjState ad n 2).waitLoad ad n).startLoad ad n

/-- Pins held for a model by LANGID and the draft table (R283). -/
def Block.heldPins (b : Block) (n : Nat) : Nat := (b.fget F.MDL_CTRL_LANGID == n).toNat + ((draftModels b.rq.drafts).contains n).toNat

/-- Register a model (R275). -/
def Block.modelRegister (b : Block) (n : Nat) : Block :=
  let r := b.argRecord
  let cold := lefld r 16 1 == 1
  let st := b.objState false n
  if st ≠ 0 ∧ st ≠ 4 then b.mdlEnd false 3
  else if r.isEmpty || decide (1 < lefld r 16 1) || !allZero ((r.drop 17).take 47) || !allZero (r.drop 112) || !b.sourceFits (lefld r 0 8) cold then b.mdlEnd false 2
  else
    let pins := b.heldPins n
    let b := b.wr0 (b.objAddr false n) (leBytes 3 0 ++ leBytes 1 (2 * cold.toNat) ++ leBytes 4 pins ++ r.take 16 ++ zeros 40 ++ (r.drop 64).take 48 ++ zeros 16)
    let keep := b.st.pinned.filter (· != n)
    let wait := b.st.fillWait.filter (· != (false, n))
    let b := { b with st := { b.st with pinned := if pins = 0 then keep else sortNat (n :: keep), fillWait := if pins = 0 then wait else wait ++ [(false, n)] } }
    let b := { b with st := { b.st with heads := tdel b.st.heads n } }
    (b.cfgEvent 0x0B38 1 n ((r.drop 64).take 48)).placeNew false n cold

/-- Fetch a model or an adapter (R277, R293). -/
def Block.fetchObj (b : Block) (ad : Bool) (n : Nat) : Block :=
  match b.objState ad n with
  | 1 => (b.waitLoad ad n).startLoad ad n
  | 2 => b.waitLoad ad n
  | 3 => b.mdlEnd ad 0
  | _ => b.mdlEnd ad 3

/-- An object leaves the store: its copy, its granules, and loads and fills that wait. -/
def Block.forget (b : Block) (ad : Bool) (n : Nat) : Block :=
  let b := if (b.ctx ad n).isSome then b.unhot ad n else b
  let b := b.freeWarm ad n
  { b with st := { b.st with loads := b.st.loads.filter (fun l => !(l.1 == ad && l.2.1 == n)), fillWait := b.st.fillWait.filter (· != (ad, n)) } }

/-- Unload a model (R278). -/
def Block.modelUnload (b : Block) (n : Nat) : Block :=
  let st := b.objState false n
  if st = 0 then b.mdlEnd false 3
  else
    let cold := st == 3 && (b.cat n 3 1).testBit 1
    let b := (b.forget false n).dropStates n
    let b := if cold then b.setObjState false n 1
      else { (b.wr0 (b.objAddr false n) (zeros 128)) with st := { b.st with heads := tdel b.st.heads n } }
    (b.mdlEnd false 0).cfgEvent 0x0B38 3 n []

/-- Firmware's pin (R283, R284). -/
def Block.modelPin (b : Block) (n : Nat) : Block :=
  if b.objState false n = 3 && (b.cat n 3 1).testBit 0 then b.mdlEnd false 0
  else if !b.pinOk [n] then b.mdlEnd false 4
  else ((b.objPut false n 3 1 (b.cat n 3 1 ||| 1)).pin n).mdlEnd false 0

/-- Firmware's pin cleared (R283). -/
def Block.modelUnpin (b : Block) (n : Nat) : Block :=
  if !(b.cat n 3 1).testBit 0 then b.mdlEnd false 3
  else ((b.objPut false n 3 1 (b.cat n 3 1 / 2 * 2)).unpin n).mdlEnd false 0

/-- Registered adapters of a base model. -/
def Block.adaptersOf (b : Block) (n : Nat) : List Nat :=
  (b.st.adpDigest.map (·.1)).filter (fun a => within (b.objState true a) 1 3 && b.adp a 8 4 == n)

/-- A model is busy (R278); the test is made for an unload (log 37). -/
def Block.modelBusy (b : Block) (n : Nat) : Bool :=
  b.cat n 4 4 != 0 || b.objHot false n != 0 || !(b.itemsFor false n).isEmpty || !(b.adaptersOf n).isEmpty || b.objState false n == 2

/-- MDL_CMD written. -/
def Block.mdlCmd (b : Block) (s : RegSrc) (v : Word) : Block :=
  let n := wfld v F.MDL_CMD_NUMBER
  let op := wfld v F.MDL_CMD_OP
  b.regWrite s 0x0B38 v (op == 3 && b.modelBusy n) (fun b =>
    match op with
    | 1 => b.modelRegister n
    | 2 => b.fetchObj false n
    | 3 => b.modelUnload n
    | 4 => b.modelPin n
    | _ => b.modelUnpin n)

/-- MODEL_REGISTER (R275). -/
def execModelRegister (src : RegSrc) (number : Nat) (s : State) : Host.Outcome State Fault Refusal :=
  s.run (fun b => b.mdlCmd src (wput [(F.MDL_CMD_NUMBER, number), (F.MDL_CMD_OP, 1)]))
/-- MODEL_FETCH (R277). -/
def execModelFetch (src : RegSrc) (number : Nat) (s : State) : Host.Outcome State Fault Refusal :=
  s.run (fun b => b.mdlCmd src (wput [(F.MDL_CMD_NUMBER, number), (F.MDL_CMD_OP, 2)]))
/-- MODEL_UNLOAD (R278). -/
def execModelUnload (src : RegSrc) (number : Nat) (s : State) : Host.Outcome State Fault Refusal :=
  s.run (fun b => b.mdlCmd src (wput [(F.MDL_CMD_NUMBER, number), (F.MDL_CMD_OP, 3)]))
/-- MODEL_PIN (R283). -/
def execModelPin (src : RegSrc) (number : Nat) (s : State) : Host.Outcome State Fault Refusal :=
  s.run (fun b => b.mdlCmd src (wput [(F.MDL_CMD_NUMBER, number), (F.MDL_CMD_OP, 4)]))
/-- MODEL_UNPIN (R283). -/
def execModelUnpin (src : RegSrc) (number : Nat) (s : State) : Host.Outcome State Fault Refusal :=
  s.run (fun b => b.mdlCmd src (wput [(F.MDL_CMD_NUMBER, number), (F.MDL_CMD_OP, 5)]))

/-- Register an adapter (R289). -/
def Block.adapterRegister (b : Block) (n : Nat) : Block :=
  let r := b.argRecord
  let cold := lefld r 15 1 == 1
  let st := b.objState true n
  let base := lefld r 16 4
  let rank := lefld r 14 1
  let bst := b.objState false base
  if st ≠ 0 ∧ st ≠ 4 then b.mdlEnd true 3
  else if r.isEmpty || decide (1 < lefld r 15 1) || !allZero ((r.drop 20).take 44) || !allZero (r.drop 112) || !b.sourceFits (lefld r 0 8) cold
    || !within rank 1 64 || decide (8192 ≤ base) || !(bst == 1 || bst == 3) || decide (b.header base 44 1 < rank) then b.mdlEnd true 2
  else
    let b := b.wr0 (b.objAddr true n) ((r.drop 12).take 3 ++ zeros 5 ++ leBytes 4 base ++ zeros 4 ++ r.take 8 ++ zeros 8 ++ (r.drop 8).take 4 ++ zeros 28)
    let b := { b with st := { b.st with adpDigest := tset b.st.adpDigest n ((r.drop 64).take 48) } }
    (b.cfgEvent 0x0B50 1 n ((r.drop 64).take 48)).placeNew true n cold

/-- Unregister an adapter (R292). -/
def Block.adapterUnregister (b : Block) (n : Nat) : Block :=
  if b.objState true n = 0 then b.mdlEnd true 3
  else
    let b := (b.forget true n).wr0 (b.objAddr true n) (zeros 64)
    let b := { b with st := { b.st with adpDigest := tdel b.st.adpDigest n } }
    (b.mdlEnd true 0).cfgEvent 0x0B50 2 n []

/-- MDL_ADP_CMD written (R292, R293): only an unregister can be busy. -/
def Block.adpCmd (b : Block) (s : RegSrc) (v : Word) : Block :=
  let n := wfld v F.MDL_ADP_CMD_NUMBER
  let op := wfld v F.MDL_ADP_CMD_OP
  b.regWrite s 0x0B50 v (op == 2 && b.live.any (fun e => (b.adapters e).contains n)) (fun b =>
    match op with
    | 1 => b.adapterRegister n
    | 2 => b.adapterUnregister n
    | _ => b.fetchObj true n)

/-- ADAPTER_REGISTER (R289). -/
def execAdapterRegister (src : RegSrc) (number : Nat) (s : State) : Host.Outcome State Fault Refusal :=
  s.run (fun b => b.adpCmd src (wput [(F.MDL_ADP_CMD_NUMBER, number), (F.MDL_ADP_CMD_OP, 1)]))
/-- ADAPTER_UNREGISTER (R292). -/
def execAdapterUnregister (src : RegSrc) (number : Nat) (s : State) : Host.Outcome State Fault Refusal :=
  s.run (fun b => b.adpCmd src (wput [(F.MDL_ADP_CMD_NUMBER, number), (F.MDL_ADP_CMD_OP, 2)]))
/-- ADAPTER_FETCH (R293). -/
def execAdapterFetch (src : RegSrc) (number : Nat) (s : State) : Host.Outcome State Fault Refusal :=
  s.run (fun b => b.adpCmd src (wput [(F.MDL_ADP_CMD_NUMBER, number), (F.MDL_ADP_CMD_OP, 3)]))

/-- A copy that has become WARM is filled where items or pins wait for it (R277, R281, R283), and a STREAM model's items take their state (R286). -/
def Block.afterLoad (b : Block) (ad : Bool) (n : Nat) : Block :=
  if b.objState ad n ≠ 3 || (b.idleCtx ad n && !(!ad && b.st.pinned.contains n)) then b
  else ((if ad then b else b.streamReady n).fillLater ad n).retryFills

/-- MODEL_LOAD_COMPLETE (R276). -/
def execModelLoadComplete (adapter : Bool) (number : Nat) (far : List FarRead) (s : State) : Host.Outcome State Fault Refusal :=
  s.run (fun b => if b.run? then (b.loadDone adapter number far).afterLoad adapter number else b)

/-- HOT_FILL_COMPLETE (R281): items that waited for the context may begin, and models they need are filled (R288). -/
def execHotFillComplete (adapter : Bool) (number : Nat) (s : State) : Host.Outcome State Fault Refusal :=
  s.run (fun b => if b.run? then let b := b.fillDone adapter number
    (if adapter then b.fillReady number else b).dispatchItems else b)

/-- FILL_RETRY (R288). -/
def execFillRetry (s : State) : Host.Outcome State Fault Refusal := s.run (fun b => if b.run? then b.retryFills else b)

end Sys2Proof.Machine
end

