-- ==== Sys2Proof/Machine/PairOps.lean ====
section
/-! DEFINITION. The blocks of a Pair (R504 to R511): the copy, the standby's journal, acknowledgements, loss of the peer, takeover. -/
namespace Sys2Proof.Machine
open Sys2Proof

/-- Log records and Punnet bytes that are not consumed, as the rings in the own space 0 hold them (R505, R510; log 39). -/
def Block.ringCopies (b : Block) : List (Nat × List Byte) :=
  let own := fun (a : Nat) => gaNode a == b.node && gaSpace a == 0
  let seen := b.fget F.VRD_LOG_TAKEN_TAKEN
  let logs := if own (b.fget F.VRD_LOG_BASE_BASE) then
      (List.range (b.fget F.VRD_LOG_SEQ_SEQ - seen)).map (fun i => (privAddr 4 (seen + 1 + i), b.rd0 (gaOff (b.logSlot (seen + 1 + i))) 128)) else []
  let base := b.fget F.TOK_PUN_RING_BASE
  let size := 2 ^ b.fget F.TOK_PUN_CFG_SIZE_LOG2
  let taken := b.fget F.TOK_PUN_TAKEN_TAKEN
  let puns := if own base then
      (List.range (cdiv (b.rq.punWritten - taken) 4096)).map (fun i =>
        let pos := taken + 4096 * i
        (privAddr 3 (pos / 64), leBytes 8 pos ++ (List.range (min 4096 (b.rq.punWritten - pos))).map (fun j => mrd b.mem.stack (gaOff base + (pos + j) % size)))) else []
  logs ++ puns

/-- The active begins to copy the mirror set into the standby (R504, R505): spans of space 0 and of the request table. -/
def Block.startCopy (b : Block) : Block :=
  let pfx := 2 ^ b.fget F.PFX_CTRL_SIZE_LOG2
  let ext := b.live.map (fun e => (b.extent e, 4 * b.extentCap e))
  let spans : List (Nat × Nat) := [(3 * 2 ^ 52, 65536 * 256), (b.fget F.PG_REC_BASE_BASE, 8 * b.fget F.PG_TOTAL_TOTAL),
    (b.fget F.PFX_IDX_BASE_BASE, 64 * pfx), (b.fget F.PFX_TOK_BASE_BASE, 512 * pfx), (b.fget F.TOK_DIR_BASE_BASE, 65536 * 16),
    (b.fget F.SPC_TREE_BASE_BASE, 65536 * 128), (b.fget F.VRD_MSTATE_BASE_BASE, 65536 * 16)] ++ ext
    ++ (b.live.filter (fun e => b.eget e E.GRM_DEPTH != 0)).map (fun e => (b.eget e E.GRM_STACK, 4 * b.eget e E.GRM_DEPTH))
  let p := Pair.reset
  let log := b.ringCopies ++ b.log.staged.map (fun r => (privAddr 4 (lefld r 0 8), r))
  (({ b with pair := { p with copy := spans.flatMap (fun (s : Nat × Nat) => cutSpan s.1 s.2), mirror := log, lastEpochUs := b.clk.timeUs } }).fset
    F.STA_PAIR_STATE 3).fset F.STA_PAIR_ACK_ACK 0

/-- A record without an address of its own kept: by its kind and number, pieces joined. -/
def Block.keepShadow (b : Block) (target : Nat) (data : List Byte) : Block :=
  let key := target / 2 ^ 24
  let old := tgetD b.pair.shadow key []
  { b with pair := { b.pair with shadow := tset b.pair.shadow key (old.take (target % 2 ^ 24) ++ data) } }

/-- One mirror record applied in the standby (R506, R511). -/
def Block.applyRecord (b : Block) (target : Nat) (data : List Byte) : Block :=
  let a := target % 2 ^ 56
  if gaSpace a = 15 then
    let b := b.keepShadow a data
    if a = privAddr 5 0 then
      if data = padTo b.sa.cfg 48 || data = b.pair.cfgSeen then b
      else (({ b with pair := { b.pair with cfgSeen := data } }).evt F.STA_EVT_CFG_DIFF).report 16 7 0
    else if a = privAddr 0 0 then b.fset F.TICK_COUNT_COUNT (lefld data 32 8)
    else b
  else if gaSpace a = 0 || gaSpace a = 3 then b.poke (gaSpace a) (gaOff a) data
  else b

/-- A sync record applied (R506): the journal up to it is free, the active's acknowledgement raised; READY after a full one (R504). -/
def Block.applySync (b : Block) : Block :=
  let full := (tget b.pair.shadow (privAddr 0 0 / 2 ^ 24)).isSome
  let b := { b with pair := { b.pair with epoch := b.pair.epoch + 1, lastEpochUs := b.clk.timeUs } }
  let b := b.pairOp (b.peerReg 0x60) []
  if full && b.fget F.STA_PAIR_STATE = 3 then b.fset F.STA_PAIR_STATE 4 else b

/-- Bytes of the journal from a position. -/
def Block.journalBytes (b : Block) (pos n : Nat) : List Byte :=
  let size := 2 ^ b.fget F.STA_PAIR_JRNL_SIZE_LOG2
  (List.range n).map (fun i => mrd b.mem.stack (b.fget F.STA_PAIR_JRNL_BASE + (pos + i) % size))

/-- The standby applies records up to the epoch its counter shows (R506). -/
def Block.applyJournal : Nat → Block → Block
  | 0, b => b
  | f + 1, b =>
    if b.fget F.STA_PAIR_EPOCH_EPOCH ≤ b.pair.epoch then b
    else
      let h := b.journalBytes b.pair.applied 16
      let n := lefld h 8 4
      if lefld h 12 4 ≠ (b.pair.epoch + 1) % 2 ^ 32 || (n ≠ 0 && (n < 8 || 65536 < n)) then b
      else
        let data := b.journalBytes (b.pair.applied + 16) n
        let b := { b with pair := { b.pair with applied := b.pair.applied + 16 + cdiv n 16 * 16 } }
        Block.applyJournal f (if n = 0 then b.applySync else b.applyRecord (lefld h 0 8) data)

/-- The standby's epoch raised by the active (R506). -/
def Block.epochRaise (b : Block) (n : Nat) : Block :=
  if !b.standby then b
  else
    let b := b.raiseCounter F.STA_PAIR_EPOCH_EPOCH n
    Block.applyJournal (2 ^ b.fget F.STA_PAIR_JRNL_SIZE_LOG2 / 16 * (n + 1) + 1) b

/-- PAIR_SYNC (R506). -/
def execPairSync (s : State) : Host.Outcome State Fault Refusal := s.run (fun b => if b.run? then b.pairSync.settled else b)
/-- PAIR_EPOCH_RAISE (R506). -/
def execPairEpochRaise (count : Nat) (s : State) : Host.Outcome State Fault Refusal := s.run (fun b => (b.epochRaise count).settled)
/-- PAIR_ACK_RAISE (R507). -/
def execPairAckRaise (count : Nat) (s : State) : Host.Outcome State Fault Refusal :=
  s.run (fun b => if b.run? && b.mirrors then (b.raiseCounter F.STA_PAIR_ACK_ACK count).settled else b)

/-- The time base at the end of TIMEOUT_US without the peer, where a pair link is still in service (R509). -/
def Block.peerLate (b : Block) : Block :=
  if b.pairLinks.isEmpty then b else b.advance (b.pair.lastEpochUs + b.fget F.STA_PAIR_CFG_TIMEOUT_US)

/-- PAIR_STANDBY_TIMEOUT (R509): a standby in READY begins takeover. -/
def execPairStandbyTimeout (s : State) : Host.Outcome State Fault Refusal :=
  s.run (fun b => if b.standby && b.fget F.STA_PAIR_STATE == 4 then
    let b := b.peerLate
    { b with pair := { b.pair with taking := true } } else b)

/-- PAIR_FENCE (R509). -/
def execPairFence (s : State) : Host.Outcome State Fault Refusal :=
  s.run (fun b => if b.run? && b.mirrors then b.peerLate.fenced else b)

/-- A record of the standby's shadow. -/
def Block.shadowOf (b : Block) (kind n : Nat) : List Byte := tgetD b.pair.shadow (privAddr kind n / 2 ^ 24) []

/-- Records of a kind of the shadow. -/
def Block.shadowKind (b : Block) (kind : Nat) : List (List Byte) :=
  (b.pair.shadow.filter (fun e => e.1 / 2 ^ 24 == privAddr kind 0 / 2 ^ 48)).map (·.2)

/-- A table of a number by pool, from words that hold the number plus 1. -/
def wTable (l : List Nat) : Tbl Nat := (List.range l.length).filterMap (fun i => if l.getD i 0 = 0 then none else some (i, l.getD i 0 - 1))

/-- The counters, claims and outstanding orders of epoch e (R505). -/
def Block.takeWords (b : Block) : Block :=
  let w := byteWords (b.shadowOf 0 0)
  if w.isEmpty then b
  else
    let g := fun (i : Nat) => w.getD i 0
    let part := fun (i n : Nat) => (w.drop i).take n
    let orders := (List.range (g 7)).map (fun i => wOrder (byteWords (b.shadowOf 2 i)))
    let b := { b with
      rq := { b.rq with orderSeq := g 0, admTaken := g 2, ctlTaken := g 3, orders := orders, nextItem := g 8,
                        lastAlloc := wTable (part 14 8), published := wTable (part 22 256), ringPos := wTable (part 278 256),
                        seen := wTable (part 534 256), punWritten := g 1 }
      lgr := { b.lgr with admitted := g 5, ended := g 6, pages := part 9 5 } }
    (b.fset F.RQT_ADM_TAKEN_TAKEN (g 2)).fset F.RQT_CTL_TAKEN_TAKEN (g 3)

/-- The sequencer-side state of the live entries, and what follows from the mirrored tables: free list space, free token granules. -/
def Block.takeSides (b : Block) : Block :=
  let sides := b.live.map (fun e => (e, wSide (byteWords (b.shadowOf 1 e))))
  let b := { b with rq := { b.rq with side := sides } }
  let tok := b.live.flatMap (fun e => let g := b.extentGran e; (List.range g.2).map (g.1 + ·))
  let lst := b.rq.orders.flatMap (fun o => (List.range o.listGran).map (o.listOff + ·))
  { b with rq := { b.rq with
    tokFree := (List.range (b.fget F.TOK_ARENA_SIZE_GRANULES)).filter (fun g => !tok.contains g), tokOld := []
    listFree := (List.range (b.fget F.PG_LIST_SIZE_GRANULES)).filter (fun g => !lst.contains g)
    unitFree := List.range (b.fget F.SPC_UNIT_COUNT_UNITS), freed := [], staleFree := [] } }

/-- Ticks that e records as published but that a pool's counter does not show (R510, R394); a counter that cannot be read shows none of them. -/
def Block.takePools (b : Block) (far : List FarRead) : Block :=
  (b.rq.pools.filter (fun q => q.kind != 0 && q.kind != 4 && q.pubCtr != 0)).foldl (fun b q =>
    match tget b.rq.published q.num with
    | none => b
    | some k =>
      let shown := if gaNode q.pubCtr = b.node && gaSpace q.pubCtr = 0 then some (b.r0 (gaOff q.pubCtr) 8)
        else match farRead far q.pubCtr 8 with
          | .ok l => some (leNat l)
          | .error _ => none
      let late := (List.range 5).filter (fun i => decide (i ≤ k) && decide (((shown.map (· + 1)).getD 0) ≤ k - i))
      late.foldl (fun b i => b.poolUnpublished q.num (k - i)) b) b

/-- Caches the mirror does not hold (R505, R510): draft caches, stream state, warm pages, and the orders for the WARM pool. -/
def Block.takeCaches (b : Block) : Block :=
  let warm := fun (n : Nat) => ((b.pool n).map (·.kind)) == some 4
  let b := (b.rq.orders.filter (fun o => warm o.src)).foldl (fun b o => b.endOrder o 4 0 false) b
  let b := { b with st := { b.st with states := [] } }
  b.live.foldl (fun b e =>
    let b := ((b.eset e E.WARM 0).eset e E.UNIT_COUNT 0).eset e E.UNIT_HEAD 0xFFFFFFFF
    let st := b.eget e E.STATE
    if b.eget e E.TIER = 1 && (st = 5 || st = 6) then b.modSide e (fun s => { s with lost := 1 }) else b) b

/-- Screening again (R510): an input verdict whose release time has passed is INDETERMINATE now; other items are queued anew. -/
def Block.takeScreens (b : Block) : Block :=
  b.live.foldl (fun b e =>
    let s := b.side e
    let again := fun (b : Block) (l : List Screen) => l.foldl (fun (b : Block) c => b.startScreen e c.id) b
    if b.eget e E.STATE = 2 then
      let t := b.eget e E.RELEASE_TIME
      if t ≠ 0 && t < b.clk.timeUs then b.postInput e true
      else if t = 0 then b.ownJob (b.mkJob 1 e 0)
      else again b (s.screens.filter (fun c => !c.output))
    else
      let d := b.outDeadline
      let out := (s.screens.filter (fun c => c.output && s.toks.any (fun t => t.item == c.id && !t.pass))).map (fun (c : Screen) => { c with deadline := d })
      again (b.modSide e (fun s => { s with screens := out })) out) b

/-- Punnets and log records that are not wholly consumed are written to the block's own rings (R510). -/
def Block.takeRings (b : Block) : Block :=
  let base := b.fget F.TOK_PUN_RING_BASE
  let size := 2 ^ b.fget F.TOK_PUN_CFG_SIZE_LOG2
  let taken := b.fget F.TOK_PUN_TAKEN_TAKEN
  let puns := sortBy (fun (x y : List Byte) => decide (lefld x 0 8 ≤ lefld y 0 8))
    ((b.shadowKind 3).filter (fun l => decide (taken < lefld l 0 8 + (l.length - 8) ∧ lefld l 0 8 < b.rq.punWritten)))
  let b := puns.foldl (fun (b : Block) l =>
    let at_ := lefld l 0 8 % size
    let b := b.agentPut (base + at_) ((l.drop 8).take (size - at_)) 0 none 11 0
    if size < at_ + (l.length - 8) then b.agentPut base ((l.drop 8).drop (size - at_)) 0 none 11 0 else b) b
  let seen := b.fget F.VRD_LOG_TAKEN_TAKEN
  let recs := sortBy (fun (x y : List Byte) => decide (lefld x 0 8 ≤ lefld y 0 8)) ((b.shadowKind 4).filter (fun l => decide (seen < lefld l 0 8)))
  let last := recs.foldl (fun m r => max m (lefld r 0 8)) seen
  (({ b with log := { b.log with staged := recs, seq := last } }).fset F.VRD_LOG_SEQ_SEQ ((recs.head?.map (fun r => lefld r 0 8 - 1)).getD last)).logPump

/-- The admission results of the mirrored claims written again (R510). -/
def Block.takeAdmResults (b : Block) : Block :=
  (b.pair.shadow.filter (fun e => e.1 / 2 ^ 24 == privAddr 6 0 / 2 ^ 48)).foldl (fun b e =>
    b.agentPut (b.own0 (b.fget F.RQT_ADM_RES_BASE + 8 * (e.1 % 2 ^ 24))) (e.2.take 8) 2 none 8 0) b

/-- Text that was due in ticks with no Publish is late (R510). -/
def Block.takeLate (b : Block) : Block :=
  b.live.foldl (fun b e =>
    let n := (b.releasable e).length
    b.modSide e (fun s => { s with chars := (s.chars.take n).map (fun (c : HeldChar) => { c with late := true }) ++ s.chars.drop n })) b

/-- Takeover takes effect (R510). -/
def Block.takeover (b : Block) (far : List FarRead) : Block :=
  let e := b.pair.epoch
  let b := ((b.fset F.STA_IDENT_PAIR_ROLE 0).fset F.STA_PAIR_STATE 2).count F.STA_PAIR_TAKEOVERS
  let b := { b with pair := { b.pair with taking := false, heldWrites := [], heads := [] } }
  let b := ((b.evt F.STA_EVT_TAKEOVER).fset F.STA_CMD_STATUS 0).report 16 5 e
  ((((b.takeWords.takeSides.takeAdmResults.takeRings.takePools far).takeCaches).takeScreens).takeLate).settled

/-- TAKEOVER_EFFECT (R510): the command stands at the first tick boundary after takeover began (log 41). -/
def execTakeoverEffect (far : List FarRead) (s : State) : Host.Outcome State Fault Refusal :=
  s.run (fun b => if b.run? && b.pair.taking then b.takeover far else b)

end Sys2Proof.Machine
end

