-- ==== Sys2Proof/Machine/Start.lean ====
section
/-! DEFINITION. Start (R484 to R500): the stages of an attempt, the checks of the start image, what start leaves in force, retry, limit and
reset; the calendar (R485, R486); the roles of a Pair at start (R504). -/
namespace Sys2Proof.Machine
open Sys2Proof

/-- An attempt under way: the block, and the failure that ends it as (cause, detail); cause 0 is the entry to Seed mode, detail then F. -/
structure Attempt where
  blk : Block
  fail : Option (Nat × Nat)

/-- A stage's work where none before it has failed. -/
def Attempt.andThen (a : Attempt) (f : Block → Attempt) : Attempt := if a.fail.isSome then a else f a.blk

/-- A condition that ends the attempt where it does not hold. -/
def Attempt.need (a : Attempt) (ok : Block → Bool) (cause : Nat) (detail : Block → Nat) : Attempt :=
  a.andThen (fun b => ⟨b, if ok b then none else some (cause, detail b)⟩)

def Attempt.does (a : Attempt) (f : Block → Block) : Attempt := a.andThen (fun b => ⟨f b, none⟩)

/-- What an attempt that ends leaves (R494, R495). -/
def Attempt.close (a : Attempt) : Block :=
  match a.fail with
  | none => a.blk
  | some (c, d) => if c = 0 then a.blk.enterSeed d else a.blk.startFailed c d

def Block.setStage (b : Block) (n : Nat) : Block := b.fset F.STA_STAT_STAGE n

/-- A stack as the retirement record shows it (R503). -/
def stackOfRecord (r : List Byte) (n : Nat) (trained : Bool) (lines : Nat) : Stack :=
  let out := lefld r (328 + 8 * n) 8
  let map := (List.range 54).map (fun i => lefld r (440 + 54 * n + i) 1)
  let gone := (lefld r 424 2).testBit n
  { Stack.reset with
    up := trained && !gone
    retired := gone
    gangs := (List.range 3).map (fun g => !(lefld r 432 8).testBit (3 * n + g))
    out := out
    posmap := map
    spares := (List.range 64).filter (fun p => !map.contains p && !out.testBit p)
    lines := lines }

/-- The text units the record retires, by key. -/
def unitsOfRecord (r : List Byte) : Tbl TextUnit :=
  let gone : Nat → Nat → Nat → Nat → Tbl TextUnit := fun kind n o k => (List.range n).filterMap (fun i =>
    if (lefld r o k).testBit i then some (kind * 64 + i, { TextUnit.reset with retired := true }) else none)
  gone 0 8 278 1 ++ gone 1 16 276 2 ++ gone 2 32 280 4
  ++ (List.range 8).filterMap (fun e =>
    let g := 15 - bits (lefld r 272 4) (4 * e) 4
    if g = 15 then none else some (192 + e, { TextUnit.reset with groups := g }))

/-- The retirements of the record in force (R503): clusters, Pips, text units, Stem ports, lanes, stacks; links when they are trained. -/
def Block.loadRetired (b : Block) (r : List Byte) : Block :=
  let stks := b.io.stks.map (fun (k : Nat × Stack) => (k.1, stackOfRecord r k.1 k.2.up k.2.lines))
  let lanes := (List.range 64).filterMap (fun l =>
    let m := bits (lefld r 296 32) (4 * l) 4
    if m = 0 then none else some (l, m))
  let links := (List.range 64).filterMap (fun l => if (lefld r 288 8).testBit l then some (l, { Link.reset with state := 4 }) else none)
  let b := { b with
    sa := { b.sa with retSeq := lefld r 0 8 }
    cp := { b.cp with retired := lefld r 264 8, units := unitsOfRecord r }
    io := { b.io with stks := stks, lanesRetired := lanes, links := links } }
  let b := (List.range 64).foldl (fun b c => b.setPipMask c (lefld r (8 + 4 * c) 4)) b
  (List.range 8).foldl (fun b p =>
    let g := (lefld r 279 1).testBit p
    let k := b.stemAt p
    if g || k.retired then b.setStem p { k with retired := g, up := k.up && !g } else b) b

/-- Attempt records of the log, every readable valid copy. -/
def Block.attempts (b : Block) : List (List Byte) := ((List.range 64).flatMap (fun i => b.keepCopies (64 * i) 64)).filter crcHolds

/-- The counters of a checkpoint record (R513), taken over or added. -/
def checkpointWords (l : List Byte) : List (Nat × Nat) :=
  [(0x2030, lefld l 32 8), (0x2038, lefld l 40 8), (0x2040, lefld l 48 8)]
  ++ (List.range 12).map (fun n => (0x2080 + 8 * n, lefld l (56 + 8 * n) 8)) ++ (List.range 8).map (fun n => (0x20E0 + 8 * n, lefld l (152 + 8 * n) 8))

/-- The lifetime counters from the newest checkpoint (R501, R514), where the block has written or loaded none since reset. -/
def Block.loadCheckpoint (b : Block) : Block :=
  if b.fget F.LIF_CKPT_SEQ ≠ 0 then b
  else match b.newestCheckpoint with
    | none => if b.fget F.LIF_CKPT_FRESH = 1 then b else (b.fset F.LIF_CKPT_FRESH 1).report 17 2 0
    | some l =>
      let b := (checkpointWords l).foldl (fun b w => b.setReg w.1 (BitVec.ofNat 64 w.2)) b
      let b := (b.fset F.LIF_CKPT_SEQ (lefld l 8 8)).fset F.LIF_CKPT_FRESH 0
      { b with sa := { b.sa with ckptCal := some (lefld l 24 8) } }

/-- The trip record (R478, R500): THM_TRIP loaded from it (log 33), the trip counted once. -/
def Block.loadTrip (b : Block) : Block :=
  match (b.keepCopies 0x1000 64).find? crcHolds with
  | none => b
  | some l =>
    let b := if b.fget F.THM_TRIP_TRIPPED = 0 then b.count F.LIF_STARTS_TRIPS else b
    ((b.fset F.THM_TRIP_TRIPPED (lefld l 0 8)).fset F.THM_TRIP_SENSOR (lefld l 0 8 / 2)).fset F.THM_TRIP_TEMP_Q (lefld l 0 8 / 256)

/-- F (R494); a RUNNING record becomes FAILED, INTERRUPTED. -/
def Block.countFails (b : Block) : Block :=
  let set := fun (b : Block) (f : Nat) => ({ b with sa := { b.sa with f := f } }).fset F.STA_STAT_FAILS (min f 15)
  if b.fget F.STA_STAT_KEEP = 0 then set b (b.fget F.STA_DESC_ATTEMPTS + b.sa.failsSinceReset)
  else match newest 0 b.attempts with
    | none => set b 0
    | some l =>
      let fails := lefld l 33 1
      match lefld l 30 1 with
      | 0 =>
        let r := withCrc ((((((l.take 60).set 30 2).set 32 1).set 33 (BitVec.ofNat 8 (fails + 1))).take 36) ++ zeros 4 ++ (l.drop 40).take 20)
        let b := (b.keepAll (lefld l 0 8 % 64 * 64) r).fset F.STA_STAT_CAUSE 1
        set (b.fset F.STA_STAT_DETAIL 0) (fails + 1)
      | 2 => set b fails
      | 3 => set b 3
      | _ => set b 0

/-- The block as an attempt begins (R497): powered down, KEEP the stage, the stacks that trained in service. -/
def Block.beginAttempt (b : Block) (env : StartEnv) : Block :=
  let b := ((b.powerDown.setStage 2).fset F.STA_CMD_STATUS 1).count F.STA_STAT_ATTEMPT
  let up := if env.unstable = some 17 then [] else env.trained.filter (fun n => decide (n < 12))
  let b := { b with
    sa := { b.sa with beganAt := b.clk.timeUs, lines := env.lines }
    io := { b.io with stks := (List.range 12).map (fun n => (n, { Stack.reset with up := up.contains n, lines := env.lines })) } }
  b.fset F.PWR_PD_ON 0xA0000

/-- What the Keep regions give (R492, R494, R503, R514): retirements, the lifetime counters, the trip record, F. -/
def Block.readKeep (b : Block) : Block :=
  let b := match b.keepNewest 0x4000 4096 with
    | some r => b.loadRetired r
    | none => b
  let readable := b.stacksUp.any (fun n => (b.stackAt n).gangs.any id)
  let b := ((b.fset F.STA_STAT_KEEP readable.toNat).loadCheckpoint).loadTrip.countFails
  let last := (b.attempts.map (fun l => lefld l 0 8)).foldl max 0
  b.fset F.LIF_STARTS_ATTEMPTS (max (b.fget F.LIF_STARTS_ATTEMPTS) last)

/-- The KEEP stage's conditions (R478, R492, R498), once its record is written. -/
def Block.keepRules (b : Block) (env : StartEnv) : Attempt :=
  let a : Attempt := ⟨b, none⟩
  let a := a.need (fun _ => env.unstable != some 17) 2 (fun _ => 17)
  let a := a.need (fun b => !b.stacksUp.isEmpty) 3 (fun _ => 0)
  a.need (fun b => b.fget F.THM_TRIP_TRIPPED == 0 || env.hotSensor.isNone) 4 (fun _ => env.hotSensor.getD 0)

/-- The KEEP stage (R492, R494, R497). -/
def Block.keepStage (b : Block) (env : StartEnv) : Attempt :=
  let b := (b.beginAttempt env).readKeep
  if 3 ≤ b.sa.f then ⟨b, some (0, b.sa.f)⟩ else (b.newAttempt 0 0 b.sa.f 0).keepRules env

/-- U of R375 (R456). -/
def Block.stackU (b : Block) : Nat := 3 * (b.sa.lines - 32768) * 512

/-- The image as the source gives it (R493, R497): its bytes, or the code of the read that failed. -/
def Block.imageSource (b : Block) (env : StartEnv) : Except Nat (List Byte) :=
  let a := b.fget F.STA_IMG_ADDR
  let n := b.fget F.STA_DESC_BYTES
  if gaSpace a = 0 && b.sa.seed then
    if 2 ^ 30 < gaOff a + n then .error 2
    else if !(b.stackAt 0).up then .error 6
    else .ok (mrdN b.mem.stack (gaOff a) n)
  else if gaSpace a = 5 then farRead env.image a n
  else .error 1

/-- A header field (R488). -/
def imgFld (l : List Byte) (o n : Nat) : Nat := lefld l o n

/-- The entries of the section table (R488): (entry offset, type, flags, offset, length). -/
def sections (l : List Byte) : List (Nat × Nat × Nat × Nat × Nat) :=
  (List.range (imgFld l 7 1)).map (fun i => let e := 256 + 16 * i; (e, imgFld l e 1, imgFld l (e + 1) 1, imgFld l (e + 4) 4, imgFld l (e + 8) 4))

/-- A section's bytes. -/
def sect (l : List Byte) (t : Nat) : List Byte :=
  match (sections l).find? (fun s => s.2.1 == t) with
  | some s => (l.drop s.2.2.2.1).take s.2.2.2.2
  | none => []

/-- The programs of PROGRAMS (R489); fewer than 8 where the section does not hold them. -/
def programsGo : Nat → List Byte → List (List Byte)
  | 0, _ => []
  | f + 1, l =>
    let n := lefld l 0 4
    if n < 8 || 65536 < n || n % 8 ≠ 0 || l.length < 4 + n then [] else ((l.drop 4).take n) :: programsGo f (l.drop (4 + n))
def programs (l : List Byte) : List (List Byte) := programsGo 8 l

/-- The records of REG_INIT as (offset, value). -/
def regInit (l : List Byte) : List (Nat × Nat) :=
  (List.range (l.length / 16)).map (fun i => (lefld l (16 * i) 2, lefld l (16 * i + 8) 8))

/-- The header values of R488, each with its byte offset; `bytes` is STA_DESC.BYTES. -/
def headerRules (l : List Byte) (bytes : Nat) : List (Bool × Nat) :=
  let h := imgFld l
  let zero := fun (o n : Nat) => allZero ((l.drop o).take n)
  [(h 0 4 == 0x53544152, 0), (h 4 2 == 1, 4), (within (h 6 1) 1 4, 6), (within (h 7 1) 1 16, 7), (decide (h 20 2 ≤ 63), 20), (decide (h 22 1 ≤ 3), 22),
   (zero 23 1, 23), (within (h 24 8) 4096 268435456 && h 24 8 % 8 == 0 && h 24 8 == bytes, 24), (h 6 1 == 4 || h 57 1 == h 56 1, 57),
   (within (h 58 2) 6400 10000, 58), (zero 60 4, 60), (h 64 1 == 4, 64), (zero 161 95, 161)]

/-- The section rules of R488 and R489, each with a byte offset. -/
def sectionRules (l : List Byte) : List (Bool × Nat) :=
  let ss := sections l
  let zero := fun (o n : Nat) => allZero ((l.drop o).take n)
  let has := fun (t : Nat) => ss.any (fun s => s.2.1 == t)
  let small := decide (imgFld l 6 1 ≤ 2)
  let at_ := fun (t : Nat) => ((ss.find? (fun s => s.2.1 == t)).map (fun s => s.2.2.2.1)).getD 256
  let init := sect l 2
  ss.map (fun s => (within s.2.1 1 6 && s.2.2.1 == (if s.2.1 = 4 then 1 else 0) && zero (s.1 + 2) 2 && zero (s.1 + 12) 4
      && (ss.filter (fun t => t.2.1 == s.2.1)).length == 1 && decide (512 ≤ s.2.2.2.1) && decide (s.2.2.2.1 + s.2.2.2.2 + 96 ≤ l.length), s.1))
  ++ [([1, 2, 4, 5].all has && has 3 == small, 256),
   ((programs (sect l 1)).length == 8 && (sect l 1).length == 32 + (programs (sect l 1)).flatten.length, at_ 1),
   (init.length % 16 == 0 && (List.range (init.length / 16)).all (fun i => allZero ((init.drop (16 * i + 2)).take 6)), at_ 2),
   ((sect l 4).length == 92, at_ 4), (!has 6 || ((sect l 6).length == 8 && allZero ((sect l 6).drop 2)), at_ 6)]

/-- The first rule that does not hold, by its byte offset. -/
def brokenAt (l : List (Bool × Nat)) : Option Nat := (l.find? (fun r => !r.1)).map (·.2)

/-- The start area (R490): the last 256 MiB of space 0. -/
def Block.startArea (b : Block) : Nat := b.stacksS * b.usable - 2 ^ 28

/-- What the image's header and sections give, kept until the stages that use it. -/
def Block.takeImage (b : Block) (l rootKey : List Byte) : Block :=
  { b with sa := { b.sa with config := imgFld l 6 1, node := imgFld l 56 1, peer := imgFld l 57 1, revoke := sect l 6,
                             programs := programs (sect l 1), rootKey := rootKey, energyCoef := sect l 5 } }

/-- The image's seal opened (R490). -/
def Block.openKeys (b : Block) (l : List Byte) : Option (List Byte) :=
  let keys := sect l 4
  Config.gcmOpen b.sa.key.deviceKey (keys.take 12) (l.take 64) ((keys.drop 12).take 64) (keys.drop 76)

/-- The conditions of R490, orders 3 to 6, on an image whose layout holds. -/
def Block.imageRules (b : Block) (l : List Byte) : Attempt :=
  let slot := imgFld l 22 1
  let n := l.length
  let b := { b with sa := { b.sa with imageId := imgFld l 16 4, secVersion := imgFld l 20 2, keySlot := slot } }
  let a : Attempt := ⟨b, none⟩
  let a := a.need (fun b => sha384 ((l.drop 64).take 97) == padTo (b.sa.key.digests.getD slot []) 48 && !b.sa.key.revoked.testBit slot) 7 (fun _ => slot)
  let a := a.need (fun _ => Config.ecdsaP384 ((l.drop 64).take 97) (l.take (n - 96)) (l.drop (n - 96))) 8 (fun _ => 0)
  let a := a.need (fun b => decide (b.sa.key.floor ≤ imgFld l 20 2)) 9 (fun _ => imgFld l 20 2)
  let a := a.need (fun b => (b.openKeys l).isSome) 10 (fun _ => 0)
  a.does (fun b => b.takeImage l (((b.openKeys l).getD []).take 16))

/-- The image stored in the start area and checked (R490). -/
def Block.storeImage (b : Block) (l : List Byte) : Attempt :=
  let e := if b.stacksS * b.usable < 2 ^ 28 then 2 else b.span0 b.startArea l.length true
  if e ≠ 0 then ⟨b, some (5, e)⟩
  else
    let b := b.wr0 b.startArea l
    match brokenAt (headerRules l (b.fget F.STA_DESC_BYTES) ++ sectionRules l) with
    | some o => ⟨b, some (6, o)⟩
    | none => b.imageRules l

/-- The IMAGE stage (R490, orders 1 to 6). -/
def Block.imageStage (b : Block) (env : StartEnv) : Attempt :=
  let b := b.setStage 3
  let src := b.imageSource env
  let b := { b with mem := { b.mem with stack := remapStack 1 12 b.mem.stack } }
  let b := (b.fset F.LNK_NODE_STACKS 12).fset F.LNK_RM_USABLE_BYTES b.stackU
  match src with
  | .error c => ⟨b, some (5, c)⟩
  | .ok l => b.storeImage l

/-- One REG_INIT record loaded: the value in force, and the committed value of the fields of a group (R525). -/
def Block.initReg (b : Block) (w : Nat × Nat) : Block :=
  match findReg w.1 with
  | none => b
  | some r =>
    let v := BitVec.ofNat 64 w.2
    let b := b.setReg w.1 (mergeWord (b.reg w.1) (BitVec.ofNat 64 r.imgMask) v)
    if r.group.isSome then { b with regs := { b.regs with committed := tset b.regs.committed w.1 (v &&& r.rwgMask) } } else b

/-- The values of the image in force: REG_INIT, then what the header gives (R14, R403, R515). -/
def Block.loadRegs (b : Block) (l : List Byte) : Block :=
  let b := (regInit (sect l 2)).foldl (fun b w => b.initReg w) b
  let b := ((b.fset F.STA_IDENT_CONFIG (imgFld l 6 1)).fset F.STA_IDENT_PAIR_ROLE 0).fset F.STA_IDENT_CLUSTERS 0
  let b := b.fset F.TICK_CTRL_SCHED (decide (3 ≤ imgFld l 6 1)).toNat
  let b := ((b.fset F.STA_IMGID_IMAGE_ID (imgFld l 16 4)).fset F.STA_IMGID_SEC_VERSION (imgFld l 20 2)).fset F.STA_IMGID_KEY_SLOT (imgFld l 22 1)
  let b := ((b.fset F.LNK_NODE_NODE (imgFld l 56 1)).fset F.LNK_NODE_PEER (imgFld l 57 1)).fset F.LNK_NODE_STACKS 12
  let b := b.fset F.LNK_RM_USABLE_BYTES b.stackU
  { b with cp := { b.cp with mapOn := imgFld l 40 8, mapSpare := imgFld l 48 8 } }

/-- The conditions of R491 before the last. -/
def Block.mapRules (b : Block) (l : List Byte) : Bool :=
  let on := imgFld l 40 8
  let sp := imgFld l 48 8
  let cfg := imgFld l 6 1
  let fail := b.sa.key.mfgFail
  imgFld l 8 8 == b.sa.key.serial && imgFld l 32 8 == fail && on &&& fail == 0 && on &&& sp == 0
  && popcount 64 on == (if cfg = 1 then 16 else if cfg = 2 then 32 else 64) && decide (popcount 64 sp ≤ (if cfg ≤ 2 then 4 else 0))
  && (cfg != 4 || imgFld l 57 1 != imgFld l 56 1)
  && (regInit (sect l 2)).all (fun w => match findReg w.1 with
    | some r => w.2 &&& (2 ^ 64 - 1 - r.imgMask) == 0
    | none => false)

/-- The first commit group whose check the image's values fail: (group, CHECK). -/
def Block.badGroup (b : Block) (table : List Byte) : Option (Nat × Nat) :=
  ((List.range 16).map (fun g => (g, (b.groupCheck b g false table).1))).find? (fun r => r.2 != 0)

/-- The CHECK stage (R491). The registers hold the image's values from here on; until start completes they do not show (R21). -/
def Block.checkStage (b : Block) : Attempt :=
  let b := b.setStage 4
  let l := b.rd0 b.startArea (b.fget F.STA_DESC_BYTES)
  if !b.mapRules l then ⟨b, some (11, 0)⟩
  else
    let c := b.loadRegs l
    match c.badGroup (sect l 3) with
    | some r => ⟨b, some (11, r.2 + 256 * r.1)⟩
    | none => ⟨c, none⟩

/-- The clusters of the image's map (R6, R8 to R10, R491): retired ones stay out; in Compact and Standard their positions pass to spares. -/
def Block.loadMap (b : Block) : Block :=
  let on := b.cp.mapOn
  let small := !b.monitored
  let ids := (List.range 64).filter on.testBit
  let b := { b with cp := { b.cp with enabled := on, spares := b.cp.mapSpare, posLost := []
                                      spareFor := if small then (List.range ids.length).map (fun p => (p, ids.getD p 0)) else [] } }
  if small then (ids.filter b.cp.retired.testBit).foldl (fun b c => b.passPosition c) b else b

/-- The POWER and BOND stages (R467, R498). -/
def Block.powerStage (b : Block) (env : StartEnv) : Attempt :=
  let b := (b.setStage 5).loadMap
  let q := b.quadsOn
  let bad := match env.unstable with
    | some d => d == 18 || d == 16 || (decide (d < 16) && q.testBit d)
    | none => false
  if bad then ⟨b, some (2, env.unstable.getD 0)⟩
  else
    let b := (b.fset F.PWR_PD_ON (0xF0000 + q)).setStage 6
    let mask := bitsOf ((List.range 64).map (fun n => q.testBit (n / 4) && env.bondFailed.toNat.testBit n))
    let b := b.fset F.STA_BOND_FAILED mask
    ⟨if mask = 0 then b else (b.evt F.STA_EVT_BOND_FAIL).report 16 3 mask, none⟩

/-- The block's own tables in space 0 cleared (log 36). -/
def Block.clearTables (b : Block) : Block :=
  let pfx := 2 ^ b.fget F.PFX_CTRL_SIZE_LOG2
  let spans : List (Nat × Nat) := [(b.fget F.PG_REC_BASE_BASE, 8 * b.fget F.PG_TOTAL_TOTAL), (b.fget F.PFX_IDX_BASE_BASE, 64 * pfx),
    (b.fget F.MDL_CAT_BASE_BASE, 8192 * 128), (b.fget F.MDL_ADP_BASE_BASE, 262144 * 64), (b.fget F.VRD_PROF_BASE_BASE, 4096 * 512),
    (b.fget F.TOK_DIR_BASE_BASE, 65536 * 16), (b.fget F.VRD_MSTATE_BASE_BASE, 65536 * 16), (b.fget F.SPC_TREE_BASE_BASE, 65536 * 128)]
  spans.foldl (fun (b : Block) s => b.clearSpan s.1 s.2) b

/-- The links begin their first training (R434, R437), but for those retired. -/
def Block.trainLinks (b : Block) : Block :=
  (List.range 64).foldl (fun b l => if (b.linkAt l).state = 4 then b else b.setLink l { Link.reset with state := 1, lanes := b.lanesIn l }) b

/-- The LOAD stage up to the wait for the calendar (R486, R492). -/
def Block.loadStage (b : Block) (env : StartEnv) : Attempt :=
  let b := b.setStage 7
  match env.loadTrainFail with
  | some n => if (b.stackAt n).up then ⟨b, some (3, n)⟩ else ⟨b, none⟩
  | none => ⟨b, none⟩

/-- What LOAD leaves beside the registers. -/
def Block.loadState (b : Block) : Block :=
  let sched := if b.monitored then [] else sect (b.rd0 b.startArea (b.fget F.STA_DESC_BYTES)) 3
  let b := if sched.isEmpty then b else b.wr0 (b.fget F.TICK_TABLE_BASE_OFFSET) sched
  let b := b.clearTables.trainLinks
  let b := ((b.fset F.PWR_STAT_FREQ_MHZ 1400).fset F.PWR_STAT_DUTY 16).fset F.PWR_STAT_VOUT_MV (b.millivolts 1400)
  let b := if sched.isEmpty then b else b.atBoundary 22 0 0 0 sched
  { b with
    cp := { b.cp with table := tableRows sched }
    rq := { b.rq with tokFree := List.range (b.fget F.TOK_ARENA_SIZE_GRANULES), listFree := List.range (b.fget F.PG_LIST_SIZE_GRANULES)
                      unitFree := List.range (b.fget F.SPC_UNIT_COUNT_UNITS) }
    lgr := { b.lgr with pages := [b.fget F.PG_TOTAL_TOTAL, 0, 0, 0, 0] }
    sa := { b.sa with waitUs := b.clk.timeUs } }

/-- An attempt from the KEEP stage on (R492). -/
def Block.attempt (b : Block) (env : StartEnv) : Block :=
  ((((((b.keepStage env).andThen (fun b => b.imageStage env)).andThen Block.checkStage).andThen (fun b => b.powerStage env)).andThen
    (fun b => b.loadStage env)).does Block.loadState).close

/-- REVOKE applied to the key store (R491). -/
def KeyStore.revoke (k : KeyStore) (r : List Byte) (slot sec : Nat) : KeyStore :=
  if r.isEmpty then k
  else
    let m := lefld r 0 1 % 16
    let m := if m.testBit slot then m - 2 ^ slot else m
    let f := lefld r 1 1
    { k with revoked := k.revoked ||| m, floor := if k.floor < f ∧ f ≤ sec then f else k.floor }

/-- The key store's fields shown in registers (R487). -/
def Block.showKeys (b : Block) : Block :=
  (((b.fset F.STA_MFG_SERIAL b.sa.key.serial).fset F.STA_MFG_REVOKED b.sa.key.revoked).fset F.STA_MFG_FLOOR b.sa.key.floor).fset
    F.STA_MFG_FAIL_CLUSTERS b.sa.key.mfgFail

/-- Start completes (R423, R475, R491, R500). -/
def Block.startDone (b : Block) : Block :=
  let b := ((b.setStage 9).fset F.STA_CMD_STATUS 0).fset F.STA_STAT_FAILS 0
  let b := { b with
    sa := { b.sa with seed := false, f := 0, failsSinceReset := 0, key := b.sa.key.revoke b.sa.revoke b.sa.keySlot b.sa.secVersion }
    mgt := { b.mgt with sems := b.mgt.sems.map (fun (p : Nat × Sem) => (p.1, { p.2 with holder := 0, expiry := 0 })) }
    regs := { b.regs with staged := [] }
    rm := { b.rm with execs := [] }
    clk := { Clock.reset with timeUs := b.clk.timeUs, bndUs := b.clk.timeUs, free := b.clk.free } }
  let b := ((b.showKeys.putAttempt 1 0 0 0).count F.LIF_STARTS_STARTS).checkpoint
  let b := b.keepLow 0x1000 (zeros 64)
  ((b.fset F.TICK_CTRL_SOURCE_ACT (b.fget F.TICK_CTRL_SOURCE)).fset F.TICK_COUNT_COUNT 0).setSlot

/-- LOAD ends (R500, R504): start completes, or in Pair the block waits for the peer. -/
def Block.loadDone' (b : Block) : Block :=
  if b.isPair then ({ (b.setStage 8) with sa := { b.sa with waitUs := b.clk.timeUs } }).fset F.STA_PAIR_STATE 1 else b.startDone

/-- A start in Pair completes with a role (R504): 0 active, 1 standby; with a peer the mirror set is copied. -/
def Block.pairStart (b : Block) (role : Nat) (peer : Bool) : Block :=
  let b := b.startDone.fset F.STA_IDENT_PAIR_ROLE role
  if !peer then b.fset F.STA_PAIR_STATE 2
  else if role = 0 then b.startCopy
  else ({ b with pair := { b.pair with lastEpochUs := b.clk.timeUs } }).fset F.STA_PAIR_STATE 3

/-- No peer with this image (R504): the lower node goes active alone, the higher waits. -/
def Block.pairAlone (b : Block) : Block := if b.node < b.fget F.LNK_NODE_PEER then b.pairStart 0 false else b

/-- STA_CMD written (R493, R496, R504, R509, R515). -/
def Block.staCmd (b : Block) (src : RegSrc) (v : Word) (env : StartEnv) : Block :=
  let st := b.stage
  b.regWrite src 0x0008 v (decide (2 ≤ st ∧ st ≤ 7)) (fun b =>
    match wfld v F.STA_CMD_OP with
    | 1 => if st = 1 ∨ st = 10 then b.attempt env else b.status F.STA_CMD_STATUS 2
    | 2 =>
      if st ≠ 10 then b.status F.STA_CMD_STATUS 2
      else
        let b := b.newAttempt 4 0 0 0
        (({ b with sa := { b.sa with f := 0, failsSinceReset := 0 } }).fset F.STA_STAT_FAILS 0).status F.STA_CMD_STATUS 0
    | _ =>
      if st = 8 then b.pairStart 0 false
      else if st ≠ 9 then b.status F.STA_CMD_STATUS 2
      else if !b.isPair then b.status F.STA_CMD_STATUS 3
      else if b.standby && b.fget F.STA_PAIR_STATE = 4 then { (b.status F.STA_CMD_STATUS 1) with pair := { b.pair with taking := true } }
      else b.status F.STA_CMD_STATUS 2)

/-- No environment: what a command that starts no attempt is given. -/
def noEnv : StartEnv :=
  { trained := [], lines := 0, image := [], unstable := none, hotSensor := none, bondFailed := 0, loadTrainFail := none }

/-- STA_START (R493). -/
def execStaStart (src : RegSrc) (env : StartEnv) (s : State) : Host.Outcome State Fault Refusal :=
  s.run (fun b => b.staCmd src (wput [(F.STA_CMD_OP, 1)]) env)
/-- STA_CLEAR (R496). -/
def execStaClear (src : RegSrc) (s : State) : Host.Outcome State Fault Refusal :=
  s.run (fun b => b.staCmd src (wput [(F.STA_CMD_OP, 2)]) noEnv)
/-- STA_TAKE_OVER (R504, R509). -/
def execStaTakeOver (src : RegSrc) (s : State) : Host.Outcome State Fault Refusal :=
  s.run (fun b => b.staCmd src (wput [(F.STA_CMD_OP, 3)]) noEnv)

/-- START_RETRY (R495): the next attempt, 100 ms after the one that failed. -/
def execStartRetry (env : StartEnv) (s : State) : Host.Outcome State Fault Refusal :=
  s.run (fun b => match b.sa.retryAt with
    | some t => if b.stage = 11 then (b.advance t).attempt env else b
    | none => b)

/-- START_LIMIT (R493): LOAD has not completed within STA_DESC.LIMIT. -/
def execStartLimit (s : State) : Host.Outcome State Fault Refusal :=
  s.run (fun b =>
    let n := b.fget F.STA_DESC_LIMIT
    if b.stage < 2 ∨ 7 < b.stage then b
    else (b.advance (b.sa.beganAt + (if n = 0 then 100 else n) * 100000)).startFailed 0x0D b.stage)

/-- RESET_ASSERT (R484): every domain off; the key store and the Keep regions stay. -/
def execResetAssert (s : State) : Host.Outcome State Fault Refusal :=
  s.always (fun b =>
    let r := Block.reset b.sa.key b.mem.keep
    { (r.setStage 0) with sa := { r.sa with inReset := true }, tap := b.tap, net := b.net })

/-- RESET_RELEASE (R484, R486): the rising edge of tick_rst_n after reset or a loss of the supply. -/
def execResetRelease (s : State) : Host.Outcome State Fault Refusal :=
  s.always (fun b =>
    if b.sa.inReset || b.sa.railLost then { ((Block.reset b.sa.key b.mem.keep).showKeys.setStage 1) with tap := b.tap, net := b.net } else b)

/-- CORE_RAIL_LOSS (R513): every volatile state is lost. -/
def execCoreRailLoss (s : State) : Host.Outcome State Fault Refusal :=
  s.always (fun b =>
    let r := Block.reset b.sa.key b.mem.keep
    { (r.setStage 0) with sa := { r.sa with railLost := true } })

/-- OFFSET_US set so that the calendar now reads a value (R486). -/
def Block.setCalendar (b : Block) (us : Nat) : Block :=
  ({ b with sa := { b.sa with calSet := true } }).fset F.LIF_CAL_OFFSET_US ((us + 2 ^ 64 - b.clk.timeUs % 2 ^ 64) % 2 ^ 64)

/-- TOD_FRAME (R485, R486): the command stands at the edge the frame announces (log 42). Two consecutive valid frames set the calendar in LOAD;
after start a valid frame is compared with it. -/
def Block.todFrame (b : Block) (f : Nat) : Block :=
  let secs := bits f 16 64
  if bits f 0 16 ≠ 0xA55A || bits f 80 32 ≠ crc32 (leBytes 8 secs) then b
  else
    let next := b.sa.lastTod == some (secs - 1) && decide (1 ≤ secs)
    let b := { b with sa := { b.sa with lastTod := some secs } }
    if !next then b
    else if b.stage = 7 then (b.setCalendar (secs * 1000000)).loadDone'
    else if b.stage < 8 ∨ 9 < b.stage then b
    else
      let c := b.calendar
      let diff := decide (c + 1000 < secs * 1000000 ∨ secs * 1000000 + 1000 < c)
      if diff && !b.sa.calDiff then ((({ b with sa := { b.sa with calDiff := true } }).evt F.STA_EVT_CAL_DIFF).report 16 4 1)
      else { b with sa := { b.sa with calDiff := diff } }

def execTodFrame (frame : BitVec 112) (s : State) : Host.Outcome State Fault Refusal := s.run (fun b => b.todFrame frame.toNat)

/-- CAL_SYNC_TIMEOUT (R486): 3 s of LOAD without two consecutive valid frames. -/
def execCalSyncTimeout (s : State) : Host.Outcome State Fault Refusal :=
  s.run (fun b =>
    if b.stage ≠ 7 then b
    else
      let b := b.advance (b.sa.waitUs + 3000000)
      let b := match b.sa.ckptCal with
        | some c => b.setCalendar c
        | none => b
      ((b.fset F.STA_STAT_CAL_UNSYNC 1).report 16 4 0).loadDone')

/-- A hello from the peer (R504). An active that runs alone or copies takes a peer that is not active as its new standby (log 43). -/
def Block.pairHello (b : Block) (id node : Nat) (active : Bool) : Block :=
  let same := id == b.fget F.STA_IMGID_IMAGE_ID
  if b.stage = 8 then
    if !same then (b.report 16 8 id).pairAlone
    else if active then b.pairStart 1 true
    else if b.node < node then b.pairStart 0 true
    else b.pairStart 1 true
  else if b.run? && b.isPair && b.fget F.STA_IDENT_PAIR_ROLE == 0 && !active then
    if same then b.startCopy.fset F.STA_PAIR_EPOCH_EPOCH 0 else b.report 16 8 id
  else b

/-- PAIR_HELLO (R504). -/
def execPairHello (imageId node : Nat) (active : Bool) (s : State) : Host.Outcome State Fault Refusal :=
  s.run (fun b => b.pairHello imageId node active)

/-- PAIR_HELLO_TIMEOUT (R504): 1 s without an answer. -/
def execPairHelloTimeout (s : State) : Host.Outcome State Fault Refusal :=
  s.run (fun b => if b.stage = 8 then (b.advance (b.sa.waitUs + 1000000)).pairAlone else b)

/-- LIF_CMD written (R514). -/
def Block.lifCmd (b : Block) (src : RegSrc) (v : Word) : Block :=
  b.regWrite src 0x2010 v false (fun b =>
    if b.fget F.LIF_CKPT_FRESH = 0 then b.status F.LIF_CMD_STATUS 3
    else
      let a := b.fget F.LIF_ARG_BASE
      let l := b.rd0 a 4096
      if !b.readable a 4096 || !crcHolds l || lefld l 0 4 ≠ 0x4C494645 || lefld l 16 8 ≠ b.sa.key.serial then b.status F.LIF_CMD_STATUS 2
      else
        let fields := (checkpointWords l).flatMap (fun w => match findReg w.1 with
          | some r => (r.fields.filter (fun f => !f.resv)).map (fun f => (Fld.mk w.1 f.lo f.wid, bits w.2 f.lo f.wid))
          | none => [])
        let b := fields.foldl (fun b f => b.count f.1 f.2) b
        ((b.fset F.LIF_CKPT_SEQ (lefld l 8 8)).fset F.LIF_CKPT_FRESH 0).status F.LIF_CMD_STATUS 0)

/-- LIF_RESTORE (R514). -/
def execLifRestore (src : RegSrc) (s : State) : Host.Outcome State Fault Refusal := s.run (fun b => b.lifCmd src (wput [(F.LIF_CMD_OP, 1)]))

/-- CHECKPOINT (R513): the timer of LIF_CTRL. -/
def execCheckpoint (s : State) : Host.Outcome State Fault Refusal :=
  s.run (fun b => if b.run? then ((b.advance (b.sa.ckptUs + b.fget F.LIF_CTRL_CHECKPOINT_S * 1000000)).checkpoint).settled else b)

end Sys2Proof.Machine
end

