-- ==== Sys2Proof/Machine/Mgmt.lean ====
section
/-! DEFINITION. Semaphores (R421 to R423), the command registers of pages, compute, sequencers and links (R147, R267, R371, R457), and the
read of LGR_PG_A (R155). -/
namespace Sys2Proof.Machine
open Sys2Proof

/-- A semaphore with a new holder, expiry and lease. -/
def Block.setSem (b : Block) (n : Nat) (m : Sem) : Block := { b with mgt := { b.mgt with sems := tset b.mgt.sems n m } }

/-- abort_group of R421: semaphores 0 to 15 guard a commit group. -/
def Block.semAbort (b : Block) (n : Nat) : Block := if n ≤ 15 then b.abortGroup n else b

/-- expire of R421. -/
def Block.semExpire (b : Block) (n : Nat) : Block :=
  let m := b.semAt n
  (((b.setSem n { m with holder := 0 }).semAbort n).count F.SEM_CNT_EXPIRED).report 18 1 (n + 256 * m.holder)

/-- An expired lease is gone first. -/
def Block.semFresh (b : Block) (n : Nat) : Block :=
  let m := b.semAt n
  if m.holder ≠ 0 ∧ m.expiry ≤ b.clk.timeUs then b.semExpire n else b

/-- The number of a management port as a holder. -/
def portNo : RegSrc → Nat
  | .portA => 1
  | .portB => 2
  | _ => 0

/-- An operation refused under R421. -/
def Block.semRefuse (b : Block) (src : RegSrc) (status : Nat) : Block := (b.count F.SEM_CNT_REFUSED).respond src status

/-- The procedure of R421 for a port's acquire (1), renew (2) or release (3), the lease in range. -/
def Block.semOp (b : Block) (src : RegSrc) (n op lease : Nat) : Block :=
  let b := b.semFresh n
  let m := b.semAt n
  let p := portNo src
  let grant := (b.setSem n { holder := p, expiry := b.clk.timeUs + lease, lease := lease }).respond src 0
  match op with
  | 1 => if m.holder = 0 ∨ m.holder = p then grant else b.semRefuse src 5
  | 2 => if m.holder = p then grant else b.semRefuse src 4
  | _ => if m.holder = p then ((b.setSem n { m with holder := 0 }).semAbort n).respond src 0 else b.semRefuse src 4

/-- SEMnn written (R421, R428). A source that is no management port is not permitted, and nothing changes (R382). -/
def Block.semCmd (b : Block) (src : RegSrc) (n : Nat) (v : Word) : Block :=
  if portNo src = 0 then b
  else b.regWrite src (0x1100 + 8 * n) v false (fun b =>
    let lease := wfld v F.SEM_LEASE_US
    let op := wfld v F.SEM_OP
    if op < 3 ∧ (lease < 100 ∨ 1000000 < lease) then b.respond src 1 else b.semOp src n op lease)

/-- SEM_ACQUIRE (R421). -/
def execSemAcquire (src : RegSrc) (sem lease : Nat) (s : State) : Host.Outcome State Fault Refusal :=
  s.run (fun b => b.semCmd src (sem % 32) (wput [(F.SEM_OP, 1), (F.SEM_LEASE_US, lease)]))
/-- SEM_RENEW (R421). -/
def execSemRenew (src : RegSrc) (sem lease : Nat) (s : State) : Host.Outcome State Fault Refusal :=
  s.run (fun b => b.semCmd src (sem % 32) (wput [(F.SEM_OP, 2), (F.SEM_LEASE_US, lease)]))
/-- SEM_RELEASE (R421). -/
def execSemRelease (src : RegSrc) (sem : Nat) (s : State) : Host.Outcome State Fault Refusal :=
  s.run (fun b => b.semCmd src (sem % 32) (wput [(F.SEM_OP, 3)]))

/-- SEM_LEASE_EXPIRE (R421): the time base reaches the expiry of a semaphore that is held. -/
def execSemLeaseExpire (sem : Nat) (s : State) : Host.Outcome State Fault Refusal :=
  s.run (fun b =>
    let m := b.semAt sem
    if m.holder = 0 then b else ((b.advance m.expiry).semExpire sem).settled)

/-- PG_CMD written (R147): carried out at the next Publish. -/
def Block.pgCmd (b : Block) (src : RegSrc) (v : Word) : Block :=
  b.regWrite src 0x0330 v false (fun b =>
    ({ b with rq := { b.rq with pgCmd := b.rq.pgCmd ++ [(wfld v F.PG_CMD_OP, wfld v F.PG_CMD_PAGE)] } }).status F.PG_CMD_STATUS 4)

/-- PG_CMD_RETIRE (R147). -/
def execPgCmdRetire (src : RegSrc) (page : Nat) (s : State) : Host.Outcome State Fault Refusal :=
  s.run (fun b => b.pgCmd src (wput [(F.PG_CMD_PAGE, page), (F.PG_CMD_OP, 1)]))
/-- PG_CMD_RELEASE (R147). -/
def execPgCmdRelease (src : RegSrc) (page : Nat) (s : State) : Host.Outcome State Fault Refusal :=
  s.run (fun b => b.pgCmd src (wput [(F.PG_CMD_PAGE, page), (F.PG_CMD_OP, 2)]))

/-- PIP_CMD written (R267): it takes effect at the next tick boundary, or once the cluster's quad is powered (R468). -/
def Block.pipCmd (b : Block) (src : RegSrc) (v : Word) : Block :=
  b.regWrite src 0x0820 v false (fun b =>
    let b := b.status F.PIP_CMD_STATUS 1
    if wfld v F.PIP_CMD_OP = 1 then b.atBoundary 11 (wfld v F.PIP_CMD_CLUSTER) (wfld v F.PIP_CMD_PIP) 0
    else
      let w := b.quadWake (wfld v F.PIP_CMD_CLUSTER)
      w.1.atBoundary 12 (wfld v F.PIP_CMD_CLUSTER) w.2 0)

/-- PIP_RELEASE (R267). -/
def execPipRelease (src : RegSrc) (cluster pip : Nat) (s : State) : Host.Outcome State Fault Refusal :=
  s.run (fun b => b.pipCmd src (wput [(F.PIP_CMD_CLUSTER, cluster), (F.PIP_CMD_PIP, pip), (F.PIP_CMD_OP, 1)]))
/-- CLUSTER_RELEASE (R267). -/
def execClusterRelease (src : RegSrc) (cluster : Nat) (s : State) : Host.Outcome State Fault Refusal :=
  s.run (fun b => b.pipCmd src (wput [(F.PIP_CMD_CLUSTER, cluster), (F.PIP_CMD_OP, 2)]))

/-- TICK_SEQ_CMD written (R371): a halted sequencer restarts at the next tick boundary. -/
def Block.seqCmd (b : Block) (src : RegSrc) (v : Word) : Block :=
  let n := wfld v F.TICK_SEQ_CMD_SEQ
  b.regWrite src 0x0168 v false (fun b =>
    if !(b.exAt n).halted then b.status F.TICK_SEQ_CMD_STATUS 2 else (b.status F.TICK_SEQ_CMD_STATUS 1).atBoundary 19 n 0 0)

/-- SEQ_RESTART_CMD (R371). -/
def execSeqRestartCmd (src : RegSrc) (number : Nat) (s : State) : Host.Outcome State Fault Refusal :=
  s.run (fun b => b.seqCmd src (wput [(F.TICK_SEQ_CMD_SEQ, number), (F.TICK_SEQ_CMD_OP, 1)]))

/-- LNK_CMD written (R445, R457): it takes effect at the next tick boundary. -/
def Block.lnkCmd (b : Block) (src : RegSrc) (v : Word) : Block :=
  b.regWrite src 0x1408 v (b.fget F.LNK_CMD_STATUS == 1) (fun b =>
    (b.status F.LNK_CMD_STATUS 1).atBoundary (if wfld v F.LNK_CMD_OP = 1 then 15 else 16) (wfld v F.LNK_CMD_UNIT) (wfld v F.LNK_CMD_LINK)
      (wfld v F.LNK_CMD_LANE))

/-- The word of LNK_CMD. -/
def lnkWord (op unit number lane : Nat) : Word :=
  wput [(F.LNK_CMD_OP, op), (F.LNK_CMD_UNIT, unit), (F.LNK_CMD_LINK, number), (F.LNK_CMD_LANE, lane)]

/-- LNK_CMD_RELEASE (R445). -/
def execLnkCmdRelease (src : RegSrc) (unit number lane : Nat) (s : State) : Host.Outcome State Fault Refusal :=
  s.run (fun b => b.lnkCmd src (lnkWord 1 unit number lane))
/-- LNK_CMD_RETIRE (R457). -/
def execLnkCmdRetire (src : RegSrc) (unit number lane : Nat) (s : State) : Host.Outcome State Fault Refusal :=
  s.run (fun b => b.lnkCmd src (lnkWord 2 unit number lane))

/-- A read of LGR_PG_A latches LGR_PG_B and LGR_PG_C for its source (R155). -/
def Block.latchPages (b : Block) (src : RegSrc) : Block :=
  ({ b with mgt := { b.mgt with latch := tset b.mgt.latch (srcKey src) (b.reg 0x0388, b.reg 0x0390) } }).respond src 0 (b.regRead src 0x0380)

/-- LGR_PG_A_READ (R155). -/
def execLgrPgARead (src : RegSrc) (s : State) : Host.Outcome State Fault Refusal := s.run (fun b => b.latchPages src)

end Sys2Proof.Machine
end

