-- ==== Sys2Proof/Machine/Access.lean ====
section
/-! DEFINITION. REGISTER_WRITE (R379, R415 to R417): a write of any register of space 4, the command registers among them. -/
namespace Sys2Proof.Machine
open Sys2Proof

/-- VRD_LOG_TAKEN written (R334): once the write stands, staged records drain into the room. -/
def Block.logTakenWrite (b : Block) (src : RegSrc) (v : Word) : Block :=
  let c := b.regWrite src 0x0E30 v false (fun b => b)
  if b.run? && ((findReg 0x0E30).map (fun r => b.regTest src r 0x0E30 v false)) == some 0 then c.logPump else c

/-- A write of a register by a source: the command registers start what their OP names. -/
def Block.anyWrite (b : Block) (src : RegSrc) (off : Nat) (v : Word) : Block :=
  if 0x1100 ≤ off ∧ off < 0x1200 ∧ off % 8 = 0 then b.semCmd src ((off - 0x1100) / 8) v
  else match off with
    | 0x0008 => b.staCmd src v noEnv
    | 0x0168 => b.seqCmd src v
    | 0x0330 => b.pgCmd src v
    | 0x0440 => b.tokSlotCmd src v
    | 0x0600 => b.grmCmd src v
    | 0x0680 => b.stpCmd src v
    | 0x0820 => b.pipCmd src v
    | 0x0B38 => b.mdlCmd src v
    | 0x0B50 => b.adpCmd src v
    | 0x0C00 => b.orcCmd src v
    | 0x0D00 => b.matCmd src v
    | 0x0E08 => b.vrdCmd src v
    | 0x0E30 => b.logTakenWrite src v
    | 0x1008 => b.mgtCommit src v
    | 0x1408 => b.lnkCmd src v
    | 0x1908 => b.memCmd src v
    | 0x2010 => b.lifCmd src v
    | _ => b.regWrite src off v false (fun b => b)

/-- REGISTER_WRITE (R417). -/
def execRegisterWrite (src : RegSrc) (offset : Nat) (value : BitVec 64) (parityOk : Bool) (s : State) : Host.Outcome State Fault Refusal :=
  s.run (fun b => b.parity src parityOk (fun b => b.anyWrite src offset value))

end Sys2Proof.Machine
end

