-- ==== Sys2Proof/Machine/Tile.lean ====
section
/-! DEFINITION. The tile matrix class of NSI (R351 to R353): tile descriptors, queues, the matrix operation
(R238, R241, R243 to R248, R253), accumulators, and the re-issue of a failed instruction (R264). -/
namespace Sys2Proof.Machine
open Sys2Proof

/-- The fields of R351. -/
def tTD (w : NsiBody) : Nat := nf w 15 4
def tTA (w : NsiBody) : Nat := nf w 19 4
def tTB (w : NsiBody) : Nat := nf w 23 4
def tACC (w : NsiBody) : Nat := nf w 27 2
def tAQ (w : NsiBody) : Bool := nf w 29 1 == 1
def tBQ (w : NsiBody) : Bool := nf w 30 1 == 1
def tZ (w : NsiBody) : Bool := nf w 31 1 == 1
def tRS (w : NsiBody) : Nat := nf w 32 5
def tQ (w : NsiBody) : Nat := nf w 37 3

/-- The encoding rules of R351: bits [63:40] zero, X only where allowed. -/
def tileEnc (w : NsiBody) (xOk : Bool) : Bool := nf w 40 24 == 0 && (!nfX w || (xOk && tRS w == 0))

/-- A tile descriptor register and its ERR flag. -/
def Exec.td (e : Exec) (n : Nat) : Word × Bool := tgetD e.t n (0, false)

/-- Accumulator elements (R237): acc * 4096 + row * 64 + column. -/
def accKey (a r c : Nat) : Nat := a * 4096 + r * 64 + c
def Exec.accAt (e : Exec) (a r c : Nat) : BitVec 32 := tgetD e.acc (accKey a r c) 0

/-- The fetches the two Pickers of a Pip's cluster hold, as (Picker key, fetch). -/
def Block.fetchesOf (b : Block) (c : Nat) : List (Nat × Fetch) :=
  (b.exAt (10000 + c * 2)).fetches.map (fun f => (10000 + c * 2, f))
  ++ (b.exAt (10000 + c * 2 + 1)).fetches.map (fun f => (10000 + c * 2 + 1, f))

/-- A fetch changed wherever it is held. -/
def Block.modFetch (b : Block) (c id : Nat) (g : Fetch → Option Fetch) : Block :=
  [10000 + c * 2, 10000 + c * 2 + 1].foldl (fun b k =>
    let e := b.exAt k
    if e.fetches.any (fun f => f.id == id) then
      b.setExAt k { e with fetches := e.fetches.filterMap (fun f => if f.id = id then g f else some f) }
    else b) b

/-- Cluster of a Pip's key. -/
def pipCluster (k : Nat) : Nat := (k - 100) / 32

/-- The fetches of some tokens are made again (R264), counted in REFETCH. -/
def Block.refetch (b : Block) (k : Nat) (ids : List Nat) : Block :=
  ids.foldl (fun b id =>
    if (b.fetchesOf (pipCluster k)).any (fun f => f.2.id == id) then
      (b.modFetch (pipCluster k) id (fun f => some { f with arrived := false, again := true, err := false })).count F.PKR_CNT_A_REFETCH
    else b) b

/-- A fetch of one of some tokens is being made again. -/
def Block.refetching (b : Block) (k : Nat) (ids : List Nat) : Bool :=
  (b.fetchesOf (pipCluster k)).any (fun f => ids.contains f.2.id && f.2.again)

/-- Popped tokens whose descriptor stands in a t register with ERR. -/
def Exec.poppedIds (e : Exec) (ds : List Word) : List Nat :=
  (e.popped.flatMap (·.2)).filterMap (fun t => if ds.contains t.desc then some t.fetch else none)

/-- A failure of R264: the first re-issues the instruction once its tiles have been fetched again, a second of the same instruction
fails the item. -/
def Block.reissue (b : Block) (x : ExecId) (ids : List Nat) : Block :=
  let e := b.ex x
  if e.reissue = some e.pc then b.failItem (xkey x)
  else
    let b := b.setEx x { e with reissue := some e.pc }
    ((b.count F.PIP_CNT_A_REISSUE).evt F.PIP_EVT_REISSUE).refetch (xkey x) ids

/-- A completed instruction of a Pip: no re-issue is outstanding. -/
def Block.pipDone (b : Block) (x : ExecId) (w : NsiBody) (e : Exec) : Block := b.done x w { e with reissue := none }

/-- Use of descriptors that must not carry ERR (R353): with one that does, the instruction is re-issued or its item fails. -/
def Block.withTiles (b : Block) (x : ExecId) (e : Exec) (ts : List (Word × Bool)) (run : Block) : Block :=
  let ids := e.poppedIds (ts.map (·.1))
  if e.acquiring || b.refetching (xkey x) ids then b
  else if ts.any (·.2) then b.reissue x ids
  else run

/-- TLD (R352): a descriptor from a scalar or the extension word; no check. -/
def execNsiTld (x : ExecId) (w : NsiBody) (ext : BitVec 64) (s : State) : Host.Outcome State Fault Refusal :=
  s.run (fun b => b.issue x w (tileEnc w true) (isPip x) (fun e =>
    b.pipDone x w { e with t := tset e.t (tTD w) (if nfX w then ext else e.rs (tRS w), false) }))

/-- TMV (R352): a descriptor to a scalar. -/
def execNsiTmv (x : ExecId) (w : NsiBody) (_ext : BitVec 64) (s : State) : Host.Outcome State Fault Refusal :=
  s.run (fun b => b.issue x w (tileEnc w false) (isPip x) (fun e => b.pipDone x w (e.ws (tRS w) (e.td (tTD w)).1)))

/-- QPOP (R352, R260): the head token to a descriptor register; waits while the queue is empty. -/
def execNsiQpop (x : ExecId) (w : NsiBody) (_ext : BitVec 64) (s : State) : Host.Outcome State Fault Refusal :=
  s.run (fun b => b.issue x w (tileEnc w false) (isPip x) (fun e =>
    match tgetD e.q (tQ w) [] with
    | [] => b
    | k :: rest => b.pipDone x w { e with
        q := tset e.q (tQ w) rest
        popped := tset e.popped (tQ w) (tgetD e.popped (tQ w) [] ++ [k])
        t := tset e.t (tTD w) (k.desc, k.err) }))

/-- A token of a Pip released (R261): its fetch ends with the last Pip's release. -/
def Block.releaseToken (b : Block) (x : ExecId) (id : Nat) : Block :=
  let k := (xkey x - 100) % 32
  b.modFetch (pipCluster (xkey x)) id (fun f =>
    let l := if f.left.testBit k then f.left - 2 ^ k else f.left
    if l = 0 then none else some { f with left := l })

/-- QREL (R352): the oldest popped token of a queue is released; QUEUE if there is none. -/
def execNsiQrel (x : ExecId) (w : NsiBody) (_ext : BitVec 64) (s : State) : Host.Outcome State Fault Refusal :=
  s.run (fun b => b.issue x w (tileEnc w false) (isPip x) (fun e =>
    match tgetD e.popped (tQ w) [] with
    | [] => b.raise x w 5 0
    | k :: rest => (b.pipDone x w { e with popped := tset e.popped (tQ w) rest }).releaseToken x k.fetch))

/-- The operand format pairs of the matrix unit (R238). -/
def mmaPair (a c : Nat) : Bool :=
  (decide (2 ≤ a ∧ a ≤ 6) && decide (2 ≤ c ∧ c ≤ 6)) || (a == c && (a == 7 || a == 8 || a == 1))

/-- The 32 exact scaled products of block k of row i of A and row j of B (R246); none where a scale of 0xFF makes the block NaN (R243). -/
def blockTerms (m : Memory) (base : Nat) (da db : Word) (i j k : Nat) : Option (List FV) :=
  let sa := if fmtScaled (tdFmt da) then tileScale m base da i k else 127
  let sb := if fmtScaled (tdFmt db) then tileScale m base db j k else 127
  if sa = 255 ∨ sb = 255 then none
  else some ((List.range 32).map (fun l => fscale ((sa : Int) - 127 + ((sb : Int) - 127))
    (fmul (fmtDec (tdFmt da) (tileRaw m base da i (32 * k + l))) (fmtDec (tdFmt db) (tileRaw m base db j (32 * k + l))))))

/-- The block result of R246, and whether a scale of 0xFF made it NaN (R243). -/
def blockResult (m : Memory) (base : Nat) (da db : Word) (i j k : Nat) : BitVec 32 × Bool :=
  match blockTerms m base da db i j k with
  | none => (nan32, true)
  | some ps => (enc32 (fsum ps), false)

/-- A binary32 result flushed to zero where Fast mode asks for it (R253). -/
def ftz (on : Bool) (v : BitVec 32) : BitVec 32 :=
  if on && v.toNat / 2 ^ 23 % 256 == 0 then v &&& 0x80000000#32 else v

/-- One element of an MMA in Exact mode (R245), and the NaN blocks it met. -/
def mmaElem (m : Memory) (base : Nat) (da db : Word) (c0 : BitVec 32) (i j : Nat) : BitVec 32 × Nat :=
  (List.range (tdKblk da)).foldl (fun r k =>
    let p := blockResult m base da db i j k
    (add32 r.1 p.1, r.2 + p.2.toNat)) (c0, 0)

/-- One element of an MMA in Fast mode (R253): the accumulator and the products of every block, in an order of the block's own. -/
def mmaFast (flush : Bool) (x : BitVec 32) (m : Memory) (base : Nat) (da db : Word) (c0 : BitVec 32) (i j : Nat) : BitVec 32 :=
  let ts := (List.range (tdKblk da)).map (blockTerms m base da db i j)
  if ts.any Option.isNone then nan32 else fastSum flush x (dec32 c0 :: ts.flatMap (·.getD []))

/-- The result of an MMA on the accumulator: R245 in Exact mode, R253 in Fast mode with a free value for what the order of the sums gives (log 11). -/
def Block.mmaRun (b : Block) (x : ExecId) (e : Exec) (da db : Word) (acc : Nat) (z : Bool) : Block :=
  let base := sliceBase x
  let m := b.mem.slices
  let cells := (List.range (tdRows da)).flatMap (fun i => (List.range (tdRows db)).map (fun j => (i, j)))
  let flush := b.fget F.PIP_CTRL_FAST_FTZ == 1
  cells.foldl (fun b (p : Nat × Nat) =>
    let c0 := if z then 0 else e.accAt acc p.1 p.2
    let r := mmaElem m base da db c0 p.1 p.2
    let b := if r.2 ≠ 0 then (b.count F.PIP_CNT_B_NAN_BLK r.2).evt F.PIP_EVT_NAN_SCALE else b
    let c := b.ex x
    if e.fast then
      let f := b.free
      let c := f.2.ex x
      f.2.setEx x { c with acc := tset c.acc (accKey acc p.1 p.2) (ftz flush (mmaFast flush f.1 m base da db c0 p.1 p.2)) }
    else b.setEx x { c with acc := tset c.acc (accKey acc p.1 p.2) r.1 }) b

/-- The operands of an MMA: their descriptors with ERR, the fetches of the tokens, and the executor with the tokens popped; none where a
queue is empty. -/
def Exec.mmaOps (e : Exec) (w : NsiBody) : Option ((Word × Bool) × (Word × Bool) × List Nat × Exec) :=
  let pop := fun (e : Exec) (q : Nat) =>
    match tgetD e.q q [] with
    | [] => none
    | k :: rest => some (k, { e with q := tset e.q q rest, popped := tset e.popped q (tgetD e.popped q [] ++ [k]) })
  let first := if tAQ w then (pop e (tTA w % 8)).map (fun p => ((p.1.desc, p.1.err), [p.1.fetch], p.2))
    else some (e.td (tTA w), e.poppedIds [(e.td (tTA w)).1], e)
  match first with
  | none => none
  | some (a, ia, e) =>
    if tBQ w then (pop e (tTB w % 8)).map (fun p => (a, (p.1.desc, p.1.err), ia ++ [p.1.fetch], p.2))
    else some (a, e.td (tTB w), ia ++ e.poppedIds [(e.td (tTB w)).1], e)

/-- MMA (R245, R352): `fault` tells that the residue or accumulator check failed (R264). A queued operand's register number is below 8. -/
def execNsiMma (x : ExecId) (w : NsiBody) (_ext : BitVec 64) (fault : Bool) (s : State) : Host.Outcome State Fault Refusal :=
  s.run (fun b => b.issue x w (tileEnc w false) (isPip x) (fun e =>
    if (tAQ w && decide (8 ≤ tTA w)) || (tBQ w && decide (8 ≤ tTB w)) then b.raise x w 1 0
    else match e.mmaOps w with
    | none => b
    | some (a, c, ids, e') =>
      if e.acquiring || b.refetching (xkey x) ids then b
      else if a.2 || c.2 then b.reissue x ids
      else if !(tdOk a.1 && tdOk c.1) then b.raise x w 3 0
      else if !mmaPair (tdFmt a.1) (tdFmt c.1) then b.raise x w 2 0
      else if tdKblk a.1 ≠ tdKblk c.1 ∨ 64 < tdRows a.1 ∨ 64 < tdRows c.1 then b.raise x w 4 0
      else if fault then (b.reissue x ids).fault 5 (xkey x - 100) false
      else (b.pipDone x w e').mmaRun x e a.1 c.1 (tACC w) (tZ w)))

/-- Rows of values converted into a tile's format (R254 to R256): encoded elements and scale bytes of each row, NaN blocks, saturated
elements. -/
def convRow (f : Nat) (l : List FV) : List Nat × List Nat × Nat × Nat :=
  if fmtScaled f then
    (groups32 (l.length / 32 + 1) l).foldl (fun r g =>
      let p := mxBlock f g
      (r.1 ++ p.2.1, r.2.1 ++ [p.1], r.2.2.1 + p.2.2.1, r.2.2.2 + p.2.2.2)) ([], [], 0, 0)
  else if f = 8 then
    let es := l.map int8Enc
    (es.map (·.1), [], 0, (es.filter (·.2)).length)
  else if f = 1 then (l.map encBf, [], 0, 0)
  else (l.map (fun v => (enc32 v).toNat), [], 0, 0)

/-- One row of a tile written in its format, with the counts of R255 and R256. -/
def Block.putRow (b : Block) (base : Nat) (d : Word) (r : Nat) (l : List FV) : Block :=
  let p := convRow (tdFmt d) l
  let m := mwrN b.mem.slices (base + tdBase d + r * tdPitch d) (tileRowBytes (tdFmt d) p.1)
  let m := if fmtScaled (tdFmt d) then mwrN m (base + tdScale d + r * tdKblk d) (p.2.1.map (fun x => BitVec.ofNat 8 x)) else m
  let b := { b with mem := { b.mem with slices := m } }
  let b := if p.2.2.1 = 0 then b else b.count F.PIP_CNT_B_NAN_BLK p.2.2.1
  if p.2.2.2 = 0 then b else b.count F.PIP_CNT_B_SAT p.2.2.2

/-- One row of a tile written from encoded elements. -/
def Block.putRaw (b : Block) (base : Nat) (d : Word) (r : Nat) (l : List Nat) : Block :=
  { b with mem := { b.mem with slices := mwrN b.mem.slices (base + tdBase d + r * tdPitch d) (tileRowBytes (tdFmt d) l) } }

/-- ACCST (R352): the accumulator's rows and columns into a tile, converted to its format. -/
def execNsiAccst (x : ExecId) (w : NsiBody) (_ext : BitVec 64) (s : State) : Host.Outcome State Fault Refusal :=
  s.run (fun b => b.issue x w (tileEnc w false) (isPip x) (fun e =>
    let d := (e.td (tTD w)).1
    b.withTiles x e [e.td (tTD w)] (
      if !tdOk d then b.raise x w 3 0
      else if 2 < tdKblk d ∨ 64 < tdRows d then b.raise x w 1 0
      else (List.range (tdRows d)).foldl (fun b r =>
        let l := (List.range (32 * tdKblk d)).map (fun c => e.accAt (tACC w) r c)
        if tdFmt d = 0 then b.putRaw (sliceBase x) d r (l.map (·.toNat)) else b.putRow (sliceBase x) d r (l.map dec32)) (b.pipDone x w e))))

/-- ACCLD (R352): an FP32 or BF16 tile into the accumulator, exactly. -/
def execNsiAccld (x : ExecId) (w : NsiBody) (_ext : BitVec 64) (s : State) : Host.Outcome State Fault Refusal :=
  s.run (fun b => b.issue x w (tileEnc w false) (isPip x) (fun e =>
    let d := (e.td (tTD w)).1
    b.withTiles x e [e.td (tTD w)] (
      if !tdOk d then b.raise x w 3 0
      else if 1 < tdFmt d then b.raise x w 2 0
      else if 2 < tdKblk d ∨ 64 < tdRows d then b.raise x w 1 0
      else
        let cells := (List.range (tdRows d)).flatMap (fun r => (List.range (32 * tdKblk d)).map (fun c => (r, c)))
        let acc := cells.foldl (fun t (p : Nat × Nat) =>
          let raw := tileRaw b.mem.slices (sliceBase x) d p.1 p.2
          tset t (accKey (tACC w) p.1 p.2) (BitVec.ofNat 32 (if tdFmt d = 0 then raw else raw * 65536))) e.acc
        b.pipDone x w { e with acc := acc })))

/-- ACCZ (R352): +0 throughout an accumulator. -/
def execNsiAccz (x : ExecId) (w : NsiBody) (_ext : BitVec 64) (s : State) : Host.Outcome State Fault Refusal :=
  s.run (fun b => b.issue x w (tileEnc w false) (isPip x) (fun e =>
    b.pipDone x w { e with acc := e.acc.filter (fun p => p.1 / 4096 != tACC w) }))

end Sys2Proof.Machine
end

