-- ==== Sys2Proof/Machine/Picker.lean ====
section
/-! DEFINITION. The Picker class of NSI (R356, R259 to R262), and the arrival of a fetch's data (R260, R264). -/
namespace Sys2Proof.Machine
open Sys2Proof

/-- The fields of R356. -/
def pkTD (w : NsiBody) : Nat := nf w 15 4
def pkRA (w : NsiBody) : Nat := nf w 19 5
def pkRB (w : NsiBody) : Nat := nf w 24 5
def pkRC (w : NsiBody) : Nat := nf w 29 5
def pkQ (w : NsiBody) : Nat := nf w 34 3
def pkBANK (w : NsiBody) : Bool := nf w 37 1 == 1
def pkEnc (w : NsiBody) (x : Bool) : Bool := nf w 38 26 == 0 && nfX w == x

/-- Cluster of a Picker's key. -/
def pkrCluster (k : Nat) : Nat := (k - 10000) / 2

/-- The Pips of a mask, as keys. -/
def maskPips (c mask : Nat) : List Nat := ((List.range 32).filter (fun k => mask.testBit k)).map (fun k => 100 + c * 32 + k)

/-- Tokens a queue of a Pip will hold once every fetch in flight to it has been pushed (R261). -/
def Block.queueLoad (b : Block) (c pip q : Nat) : Nat :=
  (tgetD (b.exAt pip).q q []).length
  + ((b.fetchesOf c).filter (fun f => !f.2.pushed && f.2.queue == q && f.2.mask.toNat.testBit (pip - 100 - c * 32))).length

/-- FETCH and FETCHG (R356): checks, the limits of R261, and the fetch put in flight. -/
def Block.fetchOp (b : Block) (x : ExecId) (w : NsiBody) (ids : Option Nat) : Block :=
  b.issue x w (pkEnc w ids.isSome) (isPkr x) (fun e =>
    let c := pkrCluster (xkey x)
    let d := (e.td (pkTD w)).1
    let src := (e.rs (pkRA w)).toNat
    let mask := (e.rs (pkRB w)).toNat % 2 ^ 32
    let pitch := (e.rs (pkRC w)).toNat
    let q := pkQ w
    if mask = 0 then b.raise x w 1 0
    else if src % 4 ≠ 0 then b.raise x w 6 src
    else if (ids.getD 0) % 4 ≠ 0 then b.raise x w 6 (ids.getD 0)
    else if !tdOk d then b.raise x w 3 0
    else if ids.isSome && !(tdFmt d == 0 || tdFmt d == 1 || tdFmt d == 8) then b.raise x w 2 0
    else if e.acquiring || decide (min (b.fget F.PKR_CTRL_AHEAD) 64 ≤ e.fetches.length) then b
    else if (maskPips c mask).any (fun p => decide (16 ≤ b.queueLoad c p q)) then b
    else
      let pit := if pitch = 0 then cdiv (tdRowBytes d) 64 * 64 else pitch
      let f : Fetch :=
        { id := b.rm.nextId, desc := d, src := src, ids := ids, bank := pkBANK w, pitch := pit, mask := BitVec.ofNat 64 mask,
          queue := q, arrived := false, err := false, pushed := false, left := mask, again := false }
      let b := { b with rm := { b.rm with nextId := b.rm.nextId + 1 } }
      b.done x w { e with fetches := e.fetches ++ [f] })

/-- FETCH (R356). -/
def execNsiFetch (x : ExecId) (w : NsiBody) (_ext : BitVec 64) (s : State) : Host.Outcome State Fault Refusal :=
  s.run (fun b => b.fetchOp x w none)

/-- FETCHG (R356): the extension word is the address of the row ids. -/
def execNsiFetchg (x : ExecId) (w : NsiBody) (ext : BitVec 64) (s : State) : Host.Outcome State Fault Refusal :=
  s.run (fun b => b.fetchOp x w (some ext.toNat))

/-- n bytes of a fetch's source (R259): the cluster's own bank, or a global address of space 0, 1, 2 or 5. -/
def Block.fetchRead (b : Block) (k : Nat) (far : List FarRead) (a n : Nat) (bank : Bool) : Except Nat (List Byte) :=
  if bank then
    match far.find? (fun r => r.addr == a && r.code != 0) with
    | some r => .error r.code
    | none =>
      let c := pkrCluster k
      if !(b.hotBanks.contains c) then .error 6
      else if a + n > 2 ^ 25 then .error 2
      else .ok (mrdN b.mem.die (c * 2 ^ 25 + a) n)
  else if !([0, 1, 2, 5] : List Nat).contains (gaSpace a) then .error (if gaSpace a > 6 then 1 else 3)
  else if b.isHome a then
    match b.homeRead (.ex k) a n true false with
    | .ok l => .ok l
    | .error er => .error er.1
  else
    match b.outErr (keyId k) a n with
    | .error c => .error c
    | .ok _ => farRead far a n

/-- The rows and the scale bytes of a fetch (R356), or the code of the first failure and where. -/
def Block.fetchData (b : Block) (k : Nat) (f : Fetch) (far : List FarRead) : Except (Nat × Nat) (List (List Byte) × List Byte) :=
  let rows := tdRows f.desc
  let rd := fun (a n : Nat) (bank : Bool) =>
    match b.fetchRead k far a n bank with
    | .ok l => Except.ok l
    | .error c => Except.error (c, a)
  let idOf : Except (Nat × Nat) (List Nat) :=
    match f.ids with
    | none => .ok (List.range rows)
    | some g => match rd g (4 * rows) false with
      | .ok l => .ok ((List.range rows).map (fun r => lefld l (4 * r) 4))
      | .error c => .error c
  match idOf with
  | .error c => .error c
  | .ok ids =>
    let rs := ids.foldl (fun (r : Except (Nat × Nat) (List (List Byte))) i =>
      match r with
      | .error c => .error c
      | .ok l => match rd (f.src + i * f.pitch) (tdRowBytes f.desc) f.bank with
        | .ok x => .ok (l ++ [x])
        | .error c => .error c) (.ok [])
    match rs with
    | .error c => .error c
    | .ok l =>
      if fmtScaled (tdFmt f.desc) then
        match rd (f.src + rows * f.pitch) (rows * tdKblk f.desc) f.bank with
        | .ok sc => .ok (l, sc)
        | .error c => .error c
      else .ok (l, [])

/-- The tile written into the slice of every Pip of the mask. -/
def Block.fetchLand (b : Block) (c : Nat) (f : Fetch) (rows : List (List Byte)) (sc : List Byte) : Block :=
  let m := (maskPips c f.mask.toNat).foldl (fun m p =>
    let g := c * 2 ^ 24 + (p - 100 - c * 32) * 2 ^ 19
    let m := (rows.foldl (fun (r : Memory × Nat) l => (mwrN r.1 (g + tdBase f.desc + r.2 * tdPitch f.desc) l, r.2 + 1)) (m, 0)).1
    if sc.isEmpty then m else mwrN m (g + tdScale f.desc) sc) b.mem.slices
  { b with mem := { b.mem with slices := m } }

/-- A token's status renewed by a repeated fetch, wherever the token is. -/
def Exec.renew (e : Exec) (f : Fetch) : Exec :=
  let g := fun (l : List Token) => l.map (fun t => if t.fetch = f.id then { t with err := f.err } else t)
  { e with q := e.q.map (fun p => (p.1, g p.2)), popped := e.popped.map (fun p => (p.1, g p.2)),
           t := if (e.popped.flatMap (·.2)).any (fun t => t.fetch == f.id) then e.t.map (fun p => if p.2.1 = f.desc && p.2.2 then (p.1, (p.2.1, f.err)) else p) else e.t }

/-- Tokens pushed for every fetch that has arrived, each queue in the order of issue (R260). -/
def Block.pushTokens (b : Block) (c : Nat) : Block :=
  let fs := (b.fetchesOf c).map (·.2)
  let ids := sortNat (fs.map (·.id))
  (ids.foldl (fun (r : Block × List (Nat × Nat)) i =>
    match ((r.1.fetchesOf c).map (·.2)).find? (fun f => f.id == i) with
    | none => r
    | some f =>
      if f.pushed then r
      else
        let dst := (maskPips c f.mask.toNat).map (fun p => (p, f.queue))
        if f.arrived && !(dst.any (fun d => r.2.contains d)) then
          let b := dst.foldl (fun b d =>
            let e := b.exAt d.1
            b.setExAt d.1 { e with q := tset e.q d.2 (tgetD e.q d.2 [] ++ [{ desc := f.desc, err := f.err, fetch := f.id }]) }) r.1
          let b := if f.err then b.count F.PKR_CNT_A_FETCH_ERR dst.length else b
          (b.modFetch c i (fun f => some { f with pushed := true }), r.2)
        else (r.1, r.2 ++ dst)) (b, [])).1

/-- FETCH_DATA_ARRIVE (R260): the data of the fetch in a slot of a Picker are in place. A failed read gives the token status ERR; a bank read
that fails counts in the cluster's window (R443). -/
def execFetchDataArrive (cluster picker slot : Nat) (far : List FarRead) (s : State) : Host.Outcome State Fault Refusal :=
  s.run (fun b =>
    let k := 10000 + cluster * 2 + picker
    match (b.exAt k).fetches[slot]? with
    | none => b
    | some f =>
      if f.arrived || 1 < picker then b
      else
        let r := b.fetchData k f far
        let b := match r with
          | .ok p => b.fetchLand cluster f p.1 p.2
          | .error c =>
            let far' := gaNode c.2 ≠ b.node || gaSpace c.2 = 5
            let b := if f.bank then b.fault 6 cluster true else b.ueAt c.2 4 c.1
            b.rmFail c.1 (far' && !f.bank) false
        let bad := match r with
          | .ok _ => false
          | .error _ => true
        let f' := { f with arrived := true, err := bad, again := false }
        let b := b.modFetch cluster f.id (fun _ => some f')
        let b := if f.pushed then (maskPips cluster f.mask.toNat).foldl (fun b p => b.setExAt p ((b.exAt p).renew f')) b else b
        b.pushTokens cluster)

end Sys2Proof.Machine
end

