-- ==== Sys2Proof/Machine/Scalar.lean ====
section
/-! DEFINITION. The scalar and control class of NSI (R348 to R350): one meaning for each operation. -/
namespace Sys2Proof.Machine
open Sys2Proof

/-- An operation that writes s[RD] from s[RA] and op2. -/
def Block.alu (b : Block) (x : ExecId) (w : NsiBody) (ext : BitVec 64) (iOnly xOk immOk : Bool) (f : Word → Word → Word) : Block :=
  b.issue x w (scalarEnc w xOk iOnly false && immOk) true (fun e =>
    b.done x w (e.ws (nfRD w) (f (e.rs (nfRA w)) (nfOp2 e w ext))))

/-- A comparison of s[RA] with op2 into p[RD]. -/
def Block.cmpOp (b : Block) (x : ExecId) (w : NsiBody) (ext : BitVec 64) (f : Word → Word → Bool) : Block :=
  b.issue x w (scalarEnc w true false true) true (fun e =>
    b.done x w (e.wp (nf w 15 3) (f (e.rs (nfRA w)) (nfOp2 e w ext))))

/-- A logic operation on predicates. -/
def Block.predOp (b : Block) (x : ExecId) (w : NsiBody) (f : Bool → Bool → Bool) : Block :=
  b.issue x w (scalarEnc w false false true) true (fun e =>
    b.done x w (e.wp (nf w 15 3) (f (e.rp (nf w 20 3)) (e.rp (nf w 25 3)))))

/-- The extent of the program an executor runs: the instruction store of a sequencer (R369), CODE_BYTES of a kernel. -/
def storeBytes (x : ExecId) (e : Exec) : Nat := if isSeq x then 65536 else e.code

/-- A jump with the check of code 7, ADDR (R344). -/
def Block.jump (b : Block) (x : ExecId) (w : NsiBody) (e : Exec) (t : Int) : Block :=
  if 0 ≤ t ∧ t < (storeBytes x e : Int) then (b.setEx x { e with pc := t.toNat }).noteProgress e.item else b.raise x w 7 0

/-- The target of a relative branch (R342): words from the branch's own address. -/
def brTarget (e : Exec) (w : NsiBody) : Int := (e.pc : Int) + 8 * (sext32 (nfImm w)).toInt

/-- A control register as read (R350); none where the number is undefined. -/
def Block.csr (b : Block) (x : ExecId) (n : Nat) : Option Word :=
  let e := b.ex x
  let v := fun (k : Nat) => some (BitVec.ofNat 64 k)
  if n = 0 then v b.clk.timeUs
  else if n = 1 then v b.tick
  else if n = 2 then v b.tickUs
  else if n = 3 then v (xid x)
  else if n = 4 then v e.cause
  else if n = 5 then v e.epc
  else if n = 6 then v e.einfo
  else if n = 7 then v (if e.fast then 1 else 0)
  else if n = 8 then v b.clk.cycles
  else if n = 9 then v e.rmErr
  else if 0x10 ≤ n ∧ n ≤ 0x17 then some (tgetD e.scratch (n - 0x10) 0)
  else none

/-- NOP (R349): no effect but the program counter. -/
def execNsiNop (x : ExecId) (w : NsiBody) (_ext : BitVec 64) (s : State) : Host.Outcome State Fault Refusal :=
  s.run (fun b => b.issue x w (scalarEnc w false false false) true (fun e => b.done x w e))

/-- ADD (R349): rd := ra + op2, modulo 2^64. -/
def execNsiAdd (x : ExecId) (w : NsiBody) (ext : BitVec 64) (s : State) : Host.Outcome State Fault Refusal :=
  s.run (fun b => b.alu x w ext false false true (fun a c => a + c))

/-- SUB (R349): rd := ra - op2, modulo 2^64. -/
def execNsiSub (x : ExecId) (w : NsiBody) (ext : BitVec 64) (s : State) : Host.Outcome State Fault Refusal :=
  s.run (fun b => b.alu x w ext false false true (fun a c => a - c))

/-- AND (R349): bitwise and. -/
def execNsiAnd (x : ExecId) (w : NsiBody) (ext : BitVec 64) (s : State) : Host.Outcome State Fault Refusal :=
  s.run (fun b => b.alu x w ext false false true (fun a c => a &&& c))

/-- OR (R349): bitwise or. -/
def execNsiOr (x : ExecId) (w : NsiBody) (ext : BitVec 64) (s : State) : Host.Outcome State Fault Refusal :=
  s.run (fun b => b.alu x w ext false false true (fun a c => a ||| c))

/-- XOR (R349): bitwise exclusive or. -/
def execNsiXor (x : ExecId) (w : NsiBody) (ext : BitVec 64) (s : State) : Host.Outcome State Fault Refusal :=
  s.run (fun b => b.alu x w ext false false true (fun a c => a ^^^ c))

/-- SHL (R349): shift left by op2 modulo 64. -/
def execNsiShl (x : ExecId) (w : NsiBody) (ext : BitVec 64) (s : State) : Host.Outcome State Fault Refusal :=
  s.run (fun b => b.alu x w ext false false true (fun a c => aluShl a c))

/-- SHR (R349): logical shift right. -/
def execNsiShr (x : ExecId) (w : NsiBody) (ext : BitVec 64) (s : State) : Host.Outcome State Fault Refusal :=
  s.run (fun b => b.alu x w ext false false true (fun a c => aluShr a c))

/-- SRA (R349): arithmetic shift right. -/
def execNsiSra (x : ExecId) (w : NsiBody) (ext : BitVec 64) (s : State) : Host.Outcome State Fault Refusal :=
  s.run (fun b => b.alu x w ext false false true (fun a c => aluSra a c))

/-- MUL (R349): low 64 bits of the product. -/
def execNsiMul (x : ExecId) (w : NsiBody) (ext : BitVec 64) (s : State) : Host.Outcome State Fault Refusal :=
  s.run (fun b => b.alu x w ext false false true (fun a c => a * c))

/-- MULHU (R349): high 64 bits of the unsigned product. -/
def execNsiMulhu (x : ExecId) (w : NsiBody) (ext : BitVec 64) (s : State) : Host.Outcome State Fault Refusal :=
  s.run (fun b => b.alu x w ext false false true (fun a c => aluMulhu a c))

/-- MIN (R349): signed minimum. -/
def execNsiMin (x : ExecId) (w : NsiBody) (ext : BitVec 64) (s : State) : Host.Outcome State Fault Refusal :=
  s.run (fun b => b.alu x w ext false false true (fun a c => aluMin a c))

/-- MAX (R349): signed maximum. -/
def execNsiMax (x : ExecId) (w : NsiBody) (ext : BitVec 64) (s : State) : Host.Outcome State Fault Refusal :=
  s.run (fun b => b.alu x w ext false false true (fun a c => aluMax a c))

/-- MINU (R349): unsigned minimum. -/
def execNsiMinu (x : ExecId) (w : NsiBody) (ext : BitVec 64) (s : State) : Host.Outcome State Fault Refusal :=
  s.run (fun b => b.alu x w ext false false true (fun a c => aluMinu a c))

/-- MAXU (R349): unsigned maximum. -/
def execNsiMaxu (x : ExecId) (w : NsiBody) (ext : BitVec 64) (s : State) : Host.Outcome State Fault Refusal :=
  s.run (fun b => b.alu x w ext false false true (fun a c => aluMaxu a c))

/-- BEXT (R349): bit field extract, immediate form only, IMM[31:12] = 0. -/
def execNsiBext (x : ExecId) (w : NsiBody) (ext : BitVec 64) (s : State) : Host.Outcome State Fault Refusal :=
  s.run (fun b => b.alu x w ext true false (decide (nfImm w < 4096)) (fun a _ => aluBext a (nfImm w)))

/-- LI (R349): rd := op2, immediate form only, X allowed. -/
def execNsiLi (x : ExecId) (w : NsiBody) (ext : BitVec 64) (s : State) : Host.Outcome State Fault Refusal :=
  s.run (fun b => b.alu x w ext true true true (fun _ c => c))

/-- CEQ (R349): p[RD] := comparison of ra with op2. -/
def execNsiCeq (x : ExecId) (w : NsiBody) (ext : BitVec 64) (s : State) : Host.Outcome State Fault Refusal :=
  s.run (fun b => b.cmpOp x w ext cmpEq)

/-- CNE (R349): p[RD] := comparison of ra with op2. -/
def execNsiCne (x : ExecId) (w : NsiBody) (ext : BitVec 64) (s : State) : Host.Outcome State Fault Refusal :=
  s.run (fun b => b.cmpOp x w ext cmpNe)

/-- CLT (R349): p[RD] := comparison of ra with op2. -/
def execNsiClt (x : ExecId) (w : NsiBody) (ext : BitVec 64) (s : State) : Host.Outcome State Fault Refusal :=
  s.run (fun b => b.cmpOp x w ext cmpLt)

/-- CLTU (R349): p[RD] := comparison of ra with op2. -/
def execNsiCltu (x : ExecId) (w : NsiBody) (ext : BitVec 64) (s : State) : Host.Outcome State Fault Refusal :=
  s.run (fun b => b.cmpOp x w ext cmpLtu)

/-- CLE (R349): p[RD] := comparison of ra with op2. -/
def execNsiCle (x : ExecId) (w : NsiBody) (ext : BitVec 64) (s : State) : Host.Outcome State Fault Refusal :=
  s.run (fun b => b.cmpOp x w ext cmpLe)

/-- CLEU (R349): p[RD] := comparison of ra with op2. -/
def execNsiCleu (x : ExecId) (w : NsiBody) (ext : BitVec 64) (s : State) : Host.Outcome State Fault Refusal :=
  s.run (fun b => b.cmpOp x w ext cmpLeu)

/-- PAND (R349): p[RD] := p[RA] and p[RB]. -/
def execNsiPand (x : ExecId) (w : NsiBody) (_ext : BitVec 64) (s : State) : Host.Outcome State Fault Refusal :=
  s.run (fun b => b.predOp x w (fun p q => p && q))

/-- POR (R349): p[RD] := p[RA] or p[RB]. -/
def execNsiPor (x : ExecId) (w : NsiBody) (_ext : BitVec 64) (s : State) : Host.Outcome State Fault Refusal :=
  s.run (fun b => b.predOp x w (fun p q => p || q))

/-- PNOT (R349): p[RD] := not p[RA]. -/
def execNsiPnot (x : ExecId) (w : NsiBody) (_ext : BitVec 64) (s : State) : Host.Outcome State Fault Refusal :=
  s.run (fun b => b.predOp x w (fun p _ => !p))

/-- BR (R349): pc := pc + 8 IMM, immediate form only. -/
def execNsiBr (x : ExecId) (w : NsiBody) (_ext : BitVec 64) (s : State) : Host.Outcome State Fault Refusal :=
  s.run (fun b => b.issue x w (scalarEnc w false true false) true (fun e => b.jump x w e (brTarget e w)))

/-- BRR (R349): pc := s[RA]. -/
def execNsiBrr (x : ExecId) (w : NsiBody) (_ext : BitVec 64) (s : State) : Host.Outcome State Fault Refusal :=
  s.run (fun b => b.issue x w (scalarEnc w false false false) true (fun e => b.jump x w e (e.rs (nfRA w)).toNat))

/-- CALL (R349): s31 := address of the next instruction; pc := pc + 8 IMM. -/
def execNsiCall (x : ExecId) (w : NsiBody) (_ext : BitVec 64) (s : State) : Host.Outcome State Fault Refusal :=
  s.run (fun b => b.issue x w (scalarEnc w false true false) true (fun e =>
    b.jump x w { e with s := (e.ws 31 (BitVec.ofNat 64 (e.pc + 8))).s } (brTarget e w)))

/-- RET (R349): pc := s31. -/
def execNsiRet (x : ExecId) (w : NsiBody) (_ext : BitVec 64) (s : State) : Host.Outcome State Fault Refusal :=
  s.run (fun b => b.issue x w (scalarEnc w false false false) true (fun e => b.jump x w e (e.rs 31).toNat))

/-- TRAP (R349): raises SWTRAP with EINFO := IMM, sign-extended. -/
def execNsiTrap (x : ExecId) (w : NsiBody) (_ext : BitVec 64) (s : State) : Host.Outcome State Fault Refusal :=
  s.run (fun b => b.issue x w (scalarEnc w false true false) true (fun _ => b.raise x w 8 (sext32 (nfImm w)).toNat))

/-- RFT (R349): on a sequencer with TRAP_ACTIVE = 1, back to the instruction after the faulting one; otherwise ILLEGAL. -/
def execNsiRft (x : ExecId) (w : NsiBody) (_ext : BitVec 64) (s : State) : Host.Outcome State Fault Refusal :=
  s.run (fun b => b.issue x w (scalarEnc w false false false) (isSeq x && (b.ex x).trap) (fun e =>
    let b := b.setEx x { e with trap := false, pc := e.resume }
    b.seqState (xkey x) 0))

/-- END (R349): ends a Pip's or Picker's part of its item; ILLEGAL on a sequencer. The last part of a draft pass on a cluster may let it begin
class 3 (R67). -/
def execNsiEnd (x : ExecId) (w : NsiBody) (_ext : BitVec 64) (s : State) : Host.Outcome State Fault Refusal :=
  s.run (fun b => b.issue x w (scalarEnc w false false false) (!isSeq x) (fun e =>
    let b := (b.setEx x { e with pc := e.pc + nfLen w, halted := true }).noteProgress e.item
    if e.item.isNone then b.dispatchItems else b))

/-- CSRR (R349): rd := csr[IMM]; ILLEGAL where the number is undefined. -/
def execNsiCsrr (x : ExecId) (w : NsiBody) (_ext : BitVec 64) (s : State) : Host.Outcome State Fault Refusal :=
  s.run (fun b => b.issue x w (scalarEnc w false true false) true (fun e =>
    match b.csr x (nfImm w) with
    | some v => b.done x w (e.ws (nfRD w) v)
    | none => b.raise x w 1 0))

/-- CSRW (R349): csr[IMM] := s[RA]; ILLEGAL but for SCRATCH0 to SCRATCH7. -/
def execNsiCsrw (x : ExecId) (w : NsiBody) (_ext : BitVec 64) (s : State) : Host.Outcome State Fault Refusal :=
  s.run (fun b => b.issue x w (scalarEnc w false true false) true (fun e =>
    if 0x10 ≤ nfImm w ∧ nfImm w ≤ 0x17 then
      b.done x w { e with scratch := tset e.scratch (nfImm w - 0x10) (e.rs (nfRA w)) }
    else b.raise x w 1 0))

end Sys2Proof.Machine
end

