-- ==== Sys2Proof/Machine/Tap.lean ====
section
/-! DEFINITION. The test access port (R521 to R524): the instruction register, the data register it selects, and the
instruments of the 1687 network. -/
namespace Sys2Proof.Machine
open Sys2Proof

/-- The data registers of R522. -/
inductive TapDr where
  | boundary | idcode | bypass | network
deriving DecidableEq, Repr

/-- The instruction a code acts as (R522, R523): an unknown code acts as BYPASS, and so do EXTEST, CLAMP and HIGHZ while tick_rst_n is high. -/
def tapActs (inReset : Bool) (code : Nat) : Nat :=
  if code = 0 ∨ code = 3 ∨ code = 4 then (if inReset then code else 0xFF)
  else if code = 1 ∨ code = 2 ∨ code = 0x10 then code
  else 0xFF

/-- The data register an instruction selects. -/
def tapDr (code : Nat) : TapDr :=
  match code with
  | 0 | 1 => .boundary
  | 2 => .idcode
  | 0x10 => .network
  | _ => .bypass

/-- The data register between tap_tdi and tap_tdo. -/
def Block.tapReg (b : Block) : TapDr := tapDr (tapActs b.sa.inReset b.tap)

/-- The test port drives the block's outputs: EXTEST, CLAMP or HIGHZ in force, which tick_rst_n high excludes. -/
def Block.tapDrives (b : Block) : Bool := [0, 3, 4].contains (tapActs b.sa.inReset b.tap)

/-- IDCODE (R522): version 0x2, part 0x0001, manufacturer 0x1B3. -/
def tapIdcode : BitVec 32 := 0x20001367

/-- A code loaded into the instruction register. -/
def Block.tapLoad (b : Block) (code : Nat) : Block := { b with tap := code }

/-- What may be done with an instrument (R524): read, and run. -/
def tapMay (inReset : Bool) (i : Instrument) : Bool × Bool :=
  match i with
  | .thermal => (true, false)
  | .monitors => (true, false)
  | .margin => (true, inReset)
  | .selfTest => (inReset, inReset)
  | .seqDump => (inReset, false)

/-- The sequencer state dump (R524): of each sequencer its program counter, its scalar registers s1 to s31, its predicates, and the CSRs of its last
exception, in this order (log 67). -/
def Block.seqDump (b : Block) : List Word :=
  (List.range 8).flatMap (fun n =>
    let e := b.exAt n
    [BitVec.ofNat 64 e.pc] ++ (List.range 31).map (fun r => e.rs (r + 1)) ++ [e.p, e.cause, e.epc, e.einfo].map (BitVec.ofNat 64))

/-- An access through the network (R524): the segments inserted, the self-test run where it may be, and every instrument inserted that may be read gives
its data: `seen` what the sensors, the monitors and a run show. Nothing else of the block changes. -/
def Block.tapAccess (b : Block) (segs : List Instrument) (run : Bool) (seen : List (Instrument × List Word)) : Block :=
  let show_ := fun (i : Instrument) => ((seen.find? (fun p => p.1 == i)).map (·.2)).getD []
  let test := if run && segs.contains .selfTest && (tapMay b.sa.inReset .selfTest).2 then show_ .selfTest else b.net.test
  let read := fun (i : Instrument) => match i with
    | .selfTest => test
    | .seqDump => b.seqDump
    | .thermal => show_ .thermal
    | .monitors => show_ .monitors
    | .margin => show_ .margin
  { b with net := { segs := segs, test := test, out := (segs.filter (fun i => (tapMay b.sa.inReset i).1)).map (fun i => (i, read i)) } }

/-- TAP_RESET (R521, R522): Test-Logic-Reset selects IDCODE, and no segment stays inserted. -/
def execTapReset (s : State) : Host.Outcome State Fault Refusal :=
  s.always (fun b => { b.tapLoad 2 with net := { b.net with segs := [], out := [] } })
/-- TAP_EXTEST (R522). -/
def execTapExtest (s : State) : Host.Outcome State Fault Refusal := s.always (fun b => b.tapLoad 0)
/-- TAP_SAMPLE_PRELOAD (R522). -/
def execTapSamplePreload (s : State) : Host.Outcome State Fault Refusal := s.always (fun b => b.tapLoad 1)
/-- TAP_IDCODE (R522). -/
def execTapIdcode (s : State) : Host.Outcome State Fault Refusal := s.always (fun b => b.tapLoad 2)
/-- TAP_CLAMP (R522). -/
def execTapClamp (s : State) : Host.Outcome State Fault Refusal := s.always (fun b => b.tapLoad 3)
/-- TAP_HIGHZ (R522). -/
def execTapHighz (s : State) : Host.Outcome State Fault Refusal := s.always (fun b => b.tapLoad 4)
/-- TAP_IJTAG (R522, R524). -/
def execTapIjtag (s : State) (segs : List Instrument := []) (run : Bool := false) (seen : List (Instrument × List Word) := []) :
    Host.Outcome State Fault Refusal :=
  s.always (fun b => (b.tapLoad 0x10).tapAccess segs run seen)
/-- TAP_BYPASS (R522). -/
def execTapBypass (s : State) : Host.Outcome State Fault Refusal := s.always (fun b => b.tapLoad 0xFF)

end Sys2Proof.Machine
end

