-- ==== Sys2Proof/Machine/Vector.lean ====
section
/-! DEFINITION. The vector class of NSI (R354, R355): elementwise operations, functions, reductions, conversion and
copy, in Exact mode (R252) and in Fast mode (R253). -/
namespace Sys2Proof.Machine
open Sys2Proof

/-- The scalar source of the vector class, bits [32:28]. -/
def vRS (w : NsiBody) : Nat := nf w 28 5
/-- The encoding rules of R354: bits [63:33] zero, no X. -/
def vecEnc (w : NsiBody) : Bool := nf w 33 31 == 0 && !nfX w

/-- FP32 or BF16. -/
def isFp (d : Word) : Bool := decide (tdFmt d ≤ 1)

/-- An element of an FP32 or BF16 tile as binary32: BF16 widens exactly. -/
def vElem (m : Memory) (base : Nat) (d : Word) (r e : Nat) : BitVec 32 :=
  let raw := tileRaw m base d r e
  BitVec.ofNat 32 (if tdFmt d = 0 then raw else raw * 65536)

/-- A row of binary32 values written to an FP32 tile as they are, to a BF16 tile under R254. -/
def Block.putVec (b : Block) (base : Nat) (d : Word) (r : Nat) (l : List (BitVec 32)) : Block :=
  if tdFmt d = 0 then b.putRaw base d r (l.map (·.toNat)) else b.putRow base d r (l.map dec32)

/-- The checks every vector instruction makes (R241, R344, R353, R355): ERR, range, format, shape. -/
def Block.vecOp (b : Block) (x : ExecId) (w : NsiBody) (regs : List Nat) (fmtOk shapeOk : (Nat → Word) → Bool)
    (run : Exec → (Nat → Word) → Block → Block) : Block :=
  b.issue x w (vecEnc w) (isPip x) (fun e =>
    let d := fun (n : Nat) => (e.td n).1
    b.withTiles x e (regs.map e.td) (
      if !(regs.all (fun n => tdOk (d n))) then b.raise x w 3 0
      else if !fmtOk d then b.raise x w 2 0
      else if !shapeOk d then b.raise x w 4 0
      else run e d (b.pipDone x w e)))

/-- Equal ROWS and KBLK. -/
def sameShape (a c : Word) : Bool := tdRows a == tdRows c && tdKblk a == tdKblk c
/-- Equal KBLK, and equal ROWS or one row that applies to all (R355). -/
def rowShape (a c : Word) : Bool := tdKblk a == tdKblk c && (tdRows a == tdRows c || tdRows c == 1)

/-- A free offset of at most 2 units in the last place of a finite result (R253, log 11). -/
def nudge (v f : BitVec 32) : BitVec 32 :=
  let mag := v.toNat % 2 ^ 31
  if mag ≥ 0x7F800000 then v
  else
    let m := min 0x7F7FFFFF ((mag + f.toNat % 5) - 2)
    BitVec.ofNat 32 (v.toNat / 2 ^ 31 * 2 ^ 31 + m)

/-- The mode's effect on one result (R253): kind 0 none but the flush, 1 a transcendental function, 2 a reduction of some exact terms. -/
def Block.vecMode (b : Block) (e : Exec) (kind : Nat) (v : BitVec 32) (terms : List FV := []) : BitVec 32 × Block :=
  if !e.fast then (v, b)
  else
    let flush := b.fget F.PIP_CTRL_FAST_FTZ == 1
    if kind = 0 then (ftz flush v, b)
    else
      let f := b.free
      (ftz flush (if kind = 1 then nudge v f.1 else fastSum flush f.1 terms), f.2)

/-- The results of one row under the mode. -/
def Block.vecRow (b : Block) (e : Exec) (kind : Nat) (l : List (BitVec 32)) : List (BitVec 32) × Block :=
  l.foldl (fun r v =>
    let p := r.2.vecMode e kind v
    (r.1 ++ [p.1], p.2)) ([], b)

/-- Rows of results written to a destination; all operands are read from the memory before the instruction. -/
def Block.vecOut (b : Block) (x : ExecId) (e : Exec) (d : Word) (kind : Nat) (f : Nat → List (BitVec 32)) : Block :=
  (List.range (tdRows d)).foldl (fun b r =>
    let p := b.vecRow e kind (f r)
    p.2.putVec (sliceBase x) d r p.1) b

/-- An elementwise operation td := f ta tb td (R354). -/
def Block.vecBin (b : Block) (x : ExecId) (w : NsiBody) (f : BitVec 32 → BitVec 32 → BitVec 32 → BitVec 32) : Block :=
  b.vecOp x w [tTD w, tTA w, tTB w] (fun d => isFp (d (tTD w)) && isFp (d (tTA w)) && isFp (d (tTB w)))
    (fun d => sameShape (d (tTD w)) (d (tTA w)) && rowShape (d (tTA w)) (d (tTB w)))
    (fun e d c =>
      let m := b.mem.slices
      let g := sliceBase x
      c.vecOut x e (d (tTD w)) 0 (fun r => (List.range (32 * tdKblk (d (tTD w)))).map (fun i =>
        f (vElem m g (d (tTA w)) r i) (vElem m g (d (tTB w)) (if tdRows (d (tTB w)) = 1 then 0 else r) i) (vElem m g (d (tTD w)) r i))))

/-- An operation td := f ta of one tile and the scalar operand (R354). -/
def Block.vecUn (b : Block) (x : ExecId) (w : NsiBody) (kind : Nat) (f : BitVec 32 → BitVec 32 → BitVec 32) : Block :=
  b.vecOp x w [tTD w, tTA w] (fun d => isFp (d (tTD w)) && isFp (d (tTA w))) (fun d => sameShape (d (tTD w)) (d (tTA w)))
    (fun e d c =>
      let m := b.mem.slices
      let g := sliceBase x
      c.vecOut x e (d (tTD w)) kind (fun r => (List.range (32 * tdKblk (d (tTD w)))).map (fun i =>
        f (vElem m g (d (tTA w)) r i) ((e.rs (vRS w)).setWidth 32))))

/-- The exact terms a sum or a dot product adds (R252). -/
def redTerms (two : Bool) (l : List (BitVec 32 × BitVec 32)) : List FV :=
  .fin false 0 0 :: l.map (fun p => if two then fmul (dec32 p.1) (dec32 p.2) else dec32 p.1)

/-- A reduction of rows into element 0, +0 in elements 1 to 31 (R354, R355). -/
def Block.vecRed (b : Block) (x : ExecId) (w : NsiBody) (two : Bool) (kind : Nat) (f : List (BitVec 32 × BitVec 32) → BitVec 32) : Block :=
  b.vecOp x w ([tTD w, tTA w] ++ (if two then [tTB w] else []))
    (fun d => isFp (d (tTD w)) && isFp (d (tTA w)) && (!two || isFp (d (tTB w))))
    (fun d => tdRows (d (tTD w)) == tdRows (d (tTA w)) && tdKblk (d (tTD w)) == 1 && (!two || sameShape (d (tTA w)) (d (tTB w))))
    (fun e d c =>
      let m := b.mem.slices
      let g := sliceBase x
      (List.range (tdRows (d (tTD w)))).foldl (fun b r =>
        let l := (List.range (32 * tdKblk (d (tTA w)))).map (fun i =>
          (vElem m g (d (tTA w)) r i, if two then vElem m g (d (tTB w)) r i else 0))
        let p := b.vecMode e kind (f l) (redTerms two l)
        p.2.putVec g (d (tTD w)) r (p.1 :: List.replicate 31 0)) c)

/-- VCVT's format rule (R354). -/
def cvtFmt (d a : Word) : Bool := isFp d || (isFp a && decide (2 ≤ tdFmt d))

/-- The blocks of a tile whose scale byte is 0xFF. -/
def nanScales (m : Memory) (base : Nat) (d : Word) : Nat :=
  if fmtScaled (tdFmt d) then
    ((List.range (tdRows d)).flatMap (fun r => (List.range (tdKblk d)).map (fun k => tileScale m base d r k))).filter (· == 255) |>.length
  else 0

/-- VADD (R354): td := ta + tb. -/
def execNsiVadd (x : ExecId) (w : NsiBody) (_ext : BitVec 64) (s : State) : Host.Outcome State Fault Refusal :=
  s.run (fun b => b.vecBin x w (fun a c _ => add32 a c))

/-- VSUB (R354): td := ta - tb. -/
def execNsiVsub (x : ExecId) (w : NsiBody) (_ext : BitVec 64) (s : State) : Host.Outcome State Fault Refusal :=
  s.run (fun b => b.vecBin x w (fun a c _ => sub32 a c))

/-- VMUL (R354): td := ta x tb. -/
def execNsiVmul (x : ExecId) (w : NsiBody) (_ext : BitVec 64) (s : State) : Host.Outcome State Fault Refusal :=
  s.run (fun b => b.vecBin x w (fun a c _ => mul32 a c))

/-- VFMA (R354): td := ta x tb + td, rounded once. -/
def execNsiVfma (x : ExecId) (w : NsiBody) (_ext : BitVec 64) (s : State) : Host.Outcome State Fault Refusal :=
  s.run (fun b => b.vecBin x w (fun a c t => fma32 a c t))

/-- VDIV (R354): td := ta / tb. -/
def execNsiVdiv (x : ExecId) (w : NsiBody) (_ext : BitVec 64) (s : State) : Host.Outcome State Fault Refusal :=
  s.run (fun b => b.vecBin x w (fun a c _ => div32 a c))

/-- VMAX (R354): IEEE maximum. -/
def execNsiVmax (x : ExecId) (w : NsiBody) (_ext : BitVec 64) (s : State) : Host.Outcome State Fault Refusal :=
  s.run (fun b => b.vecBin x w (fun a c _ => max32 a c))

/-- VMIN (R354): IEEE minimum. -/
def execNsiVmin (x : ExecId) (w : NsiBody) (_ext : BitVec 64) (s : State) : Host.Outcome State Fault Refusal :=
  s.run (fun b => b.vecBin x w (fun a c _ => min32 a c))

/-- VSQRT (R354): td := square root of ta. -/
def execNsiVsqrt (x : ExecId) (w : NsiBody) (_ext : BitVec 64) (s : State) : Host.Outcome State Fault Refusal :=
  s.run (fun b => b.vecUn x w 0 (fun a _ => sqrt32 a))

/-- VEXP (R354): td := the function of ta, correctly rounded in Exact mode. -/
def execNsiVexp (x : ExecId) (w : NsiBody) (_ext : BitVec 64) (s : State) : Host.Outcome State Fault Refusal :=
  s.run (fun b => b.vecUn x w 1 (fun a _ => exp32 a))

/-- VLOG (R354): td := the function of ta, correctly rounded in Exact mode. -/
def execNsiVlog (x : ExecId) (w : NsiBody) (_ext : BitVec 64) (s : State) : Host.Outcome State Fault Refusal :=
  s.run (fun b => b.vecUn x w 1 (fun a _ => log32 a))

/-- VRSQRT (R354): td := the function of ta, correctly rounded in Exact mode. -/
def execNsiVrsqrt (x : ExecId) (w : NsiBody) (_ext : BitVec 64) (s : State) : Host.Outcome State Fault Refusal :=
  s.run (fun b => b.vecUn x w 1 (fun a _ => rsqrt32 a))

/-- VTANH (R354): td := the function of ta, correctly rounded in Exact mode. -/
def execNsiVtanh (x : ExecId) (w : NsiBody) (_ext : BitVec 64) (s : State) : Host.Outcome State Fault Refusal :=
  s.run (fun b => b.vecUn x w 1 (fun a _ => tanh32 a))

/-- VSIG (R354): td := the function of ta, correctly rounded in Exact mode. -/
def execNsiVsig (x : ExecId) (w : NsiBody) (_ext : BitVec 64) (s : State) : Host.Outcome State Fault Refusal :=
  s.run (fun b => b.vecUn x w 1 (fun a _ => sig32 a))

/-- VERF (R354): td := the function of ta, correctly rounded in Exact mode. -/
def execNsiVerf (x : ExecId) (w : NsiBody) (_ext : BitVec 64) (s : State) : Host.Outcome State Fault Refusal :=
  s.run (fun b => b.vecUn x w 1 (fun a _ => erf32 a))

/-- VADDS (R354): td := ta + s. -/
def execNsiVadds (x : ExecId) (w : NsiBody) (_ext : BitVec 64) (s : State) : Host.Outcome State Fault Refusal :=
  s.run (fun b => b.vecUn x w 0 (fun a c => add32 a c))

/-- VMULS (R354): td := ta x s. -/
def execNsiVmuls (x : ExecId) (w : NsiBody) (_ext : BitVec 64) (s : State) : Host.Outcome State Fault Refusal :=
  s.run (fun b => b.vecUn x w 0 (fun a c => mul32 a c))

/-- VSUM (R354): sum reduction of a row. -/
def execNsiVsum (x : ExecId) (w : NsiBody) (_ext : BitVec 64) (s : State) : Host.Outcome State Fault Refusal :=
  s.run (fun b => b.vecRed x w false 2 (fun l => sumRed (l.map (fun p => dec32 p.1))))

/-- VDOT (R354): dot-product reduction of two rows. -/
def execNsiVdot (x : ExecId) (w : NsiBody) (_ext : BitVec 64) (s : State) : Host.Outcome State Fault Refusal :=
  s.run (fun b => b.vecRed x w true 2 (fun l => sumRed (l.map (fun p => fmul (dec32 p.1) (dec32 p.2)))))

/-- VRMAX (R354): maximum of a row. -/
def execNsiVrmax (x : ExecId) (w : NsiBody) (_ext : BitVec 64) (s : State) : Host.Outcome State Fault Refusal :=
  s.run (fun b => b.vecRed x w false 0 (fun l => (l.tail.map (·.1)).foldl max32 ((l.map (·.1)).headD 0)))

/-- VCVT (R354): format conversion, each value rounded once. -/
def execNsiVcvt (x : ExecId) (w : NsiBody) (_ext : BitVec 64) (s : State) : Host.Outcome State Fault Refusal :=
  s.run (fun b => b.vecOp x w [tTD w, tTA w] (fun d => cvtFmt (d (tTD w)) (d (tTA w))) (fun d => sameShape (d (tTD w)) (d (tTA w)))
    (fun e d c =>
      let m := b.mem.slices
      let g := sliceBase x
      let n := nanScales m g (d (tTA w))
      let c := if n = 0 then c else (c.count F.PIP_CNT_B_NAN_BLK n).evt F.PIP_EVT_NAN_SCALE
      let flush := e.fast && c.fget F.PIP_CTRL_FAST_FTZ == 1
      (List.range (tdRows (d (tTD w)))).foldl (fun b r =>
        let l := (List.range (32 * tdKblk (d (tTD w)))).map (fun i => tileVal m g (d (tTA w)) r i)
        if tdFmt (d (tTD w)) = 0 then b.putRaw g (d (tTD w)) r (l.map (fun v => (ftz flush (enc32 v)).toNat))
        else b.putRow g (d (tTD w)) r l) c))

/-- VCOPY (R354): bytes copied unchanged between tiles of one format and shape. -/
def execNsiVcopy (x : ExecId) (w : NsiBody) (_ext : BitVec 64) (s : State) : Host.Outcome State Fault Refusal :=
  s.run (fun b => b.vecOp x w [tTD w, tTA w] (fun d => tdFmt (d (tTD w)) == tdFmt (d (tTA w))) (fun d => sameShape (d (tTD w)) (d (tTA w)))
    (fun _ d c =>
      let m := b.mem.slices
      let g := sliceBase x
      let t := d (tTD w)
      let a := d (tTA w)
      let m1 := (List.range (tdRows t)).foldl (fun k r => mwrN k (g + tdBase t + r * tdPitch t) (mrdN m (g + tdBase a + r * tdPitch a) (tdRowBytes a))) c.mem.slices
      let m2 := if fmtScaled (tdFmt t) then mwrN m1 (g + tdScale t) (mrdN m (g + tdScale a) (tdRows a * tdKblk a)) else m1
      { c with mem := { c.mem with slices := m2 } }))

end Sys2Proof.Machine
end

