-- ==== Sys2Proof/Machine/Dispatch.lean ====
section
/-! DEFINITION. The dispatch of a command to its meaning: one arm for each constructor of Instr. -/
namespace Sys2Proof.Machine
open Sys2Proof

def exec (i : Instr) (s : State) : Host.Outcome State Fault Refusal :=
  match i with
  | .tickInEdge cycle => Sys2Proof.Machine.execTickInEdge cycle s
  | .internalTick => Sys2Proof.Machine.execInternalTick s
  | .tickSourceMissed => Sys2Proof.Machine.execTickSourceMissed s
  | .intakeClose far => Sys2Proof.Machine.execIntakeClose far s
  | .acceptPhase entry => Sys2Proof.Machine.execAcceptPhase entry s
  | .draftCutoff => Sys2Proof.Machine.execDraftCutoff s
  | .maskTarget => Sys2Proof.Machine.execMaskTarget s
  | .maskDeadline => Sys2Proof.Machine.execMaskDeadline s
  | .publishPhase => Sys2Proof.Machine.execPublishPhase s
  | .turnWindowEnd => Sys2Proof.Machine.execTurnWindowEnd s
  | .monitorEval => Sys2Proof.Machine.execMonitorEval s
  | .scheduleFrame => Sys2Proof.Machine.execScheduleFrame s
  | .verdictRelease entry => Sys2Proof.Machine.execVerdictRelease entry s
  | .itemDone item status outs => Sys2Proof.Machine.execItemDone item status outs s
  | .admDoorbell count => Sys2Proof.Machine.execAdmDoorbell count s
  | .admissionClaim => Sys2Proof.Machine.execAdmissionClaim s
  | .ctlDoorbell count => Sys2Proof.Machine.execCtlDoorbell count s
  | .controlClaim => Sys2Proof.Machine.execControlClaim s
  | .punnetTaken count => Sys2Proof.Machine.execPunnetTaken count s
  | .logTaken count => Sys2Proof.Machine.execLogTaken count s
  | .reportTaken count => Sys2Proof.Machine.execReportTaken count s
  | .latticeJobDone unit fault far => Sys2Proof.Machine.execLatticeJobDone unit fault far s
  | .matchJobDone unit fault far => Sys2Proof.Machine.execMatchJobDone unit fault far s
  | .maskJobDone unit fault far => Sys2Proof.Machine.execMaskJobDone unit fault far s
  | .treeJobDone unit bad far => Sys2Proof.Machine.execTreeJobDone unit bad far s
  | .dpassDone proposals => Sys2Proof.Machine.execDpassDone proposals s
  | .fetchDataArrive cluster picker slot far => Sys2Proof.Machine.execFetchDataArrive cluster picker slot far s
  | .remoteOpComplete x => Sys2Proof.Machine.execRemoteOpComplete x s
  | .waitConditionMet x => Sys2Proof.Machine.execWaitConditionMet x s
  | .remoteTimeout op => Sys2Proof.Machine.execRemoteTimeout op s
  | .modelLoadComplete adapter number far => Sys2Proof.Machine.execModelLoadComplete adapter number far s
  | .hotFillComplete adapter number => Sys2Proof.Machine.execHotFillComplete adapter number s
  | .fillRetry => Sys2Proof.Machine.execFillRetry s
  | .nsiNop x w ext => Sys2Proof.Machine.execNsiNop x w ext s
  | .nsiAdd x w ext => Sys2Proof.Machine.execNsiAdd x w ext s
  | .nsiSub x w ext => Sys2Proof.Machine.execNsiSub x w ext s
  | .nsiAnd x w ext => Sys2Proof.Machine.execNsiAnd x w ext s
  | .nsiOr x w ext => Sys2Proof.Machine.execNsiOr x w ext s
  | .nsiXor x w ext => Sys2Proof.Machine.execNsiXor x w ext s
  | .nsiShl x w ext => Sys2Proof.Machine.execNsiShl x w ext s
  | .nsiShr x w ext => Sys2Proof.Machine.execNsiShr x w ext s
  | .nsiSra x w ext => Sys2Proof.Machine.execNsiSra x w ext s
  | .nsiMul x w ext => Sys2Proof.Machine.execNsiMul x w ext s
  | .nsiMulhu x w ext => Sys2Proof.Machine.execNsiMulhu x w ext s
  | .nsiMin x w ext => Sys2Proof.Machine.execNsiMin x w ext s
  | .nsiMax x w ext => Sys2Proof.Machine.execNsiMax x w ext s
  | .nsiMinu x w ext => Sys2Proof.Machine.execNsiMinu x w ext s
  | .nsiMaxu x w ext => Sys2Proof.Machine.execNsiMaxu x w ext s
  | .nsiBext x w ext => Sys2Proof.Machine.execNsiBext x w ext s
  | .nsiLi x w ext => Sys2Proof.Machine.execNsiLi x w ext s
  | .nsiCeq x w ext => Sys2Proof.Machine.execNsiCeq x w ext s
  | .nsiCne x w ext => Sys2Proof.Machine.execNsiCne x w ext s
  | .nsiClt x w ext => Sys2Proof.Machine.execNsiClt x w ext s
  | .nsiCltu x w ext => Sys2Proof.Machine.execNsiCltu x w ext s
  | .nsiCle x w ext => Sys2Proof.Machine.execNsiCle x w ext s
  | .nsiCleu x w ext => Sys2Proof.Machine.execNsiCleu x w ext s
  | .nsiPand x w ext => Sys2Proof.Machine.execNsiPand x w ext s
  | .nsiPor x w ext => Sys2Proof.Machine.execNsiPor x w ext s
  | .nsiPnot x w ext => Sys2Proof.Machine.execNsiPnot x w ext s
  | .nsiBr x w ext => Sys2Proof.Machine.execNsiBr x w ext s
  | .nsiBrr x w ext => Sys2Proof.Machine.execNsiBrr x w ext s
  | .nsiCall x w ext => Sys2Proof.Machine.execNsiCall x w ext s
  | .nsiRet x w ext => Sys2Proof.Machine.execNsiRet x w ext s
  | .nsiTrap x w ext => Sys2Proof.Machine.execNsiTrap x w ext s
  | .nsiRft x w ext => Sys2Proof.Machine.execNsiRft x w ext s
  | .nsiEnd x w ext => Sys2Proof.Machine.execNsiEnd x w ext s
  | .nsiCsrr x w ext => Sys2Proof.Machine.execNsiCsrr x w ext s
  | .nsiCsrw x w ext => Sys2Proof.Machine.execNsiCsrw x w ext s
  | .nsiTld x w ext => Sys2Proof.Machine.execNsiTld x w ext s
  | .nsiTmv x w ext => Sys2Proof.Machine.execNsiTmv x w ext s
  | .nsiQpop x w ext => Sys2Proof.Machine.execNsiQpop x w ext s
  | .nsiQrel x w ext => Sys2Proof.Machine.execNsiQrel x w ext s
  | .nsiMma x w ext fault => Sys2Proof.Machine.execNsiMma x w ext fault s
  | .nsiAccst x w ext => Sys2Proof.Machine.execNsiAccst x w ext s
  | .nsiAccld x w ext => Sys2Proof.Machine.execNsiAccld x w ext s
  | .nsiAccz x w ext => Sys2Proof.Machine.execNsiAccz x w ext s
  | .nsiVadd x w ext => Sys2Proof.Machine.execNsiVadd x w ext s
  | .nsiVsub x w ext => Sys2Proof.Machine.execNsiVsub x w ext s
  | .nsiVmul x w ext => Sys2Proof.Machine.execNsiVmul x w ext s
  | .nsiVfma x w ext => Sys2Proof.Machine.execNsiVfma x w ext s
  | .nsiVdiv x w ext => Sys2Proof.Machine.execNsiVdiv x w ext s
  | .nsiVmax x w ext => Sys2Proof.Machine.execNsiVmax x w ext s
  | .nsiVmin x w ext => Sys2Proof.Machine.execNsiVmin x w ext s
  | .nsiVsqrt x w ext => Sys2Proof.Machine.execNsiVsqrt x w ext s
  | .nsiVexp x w ext => Sys2Proof.Machine.execNsiVexp x w ext s
  | .nsiVlog x w ext => Sys2Proof.Machine.execNsiVlog x w ext s
  | .nsiVrsqrt x w ext => Sys2Proof.Machine.execNsiVrsqrt x w ext s
  | .nsiVtanh x w ext => Sys2Proof.Machine.execNsiVtanh x w ext s
  | .nsiVsig x w ext => Sys2Proof.Machine.execNsiVsig x w ext s
  | .nsiVerf x w ext => Sys2Proof.Machine.execNsiVerf x w ext s
  | .nsiVadds x w ext => Sys2Proof.Machine.execNsiVadds x w ext s
  | .nsiVmuls x w ext => Sys2Proof.Machine.execNsiVmuls x w ext s
  | .nsiVsum x w ext => Sys2Proof.Machine.execNsiVsum x w ext s
  | .nsiVdot x w ext => Sys2Proof.Machine.execNsiVdot x w ext s
  | .nsiVrmax x w ext => Sys2Proof.Machine.execNsiVrmax x w ext s
  | .nsiVcvt x w ext => Sys2Proof.Machine.execNsiVcvt x w ext s
  | .nsiVcopy x w ext => Sys2Proof.Machine.execNsiVcopy x w ext s
  | .nsiFetch x w ext => Sys2Proof.Machine.execNsiFetch x w ext s
  | .nsiFetchg x w ext => Sys2Proof.Machine.execNsiFetchg x w ext s
  | .nsiPut x w ext => Sys2Proof.Machine.execNsiPut x w ext s
  | .nsiGet x w ext => Sys2Proof.Machine.execNsiGet x w ext s
  | .nsiPuts x w ext => Sys2Proof.Machine.execNsiPuts x w ext s
  | .nsiGets x w ext => Sys2Proof.Machine.execNsiGets x w ext s
  | .nsiAadd x w ext => Sys2Proof.Machine.execNsiAadd x w ext s
  | .nsiFadd x w ext => Sys2Proof.Machine.execNsiFadd x w ext s
  | .nsiCas x w ext => Sys2Proof.Machine.execNsiCas x w ext s
  | .nsiWait x w ext => Sys2Proof.Machine.execNsiWait x w ext s
  | .nsiFence x w ext => Sys2Proof.Machine.execNsiFence x w ext s
  | .nsiTfence x w ext => Sys2Proof.Machine.execNsiTfence x w ext s
  | .nsiLattice x w ext => Sys2Proof.Machine.execNsiLattice x w ext s
  | .nsiMatch x w ext => Sys2Proof.Machine.execNsiMatch x w ext s
  | .nsiMask x w ext => Sys2Proof.Machine.execNsiMask x w ext s
  | .nsiTree x w ext => Sys2Proof.Machine.execNsiTree x w ext s
  | .nsiTwait x w ext => Sys2Proof.Machine.execNsiTwait x w ext s
  | .nsiEnq x w ext => Sys2Proof.Machine.execNsiEnq x w ext s
  | .nsiDpass x w ext => Sys2Proof.Machine.execNsiDpass x w ext s
  | .nsiLpg x w ext => Sys2Proof.Machine.execNsiLpg x w ext s
  | .nsiLphase x w ext => Sys2Proof.Machine.execNsiLphase x w ext s
  | .stemRead pkt => Sys2Proof.Machine.execStemRead pkt s
  | .stemWrite pkt => Sys2Proof.Machine.execStemWrite pkt s
  | .stemAadd pkt => Sys2Proof.Machine.execStemAadd pkt s
  | .stemFadd pkt => Sys2Proof.Machine.execStemFadd pkt s
  | .stemCas pkt => Sys2Proof.Machine.execStemCas pkt s
  | .stemRspData pkt => Sys2Proof.Machine.execStemRspData pkt s
  | .stemRspAck pkt => Sys2Proof.Machine.execStemRspAck pkt s
  | .stemRspErr pkt => Sys2Proof.Machine.execStemRspErr pkt s
  | .stemCreditReturn port vc count => Sys2Proof.Machine.execStemCreditReturn port vc count s
  | .stemPortUp port => Sys2Proof.Machine.execStemPortUp port s
  | .stemPortDown port => Sys2Proof.Machine.execStemPortDown port s
  | .stemTxStall port => Sys2Proof.Machine.execStemTxStall port s
  | .registerWrite src offset value parityOk => Sys2Proof.Machine.execRegisterWrite src offset value parityOk s
  | .mgtCommitGroup src group parityOk => Sys2Proof.Machine.execMgtCommitGroup src group parityOk s
  | .mgtAbortGroup src group parityOk => Sys2Proof.Machine.execMgtAbortGroup src group parityOk s
  | .semAcquire src sem lease => Sys2Proof.Machine.execSemAcquire src sem lease s
  | .semRenew src sem lease => Sys2Proof.Machine.execSemRenew src sem lease s
  | .semRelease src sem => Sys2Proof.Machine.execSemRelease src sem s
  | .semLeaseExpire sem => Sys2Proof.Machine.execSemLeaseExpire sem s
  | .staStart src env => Sys2Proof.Machine.execStaStart src env s
  | .staClear src => Sys2Proof.Machine.execStaClear src s
  | .staTakeOver src => Sys2Proof.Machine.execStaTakeOver src s
  | .startRetry env => Sys2Proof.Machine.execStartRetry env s
  | .startLimit => Sys2Proof.Machine.execStartLimit s
  | .resetAssert => Sys2Proof.Machine.execResetAssert s
  | .resetRelease => Sys2Proof.Machine.execResetRelease s
  | .todFrame frame => Sys2Proof.Machine.execTodFrame frame s
  | .calSyncTimeout => Sys2Proof.Machine.execCalSyncTimeout s
  | .lifRestore src => Sys2Proof.Machine.execLifRestore src s
  | .checkpoint => Sys2Proof.Machine.execCheckpoint s
  | .pairHello imageId node active => Sys2Proof.Machine.execPairHello imageId node active s
  | .pairHelloTimeout => Sys2Proof.Machine.execPairHelloTimeout s
  | .pairSync => Sys2Proof.Machine.execPairSync s
  | .pairEpochRaise count => Sys2Proof.Machine.execPairEpochRaise count s
  | .pairAckRaise count => Sys2Proof.Machine.execPairAckRaise count s
  | .pairStandbyTimeout => Sys2Proof.Machine.execPairStandbyTimeout s
  | .pairFence => Sys2Proof.Machine.execPairFence s
  | .takeoverEffect far => Sys2Proof.Machine.execTakeoverEffect far s
  | .tokSlotLoad src slot => Sys2Proof.Machine.execTokSlotLoad src slot s
  | .tokSlotUnload src slot => Sys2Proof.Machine.execTokSlotUnload src slot s
  | .grammarLoad src number => Sys2Proof.Machine.execGrammarLoad src number s
  | .grammarUnload src number => Sys2Proof.Machine.execGrammarUnload src number s
  | .stopsetLoad src number => Sys2Proof.Machine.execStopsetLoad src number s
  | .stopsetUnload src number => Sys2Proof.Machine.execStopsetUnload src number s
  | .pgCmdRetire src page => Sys2Proof.Machine.execPgCmdRetire src page s
  | .pgCmdRelease src page => Sys2Proof.Machine.execPgCmdRelease src page s
  | .pipRelease src cluster pip => Sys2Proof.Machine.execPipRelease src cluster pip s
  | .clusterRelease src cluster => Sys2Proof.Machine.execClusterRelease src cluster s
  | .seqRestartCmd src number => Sys2Proof.Machine.execSeqRestartCmd src number s
  | .modelRegister src number => Sys2Proof.Machine.execModelRegister src number s
  | .modelFetch src number => Sys2Proof.Machine.execModelFetch src number s
  | .modelUnload src number => Sys2Proof.Machine.execModelUnload src number s
  | .modelPin src number => Sys2Proof.Machine.execModelPin src number s
  | .modelUnpin src number => Sys2Proof.Machine.execModelUnpin src number s
  | .adapterRegister src number => Sys2Proof.Machine.execAdapterRegister src number s
  | .adapterUnregister src number => Sys2Proof.Machine.execAdapterUnregister src number s
  | .adapterFetch src number => Sys2Proof.Machine.execAdapterFetch src number s
  | .ensembleLoad src number => Sys2Proof.Machine.execEnsembleLoad src number s
  | .ensembleUnload src number => Sys2Proof.Machine.execEnsembleUnload src number s
  | .threadGroupRelease src number => Sys2Proof.Machine.execThreadGroupRelease src number s
  | .matcherSetLoad src number => Sys2Proof.Machine.execMatcherSetLoad src number s
  | .matcherSetUnload src number => Sys2Proof.Machine.execMatcherSetUnload src number s
  | .matcherRelease src number => Sys2Proof.Machine.execMatcherRelease src number s
  | .profileDefine src number => Sys2Proof.Machine.execProfileDefine src number s
  | .profileUndefine src number => Sys2Proof.Machine.execProfileUndefine src number s
  | .lnkCmdRelease src unit number lane => Sys2Proof.Machine.execLnkCmdRelease src unit number lane s
  | .lnkCmdRetire src unit number lane => Sys2Proof.Machine.execLnkCmdRetire src unit number lane s
  | .memCmdRelease src unit stack pch => Sys2Proof.Machine.execMemCmdRelease src unit stack pch s
  | .memCmdRetire src unit stack pch => Sys2Proof.Machine.execMemCmdRetire src unit stack pch s
  | .linkDataFlit link flit => Sys2Proof.Machine.execLinkDataFlit link flit s
  | .linkNakFlit link flit => Sys2Proof.Machine.execLinkNakFlit link flit s
  | .linkCtrlFlit link ctrl => Sys2Proof.Machine.execLinkCtrlFlit link ctrl s
  | .linkIdleFlit link flit => Sys2Proof.Machine.execLinkIdleFlit link flit s
  | .linkAckTimeout link => Sys2Proof.Machine.execLinkAckTimeout link s
  | .linkRequestPacket link kind pkt => Sys2Proof.Machine.execLinkRequestPacket link kind pkt s
  | .linkResponsePacket link kind pkt => Sys2Proof.Machine.execLinkResponsePacket link kind pkt s
  | .linkLosChange link los => Sys2Proof.Machine.execLinkLosChange link los s
  | .oeFaultRise link => Sys2Proof.Machine.execOeFaultRise link s
  | .oeReadyChange link ready => Sys2Proof.Machine.execOeReadyChange link ready s
  | .fecLockLoss link => Sys2Proof.Machine.execFecLockLoss link s
  | .linkTrainDone link => Sys2Proof.Machine.execLinkTrainDone link s
  | .linkTrainTimeout link => Sys2Proof.Machine.execLinkTrainTimeout link s
  | .laneSerInterval link lane corrected lockLost => Sys2Proof.Machine.execLaneSerInterval link lane corrected lockLost s
  | .retiredLinkProbe link => Sys2Proof.Machine.execRetiredLinkProbe link s
  | .rebuildStep stack gang read => Sys2Proof.Machine.execRebuildStep stack gang read s
  | .scrubStep stack read => Sys2Proof.Machine.execScrubStep stack read s
  | .cattrip stack high => Sys2Proof.Machine.execCattrip stack high s
  | .powerSample sample => Sys2Proof.Machine.execPowerSample sample s
  | .thermalRead readings => Sys2Proof.Machine.execThermalRead readings s
  | .thermalTrip sensor reading => Sys2Proof.Machine.execThermalTrip sensor reading s
  | .tapReset => Sys2Proof.Machine.execTapReset s
  | .tapExtest => Sys2Proof.Machine.execTapExtest s
  | .tapSamplePreload => Sys2Proof.Machine.execTapSamplePreload s
  | .tapIdcode => Sys2Proof.Machine.execTapIdcode s
  | .tapClamp => Sys2Proof.Machine.execTapClamp s
  | .tapHighz => Sys2Proof.Machine.execTapHighz s
  | .tapIjtag segs run seen => Sys2Proof.Machine.execTapIjtag s segs run seen
  | .tapBypass => Sys2Proof.Machine.execTapBypass s
  | .waitTimeout x => Sys2Proof.Machine.execWaitTimeout x s
  | .lgrPgARead src => Sys2Proof.Machine.execLgrPgARead src s
  | .stackInterfaceRetrain stack ok => Sys2Proof.Machine.execStackInterfaceRetrain stack ok s
  | .loadCheckComplete kind number => Sys2Proof.Machine.execLoadCheckComplete kind number s
  | .coreRailLoss => Sys2Proof.Machine.execCoreRailLoss s

end Sys2Proof.Machine
end

