-- ==== Sys2Proof/Machine/Step.lean ====
section
/-! DEFINITION. One step: the command at the front of the queue, or 1 µs of the time base where none waits (log 44). -/
namespace Sys2Proof.Machine
open Sys2Proof

/-- The command at the front of the queue acts; with no command the time base moves on by 1 µs. -/
def step (s : State) : Host.Outcome State Fault Refusal :=
  match s.pending with
  | [] => .next { s with blk := s.blk.idle }
  | c :: rest => exec c { s with pending := rest }

/-- A word of the table put at the front of the queue as its command; the table gives no row bits, so nothing changes. -/
def State.withFetchWord (s : State) (nbits w : Nat) : State :=
  match decodeTableWord nbits w with
  | none => s
  | some c => { s with pending := c :: s.pending }

end Sys2Proof.Machine
end

