-- ==== Sys2Proof/Machine/Pins.lean ====
section
/-! DEFINITION. The output pins that show the block's state (R408, R414, R439, R477, R478). -/
namespace Sys2Proof.Machine
open Sys2Proof

/-- mgta_irq and mgtb_irq (R414): an unmasked cause is set. -/
def Block.irqA (b : Block) : Bool := b.fget F.MGT_CAUSE_A_CAUSE &&& b.fget F.MGT_MASK_A_MASK != 0
def Block.irqB (b : Block) : Bool := b.fget F.MGT_CAUSE_B_CAUSE &&& b.fget F.MGT_MASK_B_MASK != 0

/-- avs_trip_n: low from a thermal trip to the next start (R478). -/
def Block.avsTripN (b : Block) : Bool := !b.pw.tripped

/-- Bit i of lnkNN_txdis: the lane is retired, or the block has tripped (R439, R478). -/
def Block.txdis (b : Block) (link lane : Nat) : Bool := b.pw.tripped || (tgetD b.io.lanesRetired link 0).testBit lane

/-- stemN_tx_en: the block's side of the port is up; a retired port holds it low (R408). -/
def Block.stemTxEn (b : Block) (port : Nat) : Bool := b.alive && !(b.stemAt port).retired

/-- memNN_rst_n: held low for a stack that its temperature has retired (R477). -/
def Block.memRstN (b : Block) (stack : Nat) : Bool := !((b.stackAt stack).retired && (b.stackAt stack).cattrip)

end Sys2Proof.Machine
end

