-- ==== Sys2Proof/Safety.lean ====
section
/-! DEFINITION. What the statements speak of: the canonical form of memories and tables, a step that completes, and what a command leaves
unchanged. -/
namespace Sys2Proof.Machine
open Sys2Proof

/-- Addresses rising from a bound on, and no entry 0x00: the one form of a memory (log 4). -/
def Memory.wfFrom : Nat → Memory → Bool
  | _, [] => true
  | n, (a, x) :: r => decide (n ≤ a) && x != 0 && Memory.wfFrom (a + 1) r

/-- The canonical form of a memory. -/
def Memory.wf (m : Memory) : Bool := Memory.wfFrom 0 m

/-- Keys rising from a bound on. -/
def Tbl.wfFrom {α : Type} : Nat → Tbl α → Bool
  | _, [] => true
  | n, (k, _) :: r => decide (n ≤ k) && Tbl.wfFrom (k + 1) r

/-- The canonical form of a sparse table. -/
def Tbl.wf {α : Type} (t : Tbl α) : Bool := Tbl.wfFrom 0 t

/-- Every memory of the block is in its canonical form. -/
def Mem.wf (m : Mem) : Bool := Memory.wf m.stack && Memory.wf m.die && Memory.wf m.slices && Memory.wf m.keep

/-- A step answers a next state: the safe outcome. -/
def State.goesOn (s : State) : Prop := ∃ t, step s = .next t

/-- A command's effect in a state that gives a next state: the block after it. -/
def effect (c : Instr) (s : State) : Block :=
  match exec c s with
  | .next t => t.blk
  | _ => s.blk

/-- A command answers the next state whose block is the one given, the queue as it was. -/
def Does (c : Instr) (s : State) (b : Block) : Prop := exec c s = .next { s with blk := b }

/-- An executor issues an instruction (R338, R341): the block operates and is in RUN, the executor is not halted and waits for nothing, its
kernel's header holds, the encoding is one of the instruction, the guard holds. -/
structure Issues (b : Block) (x : ExecId) (w : NsiBody) (enc : Bool) : Prop where
  alive : b.alive = true
  run : b.run? = true
  ready : (b.ex x).ready = true
  kernel : ((b.ex x).item.isSome && (b.ex x).code == 0) = false
  enc : enc = true
  guard : guardOn (b.ex x) w = true

/-- A register write passes the tests of R417: the register exists, takes writes now, and no test fails. -/
def Block.accepts (b : Block) (src : RegSrc) (off : Nat) (v : Word) (busy : Bool) : Prop :=
  ∃ r, findReg off = some r ∧ (b.run? || ownRules off) = true ∧ b.regTest src r off v busy = 0

/-- The block once a register write stands: every field by its class, and the response OK. -/
def Block.written (b : Block) (src : RegSrc) (off : Nat) (v : Word) : Block :=
  match findReg off with
  | none => b
  | some r =>
    let c := r.fields.foldl (fun c f => c.putField off v f) b
    (if off = 0x03B0 then c.unfreeze else c).respond src 0

/-- Commands whose effect the reset pin, the supply of the core or a trip does not hold back. -/
def Instr.always : Instr → Bool
  | .resetAssert | .resetRelease | .coreRailLoss => true
  | .tapReset | .tapExtest | .tapSamplePreload | .tapIdcode | .tapClamp | .tapHighz | .tapIjtag _ _ _ | .tapBypass => true
  | _ => false

/-- A block that does not operate, is b but for its clock, and has no reset, supply or test port command waiting. -/
def InertAs (b : Block) (s : State) : Prop :=
  s.blk.alive = false ∧ { s.blk with clk := b.clk } = b ∧ ∀ c ∈ s.pending, Instr.always c = false

/-- The tile descriptors named lie in the slice (R241), their fetches came without error, no acquire is outstanding and no fetch of theirs is
made again (R349, R352). -/
def TilesReady (b : Block) (x : ExecId) (regs : List Nat) : Prop :=
  let e := b.ex x
  e.acquiring = false ∧ b.refetching (xkey x) (e.poppedIds (regs.map (fun n => (e.td n).1))) = false ∧
    ∀ n ∈ regs, (e.td n).2 = false ∧ tdOk (e.td n).1 = true

/-- The scalar instructions that only write a register of the executor, each with its encoding check (R343). -/
def scalarOps (x : ExecId) (w : NsiBody) (ext : BitVec 64) : List (Instr × Bool) :=
  let a := scalarEnc w false false false
  let c := scalarEnc w true false true
  let p := scalarEnc w false false true
  [(.nsiNop x w ext, a), (.nsiAdd x w ext, a), (.nsiSub x w ext, a), (.nsiAnd x w ext, a), (.nsiOr x w ext, a), (.nsiXor x w ext, a),
   (.nsiShl x w ext, a), (.nsiShr x w ext, a), (.nsiSra x w ext, a), (.nsiMul x w ext, a), (.nsiMulhu x w ext, a), (.nsiMin x w ext, a),
   (.nsiMax x w ext, a), (.nsiMinu x w ext, a), (.nsiMaxu x w ext, a),
   (.nsiBext x w ext, scalarEnc w false true false && decide (nfImm w < 4096)), (.nsiLi x w ext, scalarEnc w true true false),
   (.nsiCeq x w ext, c), (.nsiCne x w ext, c), (.nsiClt x w ext, c), (.nsiCltu x w ext, c), (.nsiCle x w ext, c), (.nsiCleu x w ext, c),
   (.nsiPand x w ext, p), (.nsiPor x w ext, p), (.nsiPnot x w ext, p)]

/-- The instructions of a Pip that write its slice: the vector instructions and ACCST (R352). -/
def sliceOps (x : ExecId) (w : NsiBody) (ext : BitVec 64) : List Instr :=
  [.nsiVadd x w ext, .nsiVsub x w ext, .nsiVmul x w ext, .nsiVfma x w ext, .nsiVdiv x w ext, .nsiVsqrt x w ext, .nsiVmax x w ext,
   .nsiVmin x w ext, .nsiVsum x w ext, .nsiVrmax x w ext, .nsiVdot x w ext, .nsiVexp x w ext, .nsiVlog x w ext, .nsiVrsqrt x w ext,
   .nsiVtanh x w ext, .nsiVsig x w ext, .nsiVerf x w ext, .nsiVcvt x w ext, .nsiVcopy x w ext, .nsiVadds x w ext, .nsiVmuls x w ext,
   .nsiAccst x w ext]

/-- Node j of a tree is an ancestor of node i: i's parent, or an ancestor of it (R217). 0xFF is the root, which is no node. -/
inductive Ancestor (l : List Node) : Nat → Nat → Prop
  | parent {i : Nat} {n : Node} (h : l[i]? = some n) (hp : n.parent ≠ 0xFF) : Ancestor l n.parent i
  | above {i j : Nat} {n : Node} (h : l[i]? = some n) (hp : n.parent ≠ 0xFF) (ha : Ancestor l j n.parent) : Ancestor l j i

/-- The addresses of PROGRESS_US of the contexts an item runs on: its model's and its adapters' (R274, R289). -/
def Block.progressAt (b : Block) (item : Option Nat) : List Nat :=
  match item.bind (fun i => b.cp.items.find? (fun t => t.id == i)) with
  | none => []
  | some t =>
    let m := b.fget F.MDL_CAT_BASE_BASE + 128 * t.model + 40
    m :: ((b.wr0 m (leBytes 8 b.clk.timeUs)).adaptersFor t.entry t.model).map (fun a => b.fget F.MDL_ADP_BASE_BASE + 64 * a + 40)

end Sys2Proof.Machine
end

