-- ==== Sys2Proof/Certificates/Slice0/Obligations.lean ====
section
/-! DEFINITION. The statements about this block: each says what a command or the machine does, by the rules its docstring names. -/
open Sys2Proof Sys2Proof.Machine

/-- A step runs the command at the front of the queue. For every command c and state s, step of s with c put at the front of its queue is exec c of s, the queue's rest being the queue of s. (00_scope.md) -/
def Obligations.StepRunsFront : Prop :=
  ∀ (c : Instr) (s : State), step { s with pending := c :: s.pending } = exec c s

/-- With no command waiting, one microsecond of the time base passes (the model's choice, log 44). A step on an empty queue answers a next state with an empty queue: a block held in reset or without its core supply is unchanged, every other block has TIME_US one higher and CYCLES higher by the frequency in MHz, and nothing else changed. That a tick of the time base is what an empty queue does is the model's choice (log 44). (16_power_and_thermal.md, 17_start_pair_lifetime.md) -/
def Obligations.EmptyQueueLetsTimePass : Prop :=
  ∀ (s : State), s.pending = [] →
    ∃ t, step s = .next t ∧ t.pending = [] ∧
      t.blk = (if s.blk.sa.inReset || s.blk.sa.railLost then s.blk
        else { s.blk with clk := { s.blk.clk with timeUs := s.blk.clk.timeUs + 1, cycles := s.blk.clk.cycles + s.blk.clk.mhz } })

/-- No command stops the machine or touches the queue. For every command and every state, exec answers a next state, never a fault or a refusal, and the queue of that state is the queue before. (95_what_each_step_holds.md) -/
def Obligations.EveryCommandCompletes : Prop :=
  ∀ (c : Instr) (s : State), ∃ t, exec c s = .next t ∧ t.pending = s.pending

/-- As many steps as there are waiting commands empty the queue. From every state, running as many steps as there are waiting commands answers a next state whose queue is empty: no waiting command stops the machine, and none is put back or added. (95_what_each_step_holds.md) -/
def Obligations.QueueDrains : Prop :=
  ∀ (s : State), ∃ t : State, Host.Core.run Sys2Proof.core s.pending.length s = .next t ∧ t.pending = []

/-- A block in reset, without core supply or tripped ignores every command but reset, the supply and the test port. In a block that does not operate (held in reset, without its core supply, or stopped by a thermal trip), every command other than RESET_ASSERT, RESET_RELEASE, CORE_RAIL_LOSS and the eight test port commands answers the state unchanged. (16_power_and_thermal.md, 17_start_pair_lifetime.md) -/
def Obligations.InertBlockUnchanged : Prop :=
  ∀ (c : Instr) (s : State), s.blk.alive = false → Instr.always c = false → exec c s = .next s

/-- While no reset, supply or test port command comes, every step keeps an inert block as it is. Let a block be inert as b: it does not operate, it equals b but for its clock, and no reset, supply or test port command waits. Every step that answers a next state from such a state answers one that is inert as b: nothing is written in memory, in a register, in the request table or in any other part of the block. (16_power_and_thermal.md, 17_start_pair_lifetime.md) -/
def Obligations.InertBlockStaysInert : Prop :=
  ∀ (b : Block) (s t : State), InertAs b s → step s = .next t → InertAs b t

/-- Reset, and the loss of the core supply, make the block inert. For every block and every queue without a reset, supply or test port command, the block after RESET_ASSERT, and the block after CORE_RAIL_LOSS, is inert as itself with that queue. (17_start_pair_lifetime.md) -/
def Obligations.ResetMakesInert : Prop :=
  ∀ (s : State) (q : List Instr), (∀ c ∈ q, Instr.always c = false) →
    InertAs (effect .resetAssert s) { pending := q, blk := effect .resetAssert s } ∧
    InertAs (effect .coreRailLoss s) { pending := q, blk := effect .coreRailLoss s }

/-- What reset and the loss of the core supply leave. RESET_ASSERT leaves the reset block held in reset, with STAGE 0, its key store, its Keep regions and the test port's instruction as they were. RESET_RELEASE of a block held in reset or without supply leaves the reset block in stage WAIT (1) with the key store shown and kept, the Keep regions and the test port kept; it changes nothing in any other block. CORE_RAIL_LOSS leaves the reset block without supply, with STAGE 0, its key store and its Keep regions. (17_start_pair_lifetime.md) -/
def Obligations.ResetsKeepKeyStoreAndKeep : Prop :=
  ∀ (s : State), let b := s.blk
    let r := Block.reset b.sa.key b.mem.keep
    Does .resetAssert s { (r.fset F.STA_STAT_STAGE 0) with sa := { Start.reset b.sa.key with inReset := true }, tap := b.tap, net := b.net } ∧
    (b.sa.inReset = true ∨ b.sa.railLost = true →
      Does .resetRelease s { (r.showKeys.fset F.STA_STAT_STAGE 1) with tap := b.tap, net := b.net }) ∧
    (b.sa.inReset = false → b.sa.railLost = false → exec .resetRelease s = .next s) ∧
    Does .coreRailLoss s { (r.fset F.STA_STAT_STAGE 0) with sa := { Start.reset b.sa.key with railLost := true } }

/-- What was in the block before a reset cannot be told after it. Two blocks with the same key store, Keep regions and test port instruction are the same block after RESET_ASSERT, and the same block after RESET_ASSERT and RESET_RELEASE, whatever else they held. (17_start_pair_lifetime.md) -/
def Obligations.ResetForgets : Prop :=
  ∀ (s t : State), s.blk.sa.key = t.blk.sa.key → s.blk.mem.keep = t.blk.mem.keep → s.blk.tap = t.blk.tap → s.blk.net = t.blk.net →
    effect .resetAssert s = effect .resetAssert t ∧
    effect .resetRelease { s with blk := effect .resetAssert s } = effect .resetRelease { t with blk := effect .resetAssert t }

/-- The machine right after reset. Right after reset no command waits, STAGE is WAIT (1), both interrupt masks read 0xFFFFF, every semaphore is free, no request table entry leaves FREE, TIME_US is 0, the test port holds IDCODE (2), and every memory is in its canonical form. (14_stem_and_management_ports.md, 17_start_pair_lifetime.md, 18_register_summary.md) -/
def Obligations.ResetState : Prop :=
  State.reset.pending = [] ∧ State.reset.blk.fget F.STA_STAT_STAGE = 1 ∧
    State.reset.blk.fget F.MGT_MASK_A_MASK = 0xFFFFF ∧ State.reset.blk.fget F.MGT_MASK_B_MASK = 0xFFFFF ∧
    (∀ n, (State.reset.blk.semAt n).holder = 0) ∧ State.reset.blk.live = [] ∧ State.reset.blk.clk.timeUs = 0 ∧
    State.reset.blk.tap = 2 ∧ State.reset.blk.mem.wf = true

/-- Every test port command loads its instruction and changes nothing else. In every state, whether or not the block operates, TAP_RESET and TAP_IDCODE load 0x02, TAP_EXTEST 0x00, TAP_SAMPLE_PRELOAD 0x01, TAP_CLAMP 0x03, TAP_HIGHZ 0x04, TAP_IJTAG 0x10 and TAP_BYPASS 0xFF into the test port's instruction register. TAP_RESET also leaves no segment of the network inserted and nothing shifted out of it, and TAP_IJTAG inserts the segments named, runs the self-test only where its segment is inserted in a block held in reset, and shifts out the segments inserted that may be read: in a block that is not held in reset never the self-test nor the sequencer dump. Everything else stays. The codes 0x00, 0x01, 0x02 and 0x10 select the boundary, boundary, identification and network registers, and every other code the bypass register, in a block held in reset. (18_register_summary.md) -/
def Obligations.TestPortLoads : Prop :=
  ∀ (s : State),
    Does .tapReset s { s.blk with tap := 0x02, net := { s.blk.net with segs := [], out := [] } } ∧ Does .tapExtest s { s.blk with tap := 0x00 } ∧
    Does .tapSamplePreload s { s.blk with tap := 0x01 } ∧ Does .tapIdcode s { s.blk with tap := 0x02 } ∧
    Does .tapClamp s { s.blk with tap := 0x03 } ∧ Does .tapHighz s { s.blk with tap := 0x04 } ∧
    Does .tapBypass s { s.blk with tap := 0xFF } ∧
    (∀ segs run seen, ∃ net : TapNet, Does (.tapIjtag segs run seen) s { s.blk with tap := 0x10, net := net } ∧ net.segs = segs ∧
      (∀ i, i ∈ net.out.map (·.1) ↔ i ∈ segs ∧ (s.blk.sa.inReset = true ∨ i = .thermal ∨ i = .monitors ∨ i = .margin)) ∧
      (s.blk.sa.inReset = false ∨ run = false ∨ Instrument.selfTest ∉ segs → net.test = s.blk.net.test) ∧
      (∀ l, (.seqDump, l) ∈ net.out → l = s.blk.seqDump)) ∧
    (s.blk.sa.inReset = true → s.blk.tapReg =
      (if s.blk.tap = 0 ∨ s.blk.tap = 1 then .boundary else if s.blk.tap = 2 then .idcode
        else if s.blk.tap = 0x10 then .network else .bypass))

/-- While tick_rst_n is high the test port drives no output. In a block that is not held in reset, the test port drives no output whatever its instruction register holds, and EXTEST, CLAMP and HIGHZ select the bypass register. (18_register_summary.md) -/
def Obligations.TestPortCannotDrive : Prop :=
  ∀ (b : Block), b.sa.inReset = false → b.tapDrives = false ∧ (b.tap = 0 ∨ b.tap = 3 ∨ b.tap = 4 → b.tapReg = .bypass)

/-- ADD, SUB, AND, OR, XOR, MUL and MULHU. Where an executor issues the instruction, each writes rd with its result on ra and op2, modulo 2^64 (MULHU: the high 64 bits of the unsigned product), and the program counter moves past it; nothing else changes but PROGRESS_US of the contexts of the executor's item. (12_nsi_instruction_set.md) -/
def Obligations.ScalarArithmetic : Prop :=
  ∀ (x : ExecId) (w : NsiBody) (ext : BitVec 64) (s : State), Issues s.blk x w (scalarEnc w false false false) →
    let e := s.blk.ex x
    let a := e.rs (nfRA w)
    let c := nfOp2 e w ext
    Does (.nsiAdd x w ext) s (s.blk.done x w (e.ws (nfRD w) (a + c))) ∧
    Does (.nsiSub x w ext) s (s.blk.done x w (e.ws (nfRD w) (a - c))) ∧
    Does (.nsiAnd x w ext) s (s.blk.done x w (e.ws (nfRD w) (a &&& c))) ∧
    Does (.nsiOr x w ext) s (s.blk.done x w (e.ws (nfRD w) (a ||| c))) ∧
    Does (.nsiXor x w ext) s (s.blk.done x w (e.ws (nfRD w) (a ^^^ c))) ∧
    Does (.nsiMul x w ext) s (s.blk.done x w (e.ws (nfRD w) (a * c))) ∧
    Does (.nsiMulhu x w ext) s (s.blk.done x w (e.ws (nfRD w) (BitVec.ofNat 64 (a.toNat * c.toNat / 2 ^ 64))))

/-- SHL, SHR, SRA, MIN, MAX, MINU, MAXU, BEXT and LI. Where an executor issues the instruction, the shifts take their amount modulo 64, MIN and MAX compare signed and MINU and MAXU unsigned, BEXT takes IMM[11:6] + 1 bits of ra from bit IMM[5:0] (IMM[31:12] must be 0), and LI takes the immediate or the extension word; rd takes the result and the program counter moves past the instruction. (12_nsi_instruction_set.md) -/
def Obligations.ScalarShiftsAndExtrema : Prop :=
  ∀ (x : ExecId) (w : NsiBody) (ext : BitVec 64) (s : State), let e := s.blk.ex x
    let a := e.rs (nfRA w)
    let c := nfOp2 e w ext
    (Issues s.blk x w (scalarEnc w false false false) →
      Does (.nsiShl x w ext) s (s.blk.done x w (e.ws (nfRD w) (a <<< (c.toNat % 64)))) ∧
      Does (.nsiShr x w ext) s (s.blk.done x w (e.ws (nfRD w) (a >>> (c.toNat % 64)))) ∧
      Does (.nsiSra x w ext) s (s.blk.done x w (e.ws (nfRD w) (a.sshiftRight (c.toNat % 64)))) ∧
      Does (.nsiMin x w ext) s (s.blk.done x w (e.ws (nfRD w) (if a.slt c then a else c))) ∧
      Does (.nsiMax x w ext) s (s.blk.done x w (e.ws (nfRD w) (if a.slt c then c else a))) ∧
      Does (.nsiMinu x w ext) s (s.blk.done x w (e.ws (nfRD w) (if a.ult c then a else c))) ∧
      Does (.nsiMaxu x w ext) s (s.blk.done x w (e.ws (nfRD w) (if a.ult c then c else a)))) ∧
    (Issues s.blk x w (scalarEnc w false true false && decide (nfImm w < 4096)) →
      Does (.nsiBext x w ext) s (s.blk.done x w (e.ws (nfRD w)
        (BitVec.ofNat 64 (a.toNat / 2 ^ (nfImm w % 64) % 2 ^ (nfImm w / 64 % 64 + 1)))))) ∧
    (Issues s.blk x w (scalarEnc w true true false) → Does (.nsiLi x w ext) s (s.blk.done x w (e.ws (nfRD w) c)))

/-- CEQ, CNE, CLT, CLTU, CLE, CLEU, PAND, POR and PNOT. Where an executor issues the instruction, a comparison of ra with op2 (the U forms unsigned) is written to the destination predicate, and PAND, POR and PNOT write the conjunction, the disjunction and the negation of their source predicates; the program counter moves past the instruction. (12_nsi_instruction_set.md) -/
def Obligations.ComparesAndPredicates : Prop :=
  ∀ (x : ExecId) (w : NsiBody) (ext : BitVec 64) (s : State), let e := s.blk.ex x
    let a := e.rs (nfRA w)
    let c := nfOp2 e w ext
    let p := e.rp (nf w 20 3)
    let q := e.rp (nf w 25 3)
    (Issues s.blk x w (scalarEnc w true false true) →
      Does (.nsiCeq x w ext) s (s.blk.done x w (e.wp (nf w 15 3) (a == c))) ∧
      Does (.nsiCne x w ext) s (s.blk.done x w (e.wp (nf w 15 3) (a != c))) ∧
      Does (.nsiClt x w ext) s (s.blk.done x w (e.wp (nf w 15 3) (a.slt c))) ∧
      Does (.nsiCltu x w ext) s (s.blk.done x w (e.wp (nf w 15 3) (a.ult c))) ∧
      Does (.nsiCle x w ext) s (s.blk.done x w (e.wp (nf w 15 3) (a.sle c))) ∧
      Does (.nsiCleu x w ext) s (s.blk.done x w (e.wp (nf w 15 3) (a.ule c)))) ∧
    (Issues s.blk x w (scalarEnc w false false true) →
      Does (.nsiPand x w ext) s (s.blk.done x w (e.wp (nf w 15 3) (p && q))) ∧
      Does (.nsiPor x w ext) s (s.blk.done x w (e.wp (nf w 15 3) (p || q))) ∧
      Does (.nsiPnot x w ext) s (s.blk.done x w (e.wp (nf w 15 3) (!p))))

/-- NOP, BR, BRR, CALL, RET, END, CSRR and CSRW. Where an executor issues the instruction: NOP moves the program counter past it; BR and CALL go to the address IMM words from their own, BRR to s[RA] and RET to s31, where that address lies in the instruction store or in the kernel's CODE_BYTES, and CALL writes the return address to s31; a target outside raises ADDR with nothing else done; END halts a Pip or Picker; CSRR reads a defined control register into rd; CSRW writes s[RA] to one of the eight scratch registers, and an undefined register read, or any other register written, raises ILLEGAL. (12_nsi_instruction_set.md) -/
def Obligations.JumpsAndControl : Prop :=
  ∀ (x : ExecId) (w : NsiBody) (ext : BitVec 64) (s : State), let e := s.blk.ex x
    let b := s.blk
    let store : Int := if isSeq x then 65536 else e.code
    let at_ : Int := (e.pc : Int) + 8 * (sext32 (nfImm w)).toInt
    let ra := e.rs (nfRA w)
    let jump := fun (e' : Exec) (t : Int) => (b.setEx x { e' with pc := t.toNat }).noteProgress e.item
    (Issues b x w (scalarEnc w false false false) →
      Does (.nsiNop x w ext) s (b.done x w e) ∧
      ((ra.toNat : Int) < store → Does (.nsiBrr x w ext) s (jump e ra.toNat)) ∧
      (store ≤ (ra.toNat : Int) → Does (.nsiBrr x w ext) s (b.raise x w 7 0)) ∧
      (((e.rs 31).toNat : Int) < store → Does (.nsiRet x w ext) s (jump e (e.rs 31).toNat)) ∧
      (store ≤ ((e.rs 31).toNat : Int) → Does (.nsiRet x w ext) s (b.raise x w 7 0)) ∧
      (isSeq x = false → let c := (b.setEx x { e with pc := e.pc + nfLen w, halted := true }).noteProgress e.item
        Does (.nsiEnd x w ext) s (if e.item = none then c.dispatchItems else c))) ∧
    (Issues b x w (scalarEnc w false true false) →
      (0 ≤ at_ → at_ < store → Does (.nsiBr x w ext) s (jump e at_) ∧
        Does (.nsiCall x w ext) s (jump { e with s := tset e.s 31 (BitVec.ofNat 64 (e.pc + 8)) } at_)) ∧
      (at_ < 0 ∨ store ≤ at_ → Does (.nsiBr x w ext) s (b.raise x w 7 0) ∧ Does (.nsiCall x w ext) s (b.raise x w 7 0)) ∧
      (∀ v, b.csr x (nfImm w) = some v → Does (.nsiCsrr x w ext) s (b.done x w (e.ws (nfRD w) v))) ∧
      (b.csr x (nfImm w) = none → Does (.nsiCsrr x w ext) s (b.raise x w 1 0)) ∧
      (0x10 ≤ nfImm w → nfImm w ≤ 0x17 →
        Does (.nsiCsrw x w ext) s (b.done x w { e with scratch := tset e.scratch (nfImm w - 0x10) ra })) ∧
      (nfImm w < 0x10 ∨ 0x17 < nfImm w → Does (.nsiCsrw x w ext) s (b.raise x w 1 0)))

/-- Exceptions of a sequencer, TRAP and RFT. On a sequencer past the first tick boundary: an exception with TRAP_ACTIVE 0 saves its code, the faulting instruction's address and the detail word in CAUSE, EPC and EINFO, sets TRAP_ACTIVE and goes to byte 0x0100. TRAP raises code 8 so, with its immediate as detail. RFT clears TRAP_ACTIVE and resumes at the instruction after the faulting one. An exception with TRAP_ACTIVE 1 restarts the sequencer, as long as the tick's restarts stay within HALT_MAX: every register is cleared, the program counter is 0, posted operations, text unit jobs and items stand, RESTARTS is one higher and both management ports have the report's cause bit. (R346) -/
def Obligations.SequencerExceptions : Prop :=
  ∀ (n : Fin 8) (w : NsiBody) (code info : Nat) (b : Block), b.clk.ticking = true →
    let e := b.ex (.seq n)
    let c := b.raise (.seq n) w code info
    (e.trap = false → c.ex (.seq n) =
      { e with cause := code, epc := e.pc, einfo := info, trap := true, resume := e.pc + nfLen w, pc := 0x100 }) ∧
    (e.trap = true → e.restarts < b.fget F.TICK_SEQ_CTRL_HALT_MAX →
      c.ex (.seq n) = { Exec.clear with posted := e.posted, rmErr := e.rmErr, restarts := e.restarts + 1 } ∧
      c.cp = b.cp ∧
      c.fget (F.TICK_SEQ_STAT_RESTARTS.at n) =
        min (b.fget (F.TICK_SEQ_STAT_RESTARTS.at n) + 1) (2 ^ F.TICK_SEQ_STAT_RESTARTS.wid - 1) ∧
      (c.fget F.MGT_CAUSE_A_CAUSE).testBit 0 = true ∧ (c.fget F.MGT_CAUSE_B_CAUSE).testBit 0 = true) ∧
    (∀ (ext : BitVec 64) (s : State), s.blk = b → Issues b (.seq n) w (scalarEnc w false true false) →
      Does (.nsiTrap (.seq n) w ext) s (b.raise (.seq n) w 8 (sext32 (nfImm w)).toNat)) ∧
    (∀ (ext : BitVec 64) (s : State), s.blk = b → Issues b (.seq n) w (scalarEnc w false false false) → e.trap = true →
      Does (.nsiRft (.seq n) w ext) s ((b.setEx (.seq n) { e with trap := false, pc := e.resume }).fset (F.TICK_SEQ_STAT_STATE.at n) 0))

/-- The guard and the encoding checks of every instruction. For every instruction an executor issues, whatever its encoding checks enc, its class check has and its effect: with enc false it raises ILLEGAL, whether or not the guard holds; with enc true and p[PG] XOR PN equal to 0 it only moves the program counter past itself, and raises nothing even where the executor lacks its class; with the guard on it has its effect, or raises ILLEGAL where the executor lacks its class. With PG 0 and PN 0 the guard is on. (R341) -/
def Obligations.GuardsAndEncodings : Prop :=
  ∀ (b : Block) (x : ExecId) (w : NsiBody) (enc has : Bool) (run : Exec → Block), b.run? = true → (b.ex x).ready = true →
    ((b.ex x).item.isSome && (b.ex x).code == 0) = false →
    let e := b.ex x
    let on := (e.rp (nf w 11 3)) != (nf w 14 1 == 1)
    (enc = false → b.issue x w enc has run = b.raise x w 1 0) ∧
    (enc = true → on = false → b.issue x w enc has run = b.setEx x { e with pc := e.pc + nfLen w }) ∧
    (enc = true → on = true → has = true → b.issue x w enc has run = run e) ∧
    (enc = true → on = true → has = false → b.issue x w enc has run = b.raise x w 1 0) ∧
    (nf w 11 3 = 0 → nf w 14 1 = 0 → on = true)

/-- s0 reads 0 and p0 reads 1; writes to them are ignored, and other registers read back what was written. In every register file, s0 reads 0 and p0 reads 1, and a write of either leaves the registers as they are; a scalar register written other than s0 reads back its value, and every other scalar register reads as before. (12_nsi_instruction_set.md) -/
def Obligations.HardwiredRegisters : Prop :=
  ∀ (e : Exec) (v : Word) (p : Bool), e.rs 0 = 0 ∧ e.rp 0 = true ∧ e.ws 0 v = e ∧ e.wp 0 p = e ∧
    ∀ (n m : Nat), n ≠ 0 → (e.ws n v).rs n = v ∧ (m ≠ n → (e.ws n v).rs m = e.rs m)

/-- A scalar instruction that completes changes its own executor and nothing of any other. Where an executor issues a NOP, scalar arithmetic, comparison or predicate instruction with its encoding and guard holding: the next state has every other executor's registers, this executor's accumulators, tile descriptors, queues, popped tokens and scratch registers, every register of space 4, the request table, the semaphores and responses, the clock, the ports, the objects, the store, the banks, the slices and the Keep regions as before, and every byte of stack memory outside the PROGRESS_US fields of the contexts its item runs on. (12_nsi_instruction_set.md) -/
def Obligations.ScalarFrame : Prop :=
  ∀ (x : ExecId) (w : NsiBody) (ext : BitVec 64) (s t : State) (p : Instr × Bool), p ∈ scalarOps x w ext →
    Issues s.blk x w p.2 → exec p.1 s = .next t →
    (∀ y, y ≠ x → t.blk.ex y = s.blk.ex y) ∧
    (t.blk.ex x).acc = (s.blk.ex x).acc ∧ (t.blk.ex x).t = (s.blk.ex x).t ∧ (t.blk.ex x).q = (s.blk.ex x).q ∧
    (t.blk.ex x).popped = (s.blk.ex x).popped ∧ (t.blk.ex x).scratch = (s.blk.ex x).scratch ∧
    t.blk.regs = s.blk.regs ∧ t.blk.rq = s.blk.rq ∧ t.blk.mgt = s.blk.mgt ∧ t.blk.clk = s.blk.clk ∧ t.blk.cp = s.blk.cp ∧
    t.blk.io = s.blk.io ∧ t.blk.ob = s.blk.ob ∧ t.blk.st = s.blk.st ∧ t.blk.mem.die = s.blk.mem.die ∧
    t.blk.mem.slices = s.blk.mem.slices ∧ t.blk.mem.keep = s.blk.mem.keep ∧
    (Memory.wf s.blk.mem.stack = true → ∀ a, (∀ q ∈ s.blk.progressAt (s.blk.ex x).item, a < q ∨ q + 8 ≤ a) →
      mrd t.blk.mem.stack a = mrd s.blk.mem.stack a)

/-- TLD, TMV, QPOP, QREL and ACCZ. On a Pip that issues the instruction: TLD puts a scalar or the extension word into a descriptor register with ERR 0; TMV moves a descriptor to a scalar; QPOP moves the head token of a queue that is not empty into a descriptor register, with the token's ERR, and to the queue's popped tokens; QREL releases the oldest popped token, and raises QUEUE where there is none; ACCZ sets one accumulator to +0 and leaves the others. The program counter moves past the instruction. (12_nsi_instruction_set.md, 08_pip_arithmetic.md) -/
def Obligations.TileQueues : Prop :=
  ∀ (x : ExecId) (w : NsiBody) (ext : BitVec 64) (s : State), isPip x = true →
    let e := s.blk.ex x
    let b := s.blk
    (Issues b x w (tileEnc w true) →
      Does (.nsiTld x w ext) s (b.done x w { e with t := tset e.t (tTD w) (if nfX w then ext else e.rs (tRS w), false), reissue := none })) ∧
    (Issues b x w (tileEnc w false) →
      Does (.nsiTmv x w ext) s (b.done x w { (e.ws (tRS w) (e.td (tTD w)).1) with reissue := none }) ∧
      Does (.nsiAccz x w ext) s (b.done x w { e with acc := e.acc.filter (fun p => p.1 / 4096 != tACC w), reissue := none }) ∧
      (∀ k rest, tgetD e.q (tQ w) [] = k :: rest →
        Does (.nsiQpop x w ext) s (b.done x w { e with
          q := tset e.q (tQ w) rest
          popped := tset e.popped (tQ w) (tgetD e.popped (tQ w) [] ++ [k])
          t := tset e.t (tTD w) (k.desc, k.err)
          reissue := none })) ∧
      (∀ k rest, tgetD e.popped (tQ w) [] = k :: rest →
        Does (.nsiQrel x w ext) s ((b.done x w { e with popped := tset e.popped (tQ w) rest, reissue := none }).releaseToken x k.fetch)) ∧
      (tgetD e.popped (tQ w) [] = [] → Does (.nsiQrel x w ext) s (b.raise x w 5 0)))

/-- MMA, ACCST and ACCLD. On a Pip that issues the instruction with no acquire outstanding and its tiles fetched without error: MMA on operands in range, of an accepted pair of formats, of equal KBLK and of at most 64 rows, with no check failing, pops its queued operands and puts its result into the accumulator; ACCST of a tile in range of at most two blocks a row and 64 rows writes each row of the accumulator, as it is for FP32 and converted for every other format; ACCLD of such a tile in FP32 or BF16 loads each element into the accumulator exactly. (12_nsi_instruction_set.md, 08_pip_arithmetic.md) -/
def Obligations.TileMatrix : Prop :=
  ∀ (x : ExecId) (w : NsiBody) (ext : BitVec 64) (s : State), isPip x = true → Issues s.blk x w (tileEnc w false) →
    let e := s.blk.ex x
    let b := s.blk
    let d := (e.td (tTD w)).1
    let acc := fun (r : Nat) => (List.range (32 * tdKblk d)).map (fun c => e.accAt (tACC w) r c)
    let cells := (List.range (tdRows d)).flatMap (fun r => (List.range (32 * tdKblk d)).map (fun c => (r, c)))
    (∀ a c ids e', (tAQ w = true → tTA w < 8) → (tBQ w = true → tTB w < 8) → e.mmaOps w = some ((a, false), (c, false), ids, e') →
      e.acquiring = false → b.refetching (xkey x) ids = false → tdOk a = true → tdOk c = true →
      mmaPair (tdFmt a) (tdFmt c) = true → tdKblk a = tdKblk c → tdRows a ≤ 64 → tdRows c ≤ 64 →
      Does (.nsiMma x w ext false) s ((b.done x w { e' with reissue := none }).mmaRun x e a c (tACC w) (tZ w))) ∧
    (TilesReady b x [tTD w] → tdKblk d ≤ 2 → tdRows d ≤ 64 →
      Does (.nsiAccst x w ext) s ((List.range (tdRows d)).foldl (fun b r =>
        if tdFmt d = 0 then b.putRaw (sliceBase x) d r ((acc r).map (·.toNat)) else b.putRow (sliceBase x) d r ((acc r).map dec32))
        (b.done x w { e with reissue := none })) ∧
      (tdFmt d ≤ 1 → Does (.nsiAccld x w ext) s (b.done x w { e with
        acc := cells.foldl (fun t p =>
          let raw := tileRaw b.mem.slices (sliceBase x) d p.1 p.2
          tset t (accKey (tACC w) p.1 p.2) (BitVec.ofNat 32 (if tdFmt d = 0 then raw else raw * 65536))) e.acc
        reissue := none })))

/-- The matrix unit accepts the format pairs of the manual and refuses every other pair with FMT. The accepted pairs of operand formats are those of MXFP8, MXFP6 and MXFP4 with one another, MXINT8 with itself, INT8 with itself and BF16 with itself (FP32 0, BF16 1, E4M3 2, E5M2 3, E3M2 4, E2M3 5, E2M1 6, MXINT8 7, INT8 8). MMA with operands in range and any other pair raises FMT. (08_pip_arithmetic.md) -/
def Obligations.MatrixFormats : Prop :=
  (∀ a c, a ≤ 8 → c ≤ 8 → (mmaPair a c = true ↔ (2 ≤ a ∧ a ≤ 6 ∧ 2 ≤ c ∧ c ≤ 6) ∨ (a = c ∧ (a = 1 ∨ a = 7 ∨ a = 8)))) ∧
    ∀ (x : ExecId) (w : NsiBody) (ext : BitVec 64) (s : State), isPip x = true → Issues s.blk x w (tileEnc w false) →
    ∀ a c ids e', (tAQ w = true → tTA w < 8) → (tBQ w = true → tTB w < 8) →
      (s.blk.ex x).mmaOps w = some ((a, false), (c, false), ids, e') → (s.blk.ex x).acquiring = false →
      s.blk.refetching (xkey x) ids = false → tdOk a = true → tdOk c = true → mmaPair (tdFmt a) (tdFmt c) = false →
      ∀ f, Does (.nsiMma x w ext f) s (s.blk.raise x w 2 0)

/-- VADD, VSUB, VMUL, VFMA, VDIV, VMAX and VMIN. On a Pip that issues the instruction, with its three tiles fetched without error, in range, in FP32 or BF16, of the same KBLK and ROWS (or tb of one row that serves for all): td takes row by row the operation on the elements of ta and tb (and td, for VFMA), all read from the slice before the instruction, in the executor's mode; the program counter moves past the instruction. (12_nsi_instruction_set.md, 08_pip_arithmetic.md) -/
def Obligations.VectorElementwise : Prop :=
  ∀ (x : ExecId) (w : NsiBody) (ext : BitVec 64) (s : State), isPip x = true → Issues s.blk x w (vecEnc w) →
    let e := s.blk.ex x
    let m := s.blk.mem.slices
    let g := sliceBase x
    let d := (e.td (tTD w)).1
    let p := (e.td (tTA w)).1
    let q := (e.td (tTB w)).1
    let b := s.blk.done x w { e with reissue := none }
    let out := fun (f : BitVec 32 → BitVec 32 → BitVec 32 → BitVec 32) => b.vecOut x e d 0 (fun r => (List.range (32 * tdKblk d)).map (fun i =>
      f (vElem m g p r i) (vElem m g q (if tdRows q = 1 then 0 else r) i) (vElem m g d r i)))
    TilesReady s.blk x [tTD w, tTA w, tTB w] → tdFmt d ≤ 1 → tdFmt p ≤ 1 → tdFmt q ≤ 1 → tdRows d = tdRows p → tdKblk d = tdKblk p →
    tdKblk p = tdKblk q → (tdRows p = tdRows q ∨ tdRows q = 1) →
    Does (.nsiVadd x w ext) s (out (fun a c _ => add32 a c)) ∧
    Does (.nsiVsub x w ext) s (out (fun a c _ => sub32 a c)) ∧
    Does (.nsiVmul x w ext) s (out (fun a c _ => mul32 a c)) ∧
    Does (.nsiVfma x w ext) s (out (fun a c t => fma32 a c t)) ∧
    Does (.nsiVdiv x w ext) s (out (fun a c _ => div32 a c)) ∧
    Does (.nsiVmax x w ext) s (out (fun a c _ => max32 a c)) ∧
    Does (.nsiVmin x w ext) s (out (fun a c _ => min32 a c))

/-- VADDS, VMULS, VSQRT, VEXP, VLOG, VRSQRT, VTANH, VSIG and VERF. On a Pip that issues the instruction, with its two tiles fetched without error, in range, in FP32 or BF16 and of one shape: td takes row by row the sum or product of ta with the low 32 bits of the scalar, its square root, or the named function, in the executor's mode. (12_nsi_instruction_set.md, 08_pip_arithmetic.md) -/
def Obligations.VectorScalarAndFunctions : Prop :=
  ∀ (x : ExecId) (w : NsiBody) (ext : BitVec 64) (s : State), isPip x = true → Issues s.blk x w (vecEnc w) →
    let e := s.blk.ex x
    let m := s.blk.mem.slices
    let g := sliceBase x
    let d := (e.td (tTD w)).1
    let p := (e.td (tTA w)).1
    let b := s.blk.done x w { e with reissue := none }
    let out := fun (kind : Nat) (f : BitVec 32 → BitVec 32 → BitVec 32) => b.vecOut x e d kind (fun r => (List.range (32 * tdKblk d)).map (fun i =>
      f (vElem m g p r i) ((e.rs (vRS w)).setWidth 32)))
    TilesReady s.blk x [tTD w, tTA w] → tdFmt d ≤ 1 → tdFmt p ≤ 1 → tdRows d = tdRows p → tdKblk d = tdKblk p →
    Does (.nsiVadds x w ext) s (out 0 (fun a c => add32 a c)) ∧
    Does (.nsiVmuls x w ext) s (out 0 (fun a c => mul32 a c)) ∧
    Does (.nsiVsqrt x w ext) s (out 0 (fun a _ => sqrt32 a)) ∧
    Does (.nsiVexp x w ext) s (out 1 (fun a _ => exp32 a)) ∧
    Does (.nsiVlog x w ext) s (out 1 (fun a _ => log32 a)) ∧
    Does (.nsiVrsqrt x w ext) s (out 1 (fun a _ => rsqrt32 a)) ∧
    Does (.nsiVtanh x w ext) s (out 1 (fun a _ => tanh32 a)) ∧
    Does (.nsiVsig x w ext) s (out 1 (fun a _ => sig32 a)) ∧
    Does (.nsiVerf x w ext) s (out 1 (fun a _ => erf32 a))

/-- VSUM, VRMAX, VDOT, VCVT and VCOPY. On a Pip that issues the instruction, with its tiles fetched without error and in range: VSUM, VRMAX and VDOT write the sum, the maximum or the dot product of each row of ta (and tb) into element 0 of that row of a one-block td, and +0 into elements 1 to 31; VCVT writes ta's values in td's format, counting blocks of ta with a scale of 0xFF; VCOPY copies the bytes of a tile of the same format and shape, scales included. (12_nsi_instruction_set.md, 08_pip_arithmetic.md) -/
def Obligations.VectorReductionsAndCopies : Prop :=
  ∀ (x : ExecId) (w : NsiBody) (ext : BitVec 64) (s : State), isPip x = true → Issues s.blk x w (vecEnc w) →
    let e := s.blk.ex x
    let m := s.blk.mem.slices
    let g := sliceBase x
    let d := (e.td (tTD w)).1
    let p := (e.td (tTA w)).1
    let q := (e.td (tTB w)).1
    let b := s.blk.done x w { e with reissue := none }
    let row := fun (two : Bool) (r : Nat) => (List.range (32 * tdKblk p)).map (fun i => (vElem m g p r i, if two then vElem m g q r i else 0))
    let red := fun (two : Bool) (kind : Nat) (f : List (BitVec 32 × BitVec 32) → BitVec 32) =>
      (List.range (tdRows d)).foldl (fun b r =>
        let v := b.vecMode e kind (f (row two r)) (redTerms two (row two r))
        v.2.putVec g d r (v.1 :: List.replicate 31 0)) b
    (TilesReady s.blk x [tTD w, tTA w] → tdFmt d ≤ 1 → tdFmt p ≤ 1 → tdRows d = tdRows p → tdKblk d = 1 →
      Does (.nsiVsum x w ext) s (red false 2 (fun l => sumRed (l.map (fun z => dec32 z.1)))) ∧
      Does (.nsiVrmax x w ext) s (red false 0 (fun l => (l.tail.map (·.1)).foldl max32 ((l.map (·.1)).headD 0)))) ∧
    (TilesReady s.blk x [tTD w, tTA w, tTB w] → tdFmt d ≤ 1 → tdFmt p ≤ 1 → tdFmt q ≤ 1 → tdRows d = tdRows p → tdKblk d = 1 →
      tdRows p = tdRows q → tdKblk p = tdKblk q →
      Does (.nsiVdot x w ext) s (red true 2 (fun l => sumRed (l.map (fun z => fmul (dec32 z.1) (dec32 z.2)))))) ∧
    (TilesReady s.blk x [tTD w, tTA w] → tdRows d = tdRows p → tdKblk d = tdKblk p →
      (tdFmt d ≤ 1 ∨ tdFmt p ≤ 1 →
        let n := nanScales m g p
        let c := if n = 0 then b else (b.count F.PIP_CNT_B_NAN_BLK n).evt F.PIP_EVT_NAN_SCALE
        let flush := e.fast && c.fget F.PIP_CTRL_FAST_FTZ == 1
        Does (.nsiVcvt x w ext) s ((List.range (tdRows d)).foldl (fun b r =>
          let l := (List.range (32 * tdKblk d)).map (fun i => tileVal m g p r i)
          if tdFmt d = 0 then b.putRaw g d r (l.map (fun v => (ftz flush (enc32 v)).toNat)) else b.putRow g d r l) c)) ∧
      (tdFmt d = tdFmt p →
        let m1 := (List.range (tdRows d)).foldl (fun k r =>
          mwrN k (g + tdBase d + r * tdPitch d) (mrdN m (g + tdBase p + r * tdPitch p) (tdRowBytes p))) m
        let m2 := if fmtScaled (tdFmt d) then mwrN m1 (g + tdScale d) (mrdN m (g + tdScale p) (tdRows p * tdKblk p)) else m1
        Does (.nsiVcopy x w ext) s { b with mem := { b.mem with slices := m2 } }))

/-- A Pip's vector instruction and its accumulator store write no byte outside the Pip's own slice. For every vector instruction and ACCST on a Pip, with any operands, in any mode, whether it completes, waits, is issued again or raises an exception: in the next state every byte of space 2 outside the 524,288 bytes of the Pip's own slice reads as before, and so does every byte of the banks and of the Keep regions. A tile descriptor that would reach outside the slice is refused. (08_pip_arithmetic.md, 13_remote_memory_model.md) -/
def Obligations.VectorWritesOwnSlice : Prop :=
  ∀ (x : ExecId) (w : NsiBody) (ext : BitVec 64) (s t : State) (c : Instr), isPip x = true → c ∈ sliceOps x w ext →
    Memory.wf s.blk.mem.slices = true → exec c s = .next t →
    (∀ a, a < sliceBase x ∨ sliceBase x + 524288 ≤ a → mrd t.blk.mem.slices a = mrd s.blk.mem.slices a) ∧
    t.blk.mem.die = s.blk.mem.die ∧ t.blk.mem.keep = s.blk.mem.keep

/-- FETCH, FETCHG and the arrival of a fetch's data. On a Picker that issues the instruction with a non-empty mask, aligned addresses, a descriptor in range (for FETCHG in FP32, BF16 or INT8), no acquire outstanding, fewer fetches than AHEAD and room in every queue of the mask, FETCH and FETCHG put one fetch of the operands in flight under the next number, PITCH 0 standing for the row's bytes rounded up to 64. The arrival of a fetch's data that can be read writes them to the slices of the mask's Pips, marks the fetch arrived, and pushes the tokens that are next in order. (12_nsi_instruction_set.md, 08_pip_arithmetic.md) -/
def Obligations.PickerFetches : Prop :=
  ∀ (x : ExecId) (w : NsiBody) (ext : BitVec 64) (s : State),
    let e := s.blk.ex x
    let b := s.blk
    let c := pkrCluster (xkey x)
    let d := (e.td (pkTD w)).1
    let mask := (e.rs (pkRB w)).toNat % 2 ^ 32
    let pitch := (e.rs (pkRC w)).toNat
    let put := fun (ids : Option Nat) => (({ b with rm := { b.rm with nextId := b.rm.nextId + 1 } }).done x w { e with fetches := e.fetches ++
      [({ id := b.rm.nextId, desc := d, src := (e.rs (pkRA w)).toNat, ids := ids, bank := pkBANK w,
          pitch := if pitch = 0 then cdiv (tdRowBytes d) 64 * 64 else pitch, mask := BitVec.ofNat 64 mask, queue := pkQ w,
          arrived := false, err := false, pushed := false, left := mask, again := false } : Fetch)] })
    (isPkr x = true → mask ≠ 0 → (e.rs (pkRA w)).toNat % 4 = 0 → tdOk d = true → e.acquiring = false →
      e.fetches.length < min (b.fget F.PKR_CTRL_AHEAD) 64 → (∀ p ∈ maskPips c mask, b.queueLoad c p (pkQ w) < 16) →
      (Issues b x w (pkEnc w false) → Does (.nsiFetch x w ext) s (put none)) ∧
      (Issues b x w (pkEnc w true) → ext.toNat % 4 = 0 → (tdFmt d = 0 ∨ tdFmt d = 1 ∨ tdFmt d = 8) →
        Does (.nsiFetchg x w ext) s (put (some ext.toNat)))) ∧
    (∀ (cluster picker slot : Nat) (far : List FarRead) (f : Fetch) (p : List (List Byte) × List Byte), b.alive = true → picker ≤ 1 →
      (b.exAt (10000 + cluster * 2 + picker)).fetches[slot]? = some f → f.arrived = false → f.pushed = false →
      b.fetchData (10000 + cluster * 2 + picker) f far = .ok p →
      Does (.fetchDataArrive cluster picker slot far) s
        (((b.fetchLand cluster f p.1 p.2).modFetch cluster f.id (fun _ => some { f with arrived := true, err := false, again := false })).pushTokens cluster))

/-- PUT, GET, PUTS and AADD post an operation. On an executor that issues the instruction with operands aligned as the manual says (and, for PUT and GET, 4 to 16,777,216 bytes), no acquire outstanding and fewer than 64 operations posted: an operation with both sides at the own node is put at the end of the executor's posted operations under the next number, with its order bits, and the program counter moves past the instruction; an operation with a far side leaves as requests too. (12_nsi_instruction_set.md, 13_remote_memory_model.md) -/
def Obligations.RemotePosted : Prop :=
  ∀ (x : ExecId) (w : NsiBody) (ext : BitVec 64) (s : State),
    let e := s.blk.ex x
    let b := s.blk
    let a := (e.rs (rmRA w)).toNat
    let c := (e.rs (rmRB w)).toNat
    let n := (e.rs (rmRC w)).toNat
    let k := if rmSIZE w = 1 then 4 else 8
    let put := fun (op v len : Nat) => ({ b with rm := { b.rm with nextId := b.rm.nextId + 1 } }).done x w { e with posted := e.posted ++
      [({ id := b.rm.nextId, op := op, a := a, b := v, len := len, size4 := rmSIZE w == 1, ord := rmORD w, far := 0, err := 0 } : Posted)] }
    e.acquiring = false → e.posted.length < 64 →
    (Issues b x w (rmEnc w false) → a % 4 = 0 → c % 4 = 0 → n % 4 = 0 → 4 ≤ n → n ≤ 16777216 →
      (b.isHome a = true → b.isHome c = true → Does (.nsiPut x w ext) s (put 0 c n) ∧ Does (.nsiGet x w ext) s (put 1 c n)) ∧
      Does (.nsiPut x w ext) s (b.post x w e 0 a c n) ∧ Does (.nsiGet x w ext) s (b.post x w e 1 a c n)) ∧
    (Issues b x w (rmEnc w true) → a % k = 0 →
      (b.isHome a = true → Does (.nsiPuts x w ext) s (put 2 (c % 2 ^ (8 * k)) k) ∧ Does (.nsiAadd x w ext) s (put 4 (c % 2 ^ (8 * k)) k)) ∧
      Does (.nsiPuts x w ext) s (b.post x w e 2 a (c % 2 ^ (8 * k)) k) ∧ Does (.nsiAadd x w ext) s (b.post x w e 4 a (c % 2 ^ (8 * k)) k))

/-- GETS, FADD and CAS at the own node. On an executor that issues the instruction at an aligned address of the own node, with what its order and earlier operations need fulfilled: GETS whose read is permitted writes the value read to rd, FADD the value before the add, CAS the value before and writes only where it equals s[RC]; p[PS] is 1 for a read, an add or a write made, 0 for a CAS that did not write. An atomic on VRD_LOG_TAKEN lets verdict log records that waited for room be written, and a read of LGR_PG_A latches the two other page counters. A read that fails with a code writes that code over 0xFFFFFFFFFFFFFF00 to rd and 0 to p[PS], and counts. A far address becomes a request the executor waits for. (12_nsi_instruction_set.md, 13_remote_memory_model.md) -/
def Obligations.RemoteBlocking : Prop :=
  ∀ (x : ExecId) (w : NsiBody) (ext : BitVec 64) (s : State), Issues s.blk x w (rmEnc w true) →
    let e := s.blk.ex x
    let b := s.blk
    let a := (e.rs (rmRA w)).toNat
    let n := if rmSIZE w = 1 then 4 else 8
    let v := (e.rs (rmRB w)).toNat % 2 ^ (8 * n)
    let cmp := (e.rs (rmRC w)).toNat % 2 ^ (8 * n)
    let src := Src.ex (xkey x)
    let logged := fun (c : Block) => if gaSpace a = 4 ∧ gaOff a = 0x0E30 then c.logPump else c
    let ends := fun (c : Block) (old : Nat) (p : Bool) =>
      let e := c.ex x
      (c.setEx x { ((e.ws (rmRD w) (BitVec.ofNat 64 old)).wp (rmPS w) p) with blocked := .no, pc := e.pc + 8 }).noteProgress e.item
    a % n = 0 → e.mayIssue true (rmORD w) [(a, n)] = true →
    (b.isHome a = true → (rmORD w < 2 ∨ e.rmErr = 0) →
      (∀ l, b.homeRead src a n false (n == 4) = .ok l →
        Does (.nsiGets x w ext) s (ends (if gaSpace a = 4 && gaOff a = 0x0380 then
          { b with mgt := { b.mgt with latch := tset b.mgt.latch (srcKey (.exec (xkey x))) (b.reg 0x0388, b.reg 0x0390) } } else b) (leNat l) true)) ∧
      (∀ p, b.homeAtomic src .add a (n == 4) (fun o => some ((o + v) % 2 ^ (8 * n))) = .ok p →
        Does (.nsiFadd x w ext) s (ends (logged p.2) p.1 true)) ∧
      (∀ p, b.homeAtomic src .cas a (n == 4) (fun o => if o = cmp then some v else none) = .ok p →
        Does (.nsiCas x w ext) s (ends (logged p.2) p.1 (p.1 == cmp))) ∧
      (∀ er, b.homeRead src a n false (n == 4) = .error er →
        Does (.nsiGets x w ext) s ((((b.ueAt a n er.1).rmFail er.1 false false).setEx x
          { ((e.ws (rmRD w) (BitVec.ofNat 64 (0xFFFFFFFFFFFFFF00 + er.1))).wp (rmPS w) false) with blocked := .no, pc := e.pc + 8 }).noteProgress e.item))) ∧
    (b.isHome a = false → (rmORD w < 2 ∨ e.rmErr = 0) → ∀ r, b.outErr (keyId (xkey x)) a n = .ok r →
      let far := fun (op kind v c : Nat) => (b.setEx x { e with pc := e.pc + 8, blocked := .far op (rmRD w) (rmPS w) }).outOp
        { id := 0, kind := kind, route := r, addr := a, len := 0, value := v, compare := c, data := [], ord := rmORD w,
          size4 := n == 4, sent := false, issued := 0, purpose := .block (xkey x) }
      Does (.nsiGets x w ext) s (far 3 0 0 0) ∧ Does (.nsiFadd x w ext) s (far 5 3 v 0) ∧ Does (.nsiCas x w ext) s (far 6 4 v cmp))

/-- WAIT, FENCE and TFENCE, and how a wait ends. On an executor that issues the instruction: WAIT on a readable counter of the own node at or above its target completes at once with the value and p[PS] 1, and below it waits with its target, its limit and the value read; FENCE with nothing posted sets p[PS] to whether RM_ERR is 0 and clears RM_ERR, and with operations posted waits; TFENCE on a sequencer waits for the tick's operations, jobs and agent writes. A waiting executor whose counter at the own node is readable and at or above the target completes with the value and p[PS] 1 at WAIT_CONDITION_MET; at WAIT_TIMEOUT a wait with a limit on a readable counter of the own node completes with the value read and p[PS] 0, the time base at the limit. Each of these reads latches the two other page counters where it reads LGR_PG_A. (12_nsi_instruction_set.md, 13_remote_memory_model.md) -/
def Obligations.RemoteWaits : Prop :=
  ∀ (x : ExecId) (w : NsiBody) (ext : BitVec 64) (s : State),
    let e := s.blk.ex x
    let b := s.blk
    let a := (e.rs (rmRA w)).toNat
    let n := if rmSIZE w = 1 then 4 else 8
    let t := (e.rs (rmRB w)).toNat
    let lim := (e.rs (rmRC w)).toNat
    let seen := fun (c : Block) (a : Nat) => if gaSpace a = 4 ∧ gaOff a = 0x0380 then
      { c with mgt := { c.mgt with latch := tset c.mgt.latch (srcKey (.exec (xkey x))) (c.reg 0x0388, c.reg 0x0390) } } else c
    (Issues b x w (rmEnc w true) → a % n = 0 → e.mayIssue true (rmORD w) [(a, n)] = true → b.isHome a = true → (rmORD w < 2 ∨ e.rmErr = 0) →
      ∀ l, b.homeRead (.ex (xkey x)) a n false (n == 4) = .ok l →
        (t ≤ leNat l → Does (.nsiWait x w ext) s (((seen b a).setEx x
          { ((e.ws (rmRD w) (BitVec.ofNat 64 (leNat l))).wp (rmPS w) true) with blocked := .no, pc := e.pc + 8 }).noteProgress e.item)) ∧
        (leNat l < t → Does (.nsiWait x w ext) s ((seen b a).setEx x { e with
          pc := e.pc + 8
          blocked := .wait a t (rmRD w) (rmPS w) (if n = 4 then 1 else 0) (if lim = 0 then 0 else b.clk.timeUs + lim) (leNat l) }))) ∧
    (Issues b x w (rmEnc w false) →
      (e.posted = [] → Does (.nsiFence x w ext) s (b.done x w { (e.wp (rmPS w) (e.rmErr == 0)) with rmErr := 0 })) ∧
      (e.posted ≠ [] → Does (.nsiFence x w ext) s (b.setEx x { e with pc := e.pc + 8, blocked := .fence (rmPS w) none })) ∧
      (isSeq x = true → Does (.nsiTfence x w ext) s
        (b.done x w { e with blocked := .fence (rmPS w) (some (b.tick, b.clk.bndUs)) }).settled)) ∧
    (b.alive = true → ∀ a t rd ps size lim last l, e.blocked = .wait a t rd ps size lim last → b.isHome a = true →
      (b.homeRead (.ex (xkey x)) a (if size = 1 then 4 else 8) false (size == 1) = .ok l → t ≤ leNat l →
        Does (.waitConditionMet x) s (((seen b a).setEx x { ((e.ws rd (BitVec.ofNat 64 (leNat l))).wp ps true) with blocked := .no }).noteProgress e.item)) ∧
      (lim ≠ 0 → (b.advance lim).homeRead (.ex (xkey x)) a (if size = 1 then 4 else 8) false (size == 1) = .ok l →
        b.rm.out = [] → Does (.waitTimeout x) s (((seen (b.advance lim) a).setEx x
          { ((e.ws rd (BitVec.ofNat 64 (leNat l))).wp ps false) with blocked := .no }).noteProgress e.item)))

/-- REMOTE_OP_COMPLETE and REMOTE_TIMEOUT. REMOTE_OP_COMPLETE of an executor with a posted operation ready at the own node performs that operation, takes it off the posted operations with its code (0, or the failure kept in RM_ERR if it is the first) and lets what waited for it go on. REMOTE_TIMEOUT of an outbound operation that is not on a link in training moves the time base to its issue time plus TIMEOUT_US and completes it with TIMEOUT (code 9). (13_remote_memory_model.md) -/
def Obligations.RemoteCompletions : Prop :=
  ∀ (s : State), s.blk.alive = true →
    (∀ (x : ExecId) (p : Posted), (s.blk.ex x).nextLocal = some p →
      let r := s.blk.perform (xkey x) p
      Does (.remoteOpComplete x) s
        (Block.pump 70 (xkey x) ((p.spans.foldl (fun b q => b.ueAt q.1 q.2 r.2) r.1).postedDone (xkey x) p r.2)).settled) ∧
    (∀ (op : Nat) (o : OutOp), s.blk.rm.out.find? (fun o => o.id == op) = some o →
      (o.route < 64 ∨ (s.blk.linkAt (o.route - 64)).state ≠ 1) →
      Does (.remoteTimeout op) s ((s.blk.advance (o.issued + s.blk.fget F.LNK_RM_CFG_TIMEOUT_US)).finishOut o (.error 9)).settled)

/-- A misaligned remote operation raises ALIGN, and a bulk length out of range ILLEGAL. On an executor that issues the instruction: PUT and GET with an address or a length that is not a multiple of 4 raise ALIGN, and with aligned operands but a length below 4 or above 16,777,216 ILLEGAL; PUTS, GETS, AADD, FADD, CAS and WAIT at an address that is not a multiple of their size raise ALIGN. The exception is all they do. (13_remote_memory_model.md) -/
def Obligations.AlignmentTraps : Prop :=
  ∀ (x : ExecId) (w : NsiBody) (ext : BitVec 64) (s : State),
    let e := s.blk.ex x
    let b := s.blk
    let a := (e.rs (rmRA w)).toNat
    let c := (e.rs (rmRB w)).toNat
    let n := (e.rs (rmRC w)).toNat
    (Issues b x w (rmEnc w false) →
      (a % 4 ≠ 0 → Does (.nsiPut x w ext) s (b.raise x w 6 a) ∧ Does (.nsiGet x w ext) s (b.raise x w 6 a)) ∧
      (a % 4 = 0 → c % 4 ≠ 0 → Does (.nsiPut x w ext) s (b.raise x w 6 c) ∧ Does (.nsiGet x w ext) s (b.raise x w 6 c)) ∧
      (a % 4 = 0 → c % 4 = 0 → n % 4 ≠ 0 → Does (.nsiPut x w ext) s (b.raise x w 6 a) ∧ Does (.nsiGet x w ext) s (b.raise x w 6 a)) ∧
      (a % 4 = 0 → c % 4 = 0 → n % 4 = 0 → n < 4 ∨ 16777216 < n →
        Does (.nsiPut x w ext) s (b.raise x w 1 0) ∧ Does (.nsiGet x w ext) s (b.raise x w 1 0))) ∧
    (Issues b x w (rmEnc w true) → a % (if rmSIZE w = 1 then 4 else 8) ≠ 0 →
      Does (.nsiPuts x w ext) s (b.raise x w 6 a) ∧ Does (.nsiGets x w ext) s (b.raise x w 6 a) ∧
      Does (.nsiAadd x w ext) s (b.raise x w 6 a) ∧ Does (.nsiFadd x w ext) s (b.raise x w 6 a) ∧
      Does (.nsiCas x w ext) s (b.raise x w 6 a) ∧ Does (.nsiWait x w ext) s (b.raise x w 6 a))

/-- LATTICE, MATCH, MASK and TREE. On a sequencer that issues the instruction with no acquire outstanding: the answer is 0 exactly where the unit named (or, for any, the least loaded one) is in service, the 64-byte descriptor can be read and passes the unit's checks, and the unit holds fewer than 16 jobs; then a job of the descriptor is queued last on that unit. rd takes the answer in bits 7:0 and the unit above; a refusal by a matcher or an Orchard engine is counted; nothing else changes but the program counter. (12_nsi_instruction_set.md, 06_grammar_and_stop.md, 10_orchard.md, 05_tokenizer_detokenizer.md, 11_matchers_and_verdicts.md) -/
def Obligations.TextInvocations : Prop :=
  ∀ (x : ExecId) (w : NsiBody) (ext : BitVec 64) (s : State), isSeq x = true → (s.blk.ex x).acquiring = false →
    let e := s.blk.ex x
    let b := s.blk
    let d := b.recordAt (e.rs (nf w 20 5)).toNat
    let any := nf w 35 1 == 1
    let r := fun k => b.unitAnswer k (nf w 30 5) any d
    let job := fun k => b.descJob x k (d.getD [])
    let out := fun (c : Block) k => c.done x w (e.ws (nf w 15 5) (BitVec.ofNat 64 ((r k).1 + 256 * (r k).2)))
    (∀ k, (r k).1 = 0 ↔ ∃ n l, (if any then b.leastUnit k else if b.unitUp k (nf w 30 5) then some (nf w 30 5) else none) = some n ∧
      d = some l ∧ b.jobCheck k l = 0 ∧ (b.unit k n).jobs.length < 16) ∧
    (Issues b x w (textEnc 0 w) → (r 0).1 = 0 → Does (.nsiLattice x w ext) s (out (b.pushJob 0 (r 0).2 (job 0)) 0)) ∧
    (Issues b x w (textEnc 1 w) → (r 1).1 = 0 → Does (.nsiMatch x w ext) s (out (b.pushJob 1 (r 1).2 (job 1)) 1)) ∧
    (Issues b x w (textEnc 2 w) → (r 2).1 = 0 → Does (.nsiMask x w ext) s (out (b.pushJob 2 (r 2).2 (job 2)) 2)) ∧
    (Issues b x w (textEnc 3 w) → (r 3).1 = 0 → Does (.nsiTree x w ext) s (out (b.pushJob 3 (r 3).2 (job 3)) 3)) ∧
    (Issues b x w (textEnc 0 w) → (r 0).1 ≠ 0 → Does (.nsiLattice x w ext) s (out (b) 0)) ∧
    (Issues b x w (textEnc 1 w) → (r 1).1 ≠ 0 → Does (.nsiMatch x w ext) s (out (b.count F.MAT_CNT_A_REFUSED) 1)) ∧
    (Issues b x w (textEnc 2 w) → (r 2).1 ≠ 0 → Does (.nsiMask x w ext) s (out (b) 2)) ∧
    (Issues b x w (textEnc 3 w) → (r 3).1 ≠ 0 → Does (.nsiTree x w ext) s (out (b.count F.ORC_CNT_A_REFUSED) 3))

/-- LATTICE_JOB_DONE, MATCH_JOB_DONE, MASK_JOB_DONE and TREE_JOB_DONE. The head job of a unit leaves its queue. A descriptor job writes its result record and raises its DONE counter. LATTICE: STATUS 2 on a fault of the engine, 1 where the image or the input cannot be read, 3 with nothing produced where the output is larger than the room given, else 0 with the output written: the ids of the text (OP 0, the fallback ids counted), the text of the ids (OP 1), the ids with each invalid one replaced (OP 2, counted). MATCH: STATUS 2 on a fault, 1 where the image or input cannot be read, else the run of the automaton from its start or the state given; jobs and symbols are counted. MASK: STATUS 2 or 1 alike, else the mask of the configuration is written and counted, with its passes. TREE: one record a vector, its scores and leaves those of the ensemble on the vector, with STATUS 1 where the vector or the store cannot be read; the counters of jobs, steps, missing values and repeated reads rise. A tokenization of the block's own is sent again where the engine failed and otherwise completes, and a root mask of its own likewise marks the entry's root mask formed; neither has an effect on an entry that has ended or changed hands, nor a mask of an earlier tick; a node's mask marks that node. A set run and an ensemble of the block's own run to their end, are counted as a descriptor job of their kind is, and, where their entry and its item are still there, give the item their result and let it be judged. With no job on the unit nothing ends. What waited for the outcome of earlier work then goes on. (05_tokenizer_detokenizer.md, 06_grammar_and_stop.md, 10_orchard.md, 11_matchers_and_verdicts.md, 12_nsi_instruction_set.md) -/
def Obligations.TextUnitsFinish : Prop :=
  ∀ (s : State) (n : Nat) (fault : Bool) (far : List FarRead) (bad : List ReadFault), s.blk.alive = true →
    let off := fun (k : Nat) (rest : List Job) => (s.blk.setUnit k n { (s.blk.unit k n) with jobs := rest }).retryLater k
    let un := fun (c : Block) (u : Nat) => if fault = true then c.fault u n false else c
    let fin := fun (c : Block) (j : Job) (addr done : Nat) (l : List Byte) =>
      ((c.unitPut addr l (j.seq.getD 0)).unitDone done (j.seq.getD 0)).settled
    (∀ j rest, (s.blk.unit 0 n).jobs = j :: rest → j.kind = 0 →
      let d := j.desc
      let op := dfld d 0 1
      let c := un (off 0 rest) 9
      let res := fun (b : Block) (st prod fb : Nat) => fin b j (dfld d 32 8) (dfld d 40 8)
        (withCrc (leBytes 4 (dfld d 4 4) ++ leBytes 4 st ++ leBytes 4 prod ++ leBytes 4 fb ++ zeros 12))
      let text := c.unitRead far (dfld d 8 8) (if op = 0 then dfld d 16 4 else 4 * dfld d 16 4)
      (fault = true → Does (.latticeJobDone n fault far) s (res c 2 0 0)) ∧
      (fault = false → j.img.bind (c.imgRead 0) = none ∨ (∃ e, text = .error e) → Does (.latticeJobDone n fault far) s (res c 1 0 0)) ∧
      (fault = false → ∀ i l, j.img.bind (c.imgRead 0) = some i → text = .ok l →
        let b := { c with clk := { c.clk with free := c.clk.free + 1 } }
        let ends := fun (b : Block) (out : List Byte) (prod fb : Nat) =>
          if dfld d 20 4 < prod then res b 3 0 0 else res (b.unitPut (dfld d 24 8) out (j.seq.getD 0)) 0 prod fb
        (op = 0 → let t := tokenizeText i l
          Does (.latticeJobDone n fault far) s (ends (b.count F.TOK_CNT_A_BYTE_FALLBACK t.2) (t.1.flatMap (leBytes 4)) t.1.length t.2)) ∧
        (op = 1 → let t := (ids4 l).flatMap (detok i (Config.freeBytes c.clk.free))
          Does (.latticeJobDone n fault far) s (ends b t t.length 0)) ∧
        (1 < op → let t := codecIds i (ids4 l)
          Does (.latticeJobDone n fault far) s
            (ends (if op = 2 then b.count F.TOK_CNT_A_CODEC_INVALID t.2 else b) (t.1.flatMap (leBytes 4)) t.1.length t.2)))) ∧
    (∀ j rest, (s.blk.unit 1 n).jobs = j :: rest → j.kind = 0 →
      let d := j.desc
      let c := un (off 1 rest) 8
      let img := j.img.bind (fun o => if j.num.testBit 16 then (c.imgRead 2 o).map stopAutomaton else c.imgRead 3 o)
      let ends := fun (m : MatchRes) => fin (c.matchCount m) j (dfld d 24 8) (dfld d 32 8) (matchRecord (dfld d 4 4) m)
      (fault = true → Does (.matchJobDone n fault far) s (ends (mFailed 2))) ∧
      (fault = false → img = none → Does (.matchJobDone n fault far) s (ends (mFailed 1))) ∧
      (fault = false → ∀ i, img = some i →
        let byte := iu i 6 1 = 0
        let text := c.unitRead far (dfld d 8 8) (if byte then dfld d 16 4 else 4 * dfld d 16 4)
        (∀ e, text = .error e → Does (.matchJobDone n fault far) s (ends (mFailed 1))) ∧
        (∀ l, text = .ok l → Does (.matchJobDone n fault far) s
          (ends (mRun i (if dfld d 20 4 = 0xFFFFFFFF then iu i 28 4 else dfld d 20 4) (if byte then l.map BitVec.toNat else ids4 l)))))) ∧
    (∀ j rest, (s.blk.unit 2 n).jobs = j :: rest → j.kind = 0 →
      let d := j.desc
      let c := un (off 2 rest) 10
      let res := fun (b : Block) (st passes : Nat) => fin b j (dfld d 24 8) (dfld d 32 8)
        (withCrc (leBytes 4 (dfld d 40 4) ++ leBytes 2 st ++ leBytes 2 passes) ++ zeros 4)
      let stack := c.unitRead far (dfld d 8 8) (4 * dfld d 2 1)
      (fault = true → Does (.maskJobDone n fault far) s (res c 2 0)) ∧
      (fault = false → j.img.bind (c.imgRead 1) = none ∨ (∃ e, stack = .error e) → Does (.maskJobDone n fault far) s (res c 1 0)) ∧
      (fault = false → ∀ i l, j.img.bind (c.imgRead 1) = some i → stack = .ok l →
        let g : Cfg := { state := dfld d 4 4, stack := ids4 l }
        Does (.maskJobDone n fault far) s
          (res ((c.unitPut (dfld d 16 8) (gMask i (c.eosOf i) g) (j.seq.getD 0)).count F.GRM_CNT_A_MASKS) 0 (gPasses i g)))) ∧
    (∀ j rest, (s.blk.unit 3 n).jobs = j :: rest → j.kind = 0 →
      let d := j.desc
      let c := (off 3 rest).headVectors n
      let a := c.treeFaults n bad
      let count := dfld d 1 1
      let rs := (List.range count).map (fun v => a.treeVector j count v bad far (a.treeLoss c n))
      let b := ({ a with clk := { a.clk with free := a.clk.free + 3 * count } }).treeCount rs
      let one := fun (b : Block) (v : Nat) =>
        let r := rs.getD v (1, [], [], 0, 0)
        let p := b.unitPut (dfld d 24 8 + 128 * v) (withCrc ((padTo (leBytes 4 (dfld d 4 4) ++ leBytes 1 v ++ leBytes 1 (oOutputs (imgOf j.store)) ++
          leBytes 1 r.1 ++ leBytes 1 (dfld d 0 1) ++ leBytes 4 r.2.2.2.1 ++ leBytes 4 r.2.2.2.2 ++
          (r.2.2.1.take 16).flatMap (fun x => leBytes 4 x.toNat)) 124).take 124)) (j.seq.getD 0)
        if (dfld d 2 1).testBit 0 then p.unitPut (dfld d 32 8 + v * oTrees (imgOf j.store) * 4) (r.2.1.flatMap (leBytes 4)) (j.seq.getD 0) else p
      Does (.treeJobDone n bad far) s ((((List.range count).foldl one b).unitDone (dfld d 40 8) (j.seq.getD 0)).settled) ∧
      (∀ v, j.rerr.contains v = true → a.treeVector j count v bad far (a.treeLoss c n) = (1, [], [], 0, 0)) ∧
      (bad = [] → a.groupsUp n ≠ [] → ∀ v, j.rerr.contains v = false → a.isHome (vecAddr d v) = true →
        let r := oEval (imgOf j.store) (j.vecs.getD v [])
        a.treeVector j count v bad far (a.treeLoss c n) = (0, r.1, r.2.1, r.2.2.1, r.2.2.2))) ∧
    (∀ j rest, (s.blk.unit 0 n).jobs = j :: rest → j.kind = 1 →
      let c := un (off 0 rest) 9
      let wanted := c.eget j.entry E.STATE = 2 ∧ c.eget j.entry E.GENERATION = j.gen
      (¬ wanted → Does (.latticeJobDone n fault far) s c.settled) ∧
      (wanted → fault = true → Does (.latticeJobDone n fault far) s (c.ownJob j).settled) ∧
      (wanted → fault = false → Does (.latticeJobDone n fault far) s (c.tokenized j.entry far).settled)) ∧
    (∀ j rest, (s.blk.unit 2 n).jobs = j :: rest → j.kind = 2 →
      let c := un (off 2 rest) 10
      let wanted := c.eget j.entry E.STATE ≠ 0 ∧ c.eget j.entry E.GENERATION = j.gen ∧ j.tick = c.tick
      (¬ wanted → Does (.maskJobDone n fault far) s c.settled) ∧
      (wanted → fault = true → Does (.maskJobDone n fault far) s (c.ownJob j).settled) ∧
      (wanted → fault = false → Does (.maskJobDone n fault far) s (c.modSide j.entry (fun x => { x with rootMask := true })).settled)) ∧
    (∀ j rest, (s.blk.unit 2 n).jobs = j :: rest → j.kind = 3 → fault = false →
      let c := off 2 rest
      c.eget j.entry E.STATE ≠ 0 → c.eget j.entry E.GENERATION = j.gen → j.tick = c.tick →
      ∃ t : Block, Does (.maskJobDone n fault far) s t.settled ∧
        (t.side j.entry).nodes.map (·.masked) = ((List.range (c.side j.entry).nodes.length).map (fun i =>
          i == j.sub || (((c.side j.entry).nodes[i]?).map (·.masked)).getD false)) ∧
        (t.side j.entry).rootMask = (c.side j.entry).rootMask) ∧
    (∀ j rest, (s.blk.unit 1 n).jobs = j :: rest → j.kind = 4 ∨ j.kind = 5 →
      let c := un (off 1 rest) 8
      let m := if fault = true then mFailed 2 else ((j.img.bind (c.imgRead 3)).map (fun i => mRun i j.start j.input)).getD (mFailed 1)
      let b := c.matchCount m
      let wanted := b.eget j.entry E.STATE ≠ 0 ∧ b.eget j.entry E.GENERATION = j.gen ∧ b.scr j.entry j.sub ≠ none
      (wanted → Does (.matchJobDone n fault far) s ((b.modScreen j.entry j.sub (fun x =>
        if j.kind = 4 then { x with bset := some m, bsetWait := false } else { x with tset := some m, tsetWait := false })).judge j.entry j.sub).settled) ∧
      (¬ wanted → Does (.matchJobDone n fault far) s b.settled)) ∧
    (∀ j rest, (s.blk.unit 3 n).jobs = j :: rest → j.kind = 6 →
      let c := (off 3 rest).headVectors n
      let a := c.treeFaults n bad
      let k := a.treeLoss c n
      let r := a.treeVector j 1 0 bad [] k
      let b := ({ a with clk := { a.clk with free := a.clk.free + 3 } }).treeCount [r]
      let wanted := b.eget j.entry E.STATE ≠ 0 ∧ b.eget j.entry E.GENERATION = j.gen ∧ b.scr j.entry j.sub ≠ none
      (wanted → Does (.treeJobDone n bad far) s ((b.modScreen j.entry j.sub (fun x => { x with
        ens := { st := if r.1 = 0 then 2 else 3, outs := r.2.2.1 }, leaves := x.leaves ++ r.2.1, ensRan := if k.idle then x.ensRan else j.num })).judge
          j.entry j.sub).settled) ∧
      (¬ wanted → Does (.treeJobDone n bad far) s b.settled)) ∧
    ((s.blk.unit 0 n).jobs = [] → Does (.latticeJobDone n fault far) s s.blk.settled) ∧
    ((s.blk.unit 1 n).jobs = [] → Does (.matchJobDone n fault far) s s.blk.settled) ∧
    ((s.blk.unit 2 n).jobs = [] → Does (.maskJobDone n fault far) s s.blk.settled) ∧
    ((s.blk.unit 3 n).jobs = [] → Does (.treeJobDone n bad far) s s.blk.settled)

/-- TWAIT, ENQ, DPASS, LPG and LPHASE. On a sequencer that issues the instruction: TWAIT of a point 0 to 5 waits for the next occurrence of that point, and takes no other effect; ENQ answers 0 to 4 in rd and queues the item where it answers 0, and DPASS likewise queues a draft pass; LPG adds or subtracts the low 28 bits of ra to the ledger's page counter of state 0 to 4, modulo 2^28; LPHASE 0 checks the slice of the sequencer and marks its Accept work complete. An immediate outside those values raises ILLEGAL. (12_nsi_instruction_set.md, 00_scope.md) -/
def Obligations.TickInstructions : Prop :=
  ∀ (x : ExecId) (w : NsiBody) (ext : BitVec 64) (s : State), isSeq x = true → Issues s.blk x w (tickEnc w) →
    let e := s.blk.ex x
    let b := s.blk
    let a := (e.rs (nf w 20 5)).toNat
    let imm := tickImm w
    (imm ≤ 5 → Does (.nsiTwait x w ext) s (b.done x w { e with blocked := .tick imm (nf w 15 5) })) ∧
    (5 < imm → Does (.nsiTwait x w ext) s (b.raise x w 1 0)) ∧
    (e.acquiring = false →
      let st := ((b.recordAt a).map b.enqCheck).getD ansBad
      Does (.nsiEnq x w ext) s ((if st = 0 then b.enqItem ((b.recordAt a).getD []) a else b).done x w (e.ws (nf w 15 5) (BitVec.ofNat 64 st)))) ∧
    (e.acquiring = false →
      let st := ((b.recordAt a).map b.dpassCheck).getD ansBad
      let c := b.done x w (e.ws (nf w 15 5) (BitVec.ofNat 64 st))
      Does (.nsiDpass x w ext) s (if st = 0 then c.queueDraft ((b.recordAt a).getD []) a (xid x) else c)) ∧
    (imm ≤ 15 → imm % 8 ≤ 4 → ∃ t, exec (.nsiLpg x w ext) s = .next { s with blk := t } ∧
      t.lgr.pages = b.lgr.pages.set (imm % 8) (if 8 ≤ imm then (b.lgr.pages.getD (imm % 8) 0 + a % 2 ^ 28) % 2 ^ 28
        else (b.lgr.pages.getD (imm % 8) 0 + 2 ^ 28 - a % 2 ^ 28) % 2 ^ 28) ∧
      { t with lgr := b.lgr } = b.done x w e) ∧
    (15 < imm ∨ 4 < imm % 8 → Does (.nsiLpg x w ext) s (b.raise x w 1 0)) ∧
    (imm = 0 → ∃ t, exec (.nsiLphase x w ext) s = .next { s with blk := t } ∧ t.lgr.phase0 = xid x :: b.lgr.phase0 ∧
      t.lgr.pages = b.lgr.pages ∧ { t with lgr := b.lgr } = b.done x w e) ∧
    (1 < imm → Does (.nsiLphase x w ext) s (b.raise x w 1 0))

/-- ITEM_DONE and DPASS_DONE. The end of a queued item takes the item out, with its status (1 where it failed, 3 for a status the table does not have), its outputs and its DONE counter; an item that is not queued ends nothing. The end of the oldest draft pass takes it out, applies its proposals to the entries it drafts for (a warm-up warms them), raises its DONE counter, and starts the next pass or the items that waited for it. (12_nsi_instruction_set.md, 07_speculative_path.md, 08_pip_arithmetic.md) -/
def Obligations.ItemAndDraftEnds : Prop :=
  ∀ (s : State), s.blk.alive = true →
    (∀ item status outs, s.blk.cp.items.find? (fun t => t.id == item) = none → exec (.itemDone item status outs) s = .next s) ∧
    (∀ item status outs t, s.blk.cp.items.find? (fun t => t.id == item) = some t → t.failed = false → status ≠ 1 →
      Does (.itemDone item status outs) s ((s.blk.noteProgress (some item)).endItem t (if status = 0 then 0 else 3) outs)) ∧
    (∀ item status outs t, s.blk.cp.items.find? (fun t => t.id == item) = some t → t.failed = false → status = 1 →
      Does (.itemDone item status outs) s
        ((((s.blk.count F.PIP_CNT_A_ITEM_FAIL).evt F.PIP_EVT_ITEM_FAIL).noteProgress (some item)).endItem t 1 outs)) ∧
    (∀ item status outs t, s.blk.cp.items.find? (fun t => t.id == item) = some t → t.failed = true →
      Does (.itemDone item status outs) s ((s.blk.noteProgress (some item)).endItem t 1 outs)) ∧
    (∀ props j rest, s.blk.cp.dpass = j :: rest →
      let a := { s.blk with cp := { s.blk.cp with dpass := rest } }
      let mine := fun (c : Block) (e : Nat) => c.draftModel e == some j.model
      let b := if !j.failed && props.any (fun p => p.failed && mine a p.entry) then (a.count F.PIP_CNT_A_ITEM_FAIL).evt F.PIP_EVT_ITEM_FAIL else a
      let c := if j.warm then b.warmDone (props.filter (fun p => mine b p.entry)) j.failed
        else (b.draftSet.filter (fun e => mine b e && props.any (fun p => p.entry == e))).foldl (fun c e => c.passPart e j.pass props j.failed) b
      let d := c.agentAdd j.done none j.seq 2
      Does (.dpassDone props) s ((if rest.isEmpty then d.dispatchItems else d.startDraft).settled)) ∧
    (∀ props, s.blk.cp.dpass = [] → Does (.dpassDone props) s s.blk.settled)

/-- TICK_IN_EDGE, INTERNAL_TICK and TICK_SOURCE_MISSED. Where boundaries are made from tick_in and no limit has passed unseen: an edge first sampled high in cycle c makes the tick boundary at c + 2 (or now, if the clock is past it), unless it comes less than P times (1 - tolerance) after the last boundary, where it is ignored and TICK_CNT_A.EARLY counts it. An edge and a missing source do nothing where boundaries are the internal generator's, which makes one every P; the internal generator does nothing where they are made from tick_in. A source that is missed makes the boundary at the limit. (02_tick_and_scheduling.md) -/
def Obligations.TickBoundaries : Prop :=
  ∀ (s : State), s.blk.alive = true → s.blk.run? = true →
    (∀ c, s.blk.external = true → max (c + 2) s.blk.clk.cycles ≤ s.blk.lateLimit →
      (s.blk.clk.ticking = false ∨ s.blk.limitCycles (1000 - s.blk.fget F.TICK_PERIOD_EXT_TOL) ≤ max (c + 2) s.blk.clk.cycles - s.blk.clk.bndCyc →
        Does (.tickInEdge c) s ((s.blk.toCycle (c + 2)).boundary false)) ∧
      (s.blk.clk.ticking = true → max (c + 2) s.blk.clk.cycles - s.blk.clk.bndCyc < s.blk.limitCycles (1000 - s.blk.fget F.TICK_PERIOD_EXT_TOL) →
        Does (.tickInEdge c) s (s.blk.count F.TICK_CNT_A_EARLY))) ∧
    (s.blk.external = true → Does .tickSourceMissed s ((s.blk.toCycle s.blk.lateLimit).boundary true) ∧ exec .internalTick s = .next s) ∧
    (s.blk.external = false → (∀ c, exec (.tickInEdge c) s = .next s) ∧ exec .tickSourceMissed s = .next s ∧
      Does .internalTick s ((s.blk.advance (s.blk.clk.bndUs + s.blk.fget F.TICK_PERIOD_PERIOD_US)).boundary false))

/-- A boundary opens a new tick. Opening a tick numbers it one above the last, modulo the width of TICK_COUNT (the first tick after reset is tick 0), at the present instant of the time base; the state of the new tick has no intake closed, no draft cut-off, mask target, mask deadline or publication past, is in the turn window, and no entry of it has had its Accept. A tick_in edge once accepted ends the count of boundaries made for want of one; each boundary so made adds one to it. (02_tick_and_scheduling.md) -/
def Obligations.TickNumbering : Prop :=
  ∀ (b : Block) (missed : Bool),
    let c := (b.openTick missed).newTick
    c.fget F.TICK_COUNT_COUNT = (if b.clk.ticking then (b.fget F.TICK_COUNT_COUNT + 1) % 2 ^ F.TICK_COUNT_COUNT.wid else 0) ∧
    c.clk.bndUs = b.clk.timeUs ∧ c.clk.bndCyc = b.clk.cycles ∧ c.clk.ticking = true ∧ c.clk.timeUs = b.clk.timeUs ∧
    c.clk.intakeClosed = false ∧ c.clk.cutOff = false ∧ c.clk.maskTarget = false ∧ c.clk.maskDeadline = false ∧
    c.clk.published = false ∧ c.clk.mainWindow = false ∧ c.clk.missedRun = (if missed then b.clk.missedRun + 1 else 0) ∧
    c.lgr.phase0 = [] ∧ c.lgr.phase1 = [] ∧ c.lgr.checked = false ∧ (∀ p ∈ c.rq.side, p.2.acceptDone = false)

/-- INTAKE_CLOSE, ACCEPT_PHASE, DRAFT_CUTOFF, MASK_TARGET, MASK_DEADLINE and PUBLISH_PHASE. In a block that serves, with ticks running: intake close, where it has not yet come in the tick, completes, records it as past and releases every executor that waited for it by TWAIT. The draft cut-off takes the time base to D - U - M, records it as past, drops every queued draft pass but the one under way, ends the drafting of the streams in DECODE whose Accept is not done, lets waiting items begin and releases TWAIT on point 2. The mask target takes the time base to D - U, records it as past, prunes from each stream with a grammar the nodes with no complete mask and skips the step of one whose root mask is not complete, and releases TWAIT on point 3. The mask deadline takes the time base to D, records it as past, flags MASK_LATE on the pools with a publish write outstanding or held, and releases TWAIT on point 4. A phase point that has come already in the tick changes nothing. Once intake has closed, the Accept of an entry that is not FREE, whose sequencer is not halted and which has not had it in the tick, completes and is marked done, its pause request spent, and the Publish completes and marks the tick published; a second Accept of the entry or a second Publish in the tick, or one before intake has closed, changes nothing. (02_tick_and_scheduling.md, 03_request_table.md) -/
def Obligations.TickPhases : Prop :=
  ∀ (s : State), s.blk.alive = true → s.blk.serves = true → s.blk.clk.ticking = true →
    let dl := s.blk.fget F.TICK_TURN_MASK_DL_US
    let u := s.blk.fget F.TICK_BUDGET_PUBLISH_US
    let m := s.blk.fget F.TICK_BUDGET_MASK_US
    let waits := fun (t : Block) (p : Nat) => ∃ k ∈ t.rm.execs, ∃ rd, k.2.blocked = .tick p rd
    (∀ far, s.blk.clk.intakeClosed = false → ∃ t, exec (.intakeClose far) s = .next { s with blk := t } ∧ t.clk.intakeClosed = true ∧ ¬ waits t 1) ∧
    (s.blk.clk.cutOff = false →
      let a := s.blk.advanceTick (dl - u - m)
      let b := { a with clk := { a.clk with cutOff := true }, cp := { a.cp with dpass := a.cp.dpass.take 1 } }
      let c := (b.live.filter (fun e => b.decoding e && !(b.side e).acceptDone)).foldl (fun c e => c.modSide e (fun x => { x with noDraft := true })) b
      Does .draftCutoff s (c.dispatchItems.atPoint 2) ∧ ¬ waits (c.dispatchItems.atPoint 2) 2) ∧
    (s.blk.clk.maskTarget = false →
      let a := s.blk.advanceTick (dl - u)
      let b := { a with clk := { a.clk with maskTarget := true } }
      let c := (b.live.filter (fun e => b.decoding e && (b.grmOf e).isSome)).foldl (fun c e =>
        let x := c.side e
        let k := (keepNodes (·.masked) x.nodes).2
        (c.count F.GRM_CNT_D_LATE_PRUNE (x.nodes.length - k.length)).modSide e (fun x => { x with nodes := k, skip := !x.rootMask })) b
      Does .maskTarget s (c.atPoint 3).pairSync ∧ ¬ waits (c.atPoint 3) 3) ∧
    (s.blk.clk.maskDeadline = false →
      let a := s.blk.advanceTick dl
      let b := { a with clk := { a.clk with maskDeadline := true } }
      let late := b.rq.pools.filter (fun q => b.rm.out.any (fun o => match o.purpose with
        | .agent (some p) _ 1 => p == q.num
        | _ => false) || b.pair.heldWrites.any (fun h => h.what == 1 && h.pool == some q.num))
      let c := late.foldl (fun c q => c.maskLate q.num) b
      Does .maskDeadline s (c.atPoint 4) ∧ ¬ waits (c.atPoint 4) 4) ∧
    (∀ far, s.blk.clk.intakeClosed = true → exec (.intakeClose far) s = .next s) ∧
    (s.blk.clk.cutOff = true → exec .draftCutoff s = .next s) ∧
    (s.blk.clk.maskTarget = true → exec .maskTarget s = .next s) ∧
    (s.blk.clk.maskDeadline = true → exec .maskDeadline s = .next s) ∧
    (∀ e, s.blk.acceptable e = true → ∃ t, exec (.acceptPhase e) s = .next { s with blk := t } ∧ (t.side e).acceptDone = true ∧ (t.side e).pause = false) ∧
    (s.blk.publishable = true → ∃ t, exec .publishPhase s = .next { s with blk := t } ∧ t.clk.published = true) ∧
    (∀ e, (s.blk.side e).acceptDone = true ∨ s.blk.clk.intakeClosed = false ∨ s.blk.seqHalted (seqOf e) = true →
      exec (.acceptPhase e) s = .next s) ∧
    (s.blk.clk.published = true ∨ s.blk.clk.intakeClosed = false → exec .publishPhase s = .next s)

/-- TURN_WINDOW_END, MONITOR_EVAL, SCHEDULE_FRAME and VERDICT_RELEASE. In a block that serves: the end of the turn window opens the main window, tries waiting fills, then sets the clusters of the deadline monitor or of frame 0 of the cyclic table, and releases TWAIT on point 5; a second one in the tick changes nothing. A monitor evaluation retries fills, runs its rounds and shows the clusters, and is the monitor's alone; a frame boundary of the cyclic table begins the next frame, up to frame 7. A verdict of a request in SCREEN_IN is released no earlier than its release time and at most 5 microseconds after it, and the release is the posting of its verdict; where tokenization has set no release time, that time is the admission plus DELAY_US of the profile. (02_tick_and_scheduling.md) -/
def Obligations.MainWindow : Prop :=
  ∀ (s : State), s.blk.alive = true → s.blk.serves = true →
    (s.blk.clk.ticking = true → s.blk.clk.mainWindow = false →
      let a := s.blk.advanceTick s.blk.windowStart
      let b := ({ a with clk := { a.clk with mainWindow := true } }).retryFills
      Does .turnWindowEnd s ((if b.monitored then (b.placeSplit b.splitCounts).dispatchItems.showSplit else b.startFrame 0).atPoint 5)) ∧
    (s.blk.clk.mainWindow = true → exec .turnWindowEnd s = .next s) ∧
    (s.blk.monitored = true → s.blk.clk.mainWindow = true →
      let b := (s.blk.advanceTick s.blk.evalTime).retryFills
      Does .monitorEval s ((b.rounds ((2 * b.clusters.length + 2) * b.cp.items.length + 8)).dispatchItems).showSplit) ∧
    (s.blk.monitored = false → s.blk.clk.mainWindow = true → s.blk.clk.frame < 7 →
      Does .scheduleFrame s ((s.blk.advanceTick (s.blk.windowStart + (s.blk.clk.frame + 1) * s.blk.windowLen / 8)).startFrame (s.blk.clk.frame + 1))) ∧
    (s.blk.monitored = false → exec .monitorEval s = .next s) ∧
    (s.blk.monitored = true ∨ 7 ≤ s.blk.clk.frame → exec .scheduleFrame s = .next s) ∧
    (∀ e, s.blk.eget e E.STATE = 2 → s.blk.eget e E.RELEASE_TIME ≠ 0 → s.blk.seqHalted (seqOf e) = false → ∃ d, d ≤ 5 ∧
      Does (.verdictRelease e) s ((s.blk.advance (s.blk.eget e E.RELEASE_TIME + d)).postInput e false)) ∧
    (∀ e, s.blk.eget e E.STATE = 2 → s.blk.eget e E.RELEASE_TIME = 0 → s.blk.seqHalted (seqOf e) = false → ∃ d, d ≤ 5 ∧
      let t := s.blk.eget e E.ADMIT_TIME + s.blk.prof (s.blk.eget e E.PROFILE) 4 4
      let b := s.blk.eset e E.RELEASE_TIME t
      Does (.verdictRelease e) s ((b.advance (b.eget e E.RELEASE_TIME + d)).postInput e false)) ∧
    (∀ e, s.blk.eget e E.STATE ≠ 2 ∨ s.blk.seqHalted (seqOf e) = true → exec (.verdictRelease e) s = .next s)

/-- ADM_DOORBELL, CTL_DOORBELL, PUNNET_TAKEN, LOG_TAKEN and REPORT_TAKEN. In RUN each raises its 64-bit counter register by the count, modulo 2^64, and changes nothing else; LOG_TAKEN then lets verdict log records that waited for room be written. (03_request_table.md, 05_tokenizer_detokenizer.md, 11_matchers_and_verdicts.md, 14_stem_and_management_ports.md) -/
def Obligations.Doorbells : Prop :=
  ∀ (s : State) (n : Nat), s.blk.alive = true → s.blk.run? = true →
    let up := fun (f : Fld) => s.blk.setReg f.off (s.blk.reg f.off + BitVec.ofNat 64 n)
    Does (.admDoorbell n) s (up F.RQT_ADM_DB_POSTED) ∧ Does (.ctlDoorbell n) s (up F.RQT_CTL_DB_POSTED) ∧
    Does (.punnetTaken n) s (up F.TOK_PUN_TAKEN_TAKEN) ∧ Does (.logTaken n) s (up F.VRD_LOG_TAKEN_TAKEN).logPump ∧
    Does (.reportTaken n) s (up F.MGT_RPT_TAKEN_TAKEN)

/-- ADMISSION_CLAIM and CONTROL_CLAIM. In a block that serves, with a descriptor posted and not yet taken: the oldest one of the ring is claimed, admitted, resumed or refused, and its result word written to its slot of the result ring; with a control record posted, a record that is stale (of another generation, of a kind or class the format does not have, of an entry that cannot take it) is counted and does nothing else, and a fresh one of kind PAUSE marks the entry to be paused; the claim counts are announced. With nothing posted neither changes anything, and a NEW or TURN descriptor is not claimed while as many requests are in input screening as the configuration allows (1,024, 2,048 or 4,096). (03_request_table.md) -/
def Obligations.AdmissionClaims : Prop :=
  ∀ (s : State), s.blk.alive = true → s.blk.serves = true →
    (s.blk.rq.admTaken < s.blk.fget F.RQT_ADM_DB_POSTED → s.blk.admHeld = false →
      let n := s.blk.rq.admTaken
      let slot := n % 2 ^ s.blk.fget F.RQT_ADM_RING_SIZE_LOG2
      let off := s.blk.fget F.RQT_ADM_RING_BASE + 64 * slot
      let d := s.blk.rd0 off 64
      let b := { s.blk with rq := { s.blk.rq with admTaken := n + 1 } }
      let r := if lefld d 21 1 = 1 ∨ lefld d 21 1 = 2 then b.claimResume d (lefld d 21 1 = 1) else b.claimNew (n % 8) d (b.own0 off)
      let v := r.2.1 + r.2.2.1 * 65536 + r.2.2.2 * 2 ^ 32
      let res := b.own0 (b.fget F.RQT_ADM_RES_BASE + 8 * slot)
      Does .admissionClaim s (((r.1.noteMirror (privAddr 6 slot) (leBytes 8 v)).announce res v none (n % 8) 0).announceReg F.RQT_ADM_TAKEN_TAKEN (n + 1))) ∧
    (s.blk.fget F.RQT_ADM_DB_POSTED ≤ s.blk.rq.admTaken ∨ s.blk.admHeld = true → exec .admissionClaim s = .next s) ∧
    (s.blk.admHeld = true ↔ lefld s.blk.admNext.2 21 1 ≠ 2 ∧
      (let c := s.blk.fget F.STA_IDENT_CONFIG
       if c ≤ 1 then 1024 else if c = 2 then 2048 else 4096) ≤ s.blk.inStates [2]) ∧
    (s.blk.rq.ctlTaken < s.blk.fget F.RQT_CTL_DB_POSTED →
      let n := s.blk.rq.ctlTaken
      let d := s.blk.rd0 (s.blk.fget F.RQT_CTL_RING_BASE + 8 * (n % 2 ^ s.blk.fget F.RQT_CTL_RING_SIZE_LOG2)) 8
      let b := { s.blk with rq := { s.blk.rq with ctlTaken := n + 1 } }
      let e := lefld d 0 2
      let fresh := lefld d 6 2 = 0 ∧ b.eget e E.GENERATION = lefld d 2 2
      (lefld d 6 2 ≠ 0 ∨ b.eget e E.GENERATION ≠ lefld d 2 2 ∨ 1 < lefld d 5 1 ∨ (lefld d 5 1 = 1 ∧ b.eget e E.STATE ≠ 4) ∨
        (lefld d 5 1 = 0 ∧ (3 < lefld d 4 1 ∨ b.eget e E.STATE = 0 ∨ b.eget e E.STATE = 7)) →
        Does .controlClaim s ((b.count F.RQT_CNT_A_CTL_STALE).announceReg F.RQT_CTL_TAKEN_TAKEN (n + 1))) ∧
      (fresh → lefld d 5 1 = 1 → b.eget e E.STATE = 4 →
        Does .controlClaim s ((b.modSide e (fun x => { x with pause := true })).announceReg F.RQT_CTL_TAKEN_TAKEN (n + 1))) ∧
      (fresh → lefld d 5 1 = 0 → lefld d 4 1 ≤ 3 → b.eget e E.STATE ≠ 0 → b.eget e E.STATE ≠ 7 →
        Does .controlClaim s ((b.claimCancel e (lefld d 4 1)).announceReg F.RQT_CTL_TAKEN_TAKEN (n + 1)))) ∧
    (s.blk.fget F.RQT_CTL_DB_POSTED ≤ s.blk.rq.ctlTaken → exec .controlClaim s = .next s)

/-- MODEL_LOAD_COMPLETE, HOT_FILL_COMPLETE, FILL_RETRY and LOAD_CHECK_COMPLETE. In RUN. A load in flight ends (one from outside space 0 in the main window): the copy is written where it was read; a model whose digest and header hold, and an adapter whose digest holds, becomes WARM, is counted, and takes its kind and granules; any other becomes FAILED, leaves the warm region and is counted; a command register that waited for it shows STATUS 0 or 2; then a WARM object that something waits for is filled. With no such load in flight and nothing waiting for the object, nothing changes. A fill under way ends in the main window: its granules hold the object's bytes, it is resident, HOT 2, counted, and waiting items may begin; any other fill ends nothing. FILL_RETRY tries the waiting fills: a WARM object without granules gets them where enough are free (HOT 1), and with none waiting nothing changes. The end of an image's check shows its STATUS; with STATUS 0 the object is loaded at the next tick boundary and the event joins the digest of the configuration; with no such check nothing changes. (09_model_store.md, 05_tokenizer_detokenizer.md, 06_grammar_and_stop.md, 10_orchard.md, 11_matchers_and_verdicts.md) -/
def Obligations.StoreEvents : Prop :=
  ∀ (s : State), s.blk.alive = true → s.blk.run? = true →
    (∀ ad n far,
      let src := s.blk.objSource ad n
      let total := s.blk.objBytes ad n
      let here := gaNode src = s.blk.node ∧ gaSpace src = 0
      let data := if here then (if s.blk.span0 (gaOff src) total true = 0 ∧ gaOff src + total ≤ s.blk.stacksS * s.blk.usable
          then some (s.blk.rd0 (gaOff src) total) else none)
        else (farRead far src total).toOption
      let a := { s.blk with st := { s.blk.st with loads := s.blk.st.loads.filter (fun l => !(l.1 == ad && l.2.1 == n)) } }
      let told := fun (b : Block) (st : Nat) =>
        if ad = false ∧ b.st.cmdModel = some n then ({ b with st := { b.st with cmdModel := none } }).fset F.MDL_CMD_STATUS st
        else if ad = true ∧ b.st.cmdAdapter = some n then ({ b with st := { b.st with cmdAdapter := none } }).fset F.MDL_ADP_CMD_STATUS st else b
      let bad := fun (c : Block) => (told (((c.freeWarm ad n).setObjState ad n 4).count F.MDL_CNT_B_LOAD_FAIL) 2).afterLoad ad n
      (s.blk.loading ad n ≠ none → here ∨ s.blk.clk.mainWindow = true →
        (data = none → Does (.modelLoadComplete ad n far) s (bad a)) ∧
        (∀ l, data = some l →
          let c := a.wr0 (a.objWarm ad n) l
          let warm := (c.setObjState ad n 3).count F.MDL_CNT_B_LOADS
          (ad = false → (sha384 l == c.rd0 (c.objAddr false n + 64) 48 && modelHeaderOk (imgOf l) total) = true →
            let d := { warm with st := { warm.st with heads := tset warm.st.heads n (l.take 128) } }
            let g := d.objPut false n 1 1 (d.hdr n 6 1)
            Does (.modelLoadComplete ad n far) s
              ((told (g.objPut false n 32 4 (cdiv (d.hdr n 24 4 + d.hdr n 16 8) 262144)) 0).afterLoad ad n)) ∧
          (ad = true → sha384 l = (tget c.st.adpDigest n).getD [] →
            Does (.modelLoadComplete ad n far) s ((told (warm.objPut true n 12 4 (cdiv total 262144)) 0).afterLoad ad n)) ∧
          ((ad = false ∧ (sha384 l == c.rd0 (c.objAddr false n + 64) 48 && modelHeaderOk (imgOf l) total) = false) ∨
            (ad = true ∧ sha384 l ≠ (tget c.st.adpDigest n).getD []) → Does (.modelLoadComplete ad n far) s (bad c)))) ∧
      (s.blk.loading ad n = none ∨ (¬ here ∧ s.blk.clk.mainWindow = false) → Does (.modelLoadComplete ad n far) s (s.blk.afterLoad ad n))) ∧
    (∀ (b : Block) ad n,
      (b.objState ad n ≠ 3 ∨ (b.itemsFor ad n = [] ∧ (ad = true ∨ n ∉ b.st.pinned)) → b.afterLoad ad n = b) ∧
      (b.objState ad n = 3 → b.itemsFor ad n ≠ [] ∨ (ad = false ∧ n ∈ b.st.pinned) →
        b.afterLoad ad n = ((if ad = true then b else b.streamReady n).fillLater ad n).retryFills)) ∧
    (∀ ad n c, s.blk.ctx ad n = some c → c.resident = false → s.blk.clk.mainWindow = true →
      let bytes := s.blk.ctxBytes ad n
      let die := (List.range c.granules.length).foldl (fun m k => mwrN m (c.granules.getD k 0 * 262144) ((bytes.drop (k * 262144)).take 262144)) s.blk.mem.die
      let b := { s.blk with mem := { s.blk.mem with die := die },
                            st := { s.blk.st with hot := s.blk.st.hot.map (fun (x : Ctx) =>
                              if x.adapter = ad ∧ x.num = n then { x with resident := true, filledTick := s.blk.tick } else x) } }
      let d := (b.setObjHot ad n 2).count F.MDL_CNT_A_FILLS
      Does (.hotFillComplete ad n) s ((if ad = true then d.fillReady n else d.objPut false n 36 4 (d.tick % 2 ^ 32)).dispatchItems)) ∧
    (∀ ad n, s.blk.ctx ad n = none ∨ (∃ c, s.blk.ctx ad n = some c ∧ c.resident = true) ∨ s.blk.clk.mainWindow = false →
      Does (.hotFillComplete ad n) s ((if ad = true then s.blk.fillReady n else s.blk).dispatchItems)) ∧
    (s.blk.st.fillWait = [] → exec .fillRetry s = .next s) ∧
    Does .fillRetry s (
      let pinned := fun (w : Bool × Nat) => !w.1 && s.blk.st.pinned.contains w.2
      let wanted := s.blk.st.fillWait.filter (fun w => pinned w || !s.blk.idleCtx w.1 w.2)
      let order := sortBy (fun x y => decide (s.blk.fillBy x.1 x.2 ≤ s.blk.fillBy y.1 y.2)) (wanted.filter (fun w => !pinned w))
      let b := { s.blk with st := { s.blk.st with fillWait := wanted } }
      let c : Block := b.pinnedWaits.foldl (fun (c : Block) n => c.fillNow false n) b
      if c.pinnedWaits = [] then order.foldl (fun (c : Block) w => if !w.1 && c.blockedCtx w.1 w.2 then c else c.fillNow w.1 w.2) c else c) ∧
    (∀ (b : Block) ad n,
      (b.objState ad n ≠ 3 ∨ b.ctx ad n ≠ none → b.fillNow ad n = b) ∧
      (b.objState ad n = 3 → b.ctx ad n = none → b.adaptersFull ad = false → b.freeCount < b.objGranules ad n → b.evictOrder false = [] →
        b.fillNow ad n = (b.count F.MDL_CNT_C_FILL_WAIT).fillLater ad n) ∧
      (b.objState ad n = 3 → b.ctx ad n = none → b.adaptersFull ad = false → b.objGranules ad n ≤ b.freeCount → b.evictOrder false = [] →
        b.fillNow ad n = ({ b with st := { b.st with
          hot := b.st.hot ++ [({ adapter := ad, num := n, granules := b.place (b.objGranules ad n), resident := false, filledTick := 0, began := b.clk.timeUs } : Ctx)]
          fillWait := b.st.fillWait.filter (fun w => w != (ad, n)) } }).setObjHot ad n 1)) ∧
    (∀ k n, s.blk.ob.checks.find? (fun c => c.1 == kindNum k && c.2.1 == n) = none → exec (.loadCheckComplete k n) s = .next s) ∧
    (∀ k n c, s.blk.ob.checks.find? (fun c => c.1 == kindNum k && c.2.1 == n) = some c →
      let base := c.2.2
      let b := { s.blk with ob := { s.blk.ob with checks := s.blk.ob.checks.erase c } }
      let st := b.checkStatus (kindNum k) n base
      let d := b.status (kindReg (kindNum k)).1 st
      let l := d.rd0 base (d.imgBytes (kindNum k) base)
      (st ≠ 0 → Does (.loadCheckComplete k n) s d) ∧
      (st = 0 → Does (.loadCheckComplete k n) s ((d.atBoundary (2 * kindNum k + 1) n base 0 (if k = .ensemble then l else [])).cfgEvent
        (kindReg (kindNum k)).2 1 n (sha384 l)))) ∧
    (∀ (b : Block) n base, let i := b.imgAt base
      (∀ k, k ≤ 4 → base % 64 ≠ 0 ∨ b.readable base 128 = false ∨ b.readable base (b.imgBytes k base) = false → b.checkStatus k n base = 2) ∧
      (base % 64 = 0 → b.readable base 128 = true →
        (b.readable base (b.imgBytes 0 base) = true →
          b.checkStatus 0 n base = (if vocOk i = true ∧ b.vocabIdNew n (iu i 8 4) = true then 0 else 2)) ∧
        (b.readable base (b.imgBytes 1 base) = true → b.checkStatus 1 n base =
          (if b.grammarOk i = false then 2 else if 4096 ≤ b.loadedCount 1 (b.ob.grammars.map (·.1)) then 4 else 0)) ∧
        (b.readable base (b.imgBytes 2 base) = true → b.checkStatus 2 n base =
          (if b.stopOk i = false then 2 else if 4096 ≤ b.loadedCount 2 (b.ob.stops.map (·.1)) then 4 else 0)) ∧
        (b.readable base (b.imgBytes 3 base) = true → b.checkStatus 3 n base =
          (if b.matcherOk i = false then 2 else if n = 0 ∨ 1023 < n ∨ b.loadedSoon 3 n (tget b.ob.msets n).isSome = true then 3
            else if 1023 ≤ b.loadedCount 3 (b.ob.msets.map (·.1)) then 4 else 0)) ∧
        (b.readable base (b.imgBytes 4 base) = true → b.checkStatus 4 n base =
          (if orchardOk i = false then 2 else if n = 0 ∨ b.loadedSoon 4 n (tget b.ob.ensembles n).isSome = true then 3
            else if b.storeFree < oUnits (b.rd0 base (b.imgBytes 4 base)) then 4 else 0))))

/-- MODEL_REGISTER, MODEL_FETCH, MODEL_UNLOAD, MODEL_PIN, MODEL_UNPIN, ADAPTER_REGISTER, ADAPTER_UNREGISTER and ADAPTER_FETCH. Each, where the write of its command register passes the tests of register writes (an unload of a busy model or an unregister of an adapter in use does not): the write is answered OK and its fields stand. Registering an object that is neither EMPTY nor FAILED is answered 3, with a record that breaks the rules of its format 2; else its record is written, the event joins the digest of the configuration, and it is COLD with STATUS 0 or its load starts with STATUS 1. A fetch is answered 3 where the object is EMPTY or FAILED and 0 where it is WARM; where it is COLD its load starts, and where it loads the command waits for it. Unloading or unregistering what is EMPTY is answered 3; else its granules, its copy and what waits for it go, it becomes EMPTY with its record zeroed (a WARM model kept COLD becomes COLD), STATUS 0, and the event joins the digest. Pinning a model that firmware has pinned is answered 0, one where the pins would not fit 4, else the model takes firmware's pin with 0; unpinning one that firmware has not pinned is answered 3, else the pin goes with 0. A load that starts takes the lowest room in the warm region, or waits and is counted, and needs of one object share one load. (09_model_store.md, 14_stem_and_management_ports.md) -/
def Obligations.ModelCommands : Prop :=
  ∀ (s : State) (src : RegSrc) (n : Nat), s.blk.alive = true →
    let ends := fun (b : Block) (ad : Bool) (st : Nat) =>
      (if ad = true then { b with st := { b.st with cmdAdapter := none } } else { b with st := { b.st with cmdModel := none } }).status
        (if ad = true then F.MDL_ADP_CMD_STATUS else F.MDL_CMD_STATUS) st
    let waits := fun (b : Block) (ad : Bool) =>
      (if ad = true then { b with st := { b.st with cmdAdapter := some n } } else { b with st := { b.st with cmdModel := some n } }).status
        (if ad = true then F.MDL_ADP_CMD_STATUS else F.MDL_CMD_STATUS) 1
    let gone := fun (b : Block) (ad : Bool) =>
      let c := (if b.ctx ad n = none then b else b.unhot ad n).freeWarm ad n
      { c with st := { c.st with loads := c.st.loads.filter (fun l => !(l.1 == ad && l.2.1 == n)), fillWait := c.st.fillWait.filter (· != (ad, n)) } }
    (n < 8192 →
    (s.blk.accepts src 0x0B38 (wput [(F.MDL_CMD_NUMBER, n), (F.MDL_CMD_OP, 1)]) false →
      let b := s.blk.written src 0x0B38 (wput [(F.MDL_CMD_NUMBER, n), (F.MDL_CMD_OP, 1)])
      (b.objState false n ≠ 0 → b.objState false n ≠ 4 → Does (.modelRegister src n) s (ends b false 3)) ∧
      (b.objState false n = 0 ∨ b.objState false n = 4 →
        let r := if b.fget F.MDL_ARG_BASE % 64 = 0 ∧ b.readable (b.fget F.MDL_ARG_BASE) 128 = true then b.rd0 (b.fget F.MDL_ARG_BASE) 128 else []
        let cold := lefld r 16 1 = 1
        let fits := if cold then gaSpace (lefld r 0 8) = 5 ∨ gaSpace (lefld r 0 8) = 6 else gaSpace (lefld r 0 8) = 0 ∧ gaNode (lefld r 0 8) = b.node
        let good := r ≠ [] ∧ lefld r 16 1 ≤ 1 ∧ allZero ((r.drop 17).take 47) = true ∧ allZero (r.drop 112) = true ∧ fits
        (¬ good → Does (.modelRegister src n) s (ends b false 2)) ∧
        (good →
          let pins := b.heldPins n
          let a := b.wr0 (b.objAddr false n) (leBytes 3 0 ++ leBytes 1 (if cold then 2 else 0) ++ leBytes 4 pins ++ r.take 16 ++ zeros 40 ++ (r.drop 64).take 48 ++ zeros 16)
          let keep := a.st.pinned.filter (· != n)
          let wait := a.st.fillWait.filter (· != (false, n))
          let c := { a with st := { a.st with
            pinned := if pins = 0 then keep else sortNat (n :: keep)
            fillWait := if pins = 0 then wait else wait ++ [(false, n)]
            heads := tdel a.st.heads n } }
          let d := c.cfgEvent 0x0B38 1 n ((r.drop 64).take 48)
          (cold → Does (.modelRegister src n) s (ends (d.setObjState false n 1) false 0)) ∧
          (¬ cold → Does (.modelRegister src n) s ((waits (d.setObjState false n 2) false).startLoad false n))))) ∧
    (s.blk.accepts src 0x0B38 (wput [(F.MDL_CMD_NUMBER, n), (F.MDL_CMD_OP, 2)]) false →
      let b := s.blk.written src 0x0B38 (wput [(F.MDL_CMD_NUMBER, n), (F.MDL_CMD_OP, 2)])
      (b.objState false n = 0 ∨ 3 < b.objState false n → Does (.modelFetch src n) s (ends b false 3)) ∧
      (b.objState false n = 1 → Does (.modelFetch src n) s ((waits b false).startLoad false n)) ∧
      (b.objState false n = 2 → Does (.modelFetch src n) s (waits b false)) ∧
      (b.objState false n = 3 → Does (.modelFetch src n) s (ends b false 0))) ∧
    (s.blk.accepts src 0x0B38 (wput [(F.MDL_CMD_NUMBER, n), (F.MDL_CMD_OP, 3)]) (s.blk.modelBusy n) →
      let b := s.blk.written src 0x0B38 (wput [(F.MDL_CMD_NUMBER, n), (F.MDL_CMD_OP, 3)])
      (b.objState false n = 0 → Does (.modelUnload src n) s (ends b false 3)) ∧
      (b.objState false n ≠ 0 →
        let d := (gone b false).dropStates n
        let back := b.objState false n = 3 ∧ (b.cat n 3 1).testBit 1 = true
        let e := if back then d.setObjState false n 1
          else { (d.wr0 (d.objAddr false n) (zeros 128)) with st := { d.st with heads := tdel d.st.heads n } }
        Does (.modelUnload src n) s ((ends e false 0).cfgEvent 0x0B38 3 n []))) ∧
    (s.blk.accepts src 0x0B38 (wput [(F.MDL_CMD_NUMBER, n), (F.MDL_CMD_OP, 4)]) false →
      let b := s.blk.written src 0x0B38 (wput [(F.MDL_CMD_NUMBER, n), (F.MDL_CMD_OP, 4)])
      let mine := b.objState false n = 3 ∧ (b.cat n 3 1).testBit 0 = true
      (mine → Does (.modelPin src n) s (ends b false 0)) ∧
      (¬ mine → b.pinOk [n] = false → Does (.modelPin src n) s (ends b false 4)) ∧
      (¬ mine → b.pinOk [n] = true → Does (.modelPin src n) s (ends ((b.objPut false n 3 1 (b.cat n 3 1 ||| 1)).pin n) false 0))) ∧
    (s.blk.accepts src 0x0B38 (wput [(F.MDL_CMD_NUMBER, n), (F.MDL_CMD_OP, 5)]) false →
      let b := s.blk.written src 0x0B38 (wput [(F.MDL_CMD_NUMBER, n), (F.MDL_CMD_OP, 5)])
      ((b.cat n 3 1).testBit 0 = false → Does (.modelUnpin src n) s (ends b false 3)) ∧
      ((b.cat n 3 1).testBit 0 = true → Does (.modelUnpin src n) s (ends ((b.objPut false n 3 1 (b.cat n 3 1 / 2 * 2)).unpin n) false 0)))) ∧
    (n < 262144 →
    (s.blk.accepts src 0x0B50 (wput [(F.MDL_ADP_CMD_NUMBER, n), (F.MDL_ADP_CMD_OP, 1)]) false →
      let b := s.blk.written src 0x0B50 (wput [(F.MDL_ADP_CMD_NUMBER, n), (F.MDL_ADP_CMD_OP, 1)])
      (b.objState true n ≠ 0 → b.objState true n ≠ 4 → Does (.adapterRegister src n) s (ends b true 3)) ∧
      (b.objState true n = 0 ∨ b.objState true n = 4 →
        let r := if b.fget F.MDL_ARG_BASE % 64 = 0 ∧ b.readable (b.fget F.MDL_ARG_BASE) 128 = true then b.rd0 (b.fget F.MDL_ARG_BASE) 128 else []
        let cold := lefld r 15 1 = 1
        let fits := if cold then gaSpace (lefld r 0 8) = 5 ∨ gaSpace (lefld r 0 8) = 6 else gaSpace (lefld r 0 8) = 0 ∧ gaNode (lefld r 0 8) = b.node
        let base := lefld r 16 4
        let good := r ≠ [] ∧ lefld r 15 1 ≤ 1 ∧ allZero ((r.drop 20).take 44) = true ∧ allZero (r.drop 112) = true ∧ fits ∧ 1 ≤ lefld r 14 1 ∧ lefld r 14 1 ≤ 64 ∧
          base < 8192 ∧ (b.objState false base = 1 ∨ b.objState false base = 3) ∧ lefld r 14 1 ≤ b.header base 44 1
        (¬ good → Does (.adapterRegister src n) s (ends b true 2)) ∧
        (good →
          let a := b.wr0 (b.objAddr true n) ((r.drop 12).take 3 ++ zeros 5 ++ leBytes 4 base ++ zeros 4 ++ r.take 8 ++ zeros 8 ++ (r.drop 8).take 4 ++ zeros 28)
          let c := { a with st := { a.st with adpDigest := tset a.st.adpDigest n ((r.drop 64).take 48) } }
          let d := c.cfgEvent 0x0B50 1 n ((r.drop 64).take 48)
          (cold → Does (.adapterRegister src n) s (ends (d.setObjState true n 1) true 0)) ∧
          (¬ cold → Does (.adapterRegister src n) s ((waits (d.setObjState true n 2) true).startLoad true n))))) ∧
    (s.blk.accepts src 0x0B50 (wput [(F.MDL_ADP_CMD_NUMBER, n), (F.MDL_ADP_CMD_OP, 2)]) (s.blk.live.any (fun e => (s.blk.adapters e).contains n)) →
      let b := s.blk.written src 0x0B50 (wput [(F.MDL_ADP_CMD_NUMBER, n), (F.MDL_ADP_CMD_OP, 2)])
      (b.objState true n = 0 → Does (.adapterUnregister src n) s (ends b true 3)) ∧
      (b.objState true n ≠ 0 →
        let d := (gone b true).wr0 (b.objAddr true n) (zeros 64)
        let e := { d with st := { d.st with adpDigest := tdel d.st.adpDigest n } }
        Does (.adapterUnregister src n) s ((ends e true 0).cfgEvent 0x0B50 2 n []))) ∧
    (s.blk.accepts src 0x0B50 (wput [(F.MDL_ADP_CMD_NUMBER, n), (F.MDL_ADP_CMD_OP, 3)]) false →
      let b := s.blk.written src 0x0B50 (wput [(F.MDL_ADP_CMD_NUMBER, n), (F.MDL_ADP_CMD_OP, 3)])
      (b.objState true n = 0 ∨ 3 < b.objState true n → Does (.adapterFetch src n) s (ends b true 3)) ∧
      (b.objState true n = 1 → Does (.adapterFetch src n) s ((waits b true).startLoad true n)) ∧
      (b.objState true n = 2 → Does (.adapterFetch src n) s (waits b true)) ∧
      (b.objState true n = 3 → Does (.adapterFetch src n) s (ends b true 0)))) ∧
    (∀ (b : Block) ad,
      (b.loading ad n ≠ none → b.startLoad ad n = b) ∧
      (b.loading ad n = none →
        let rest := b.st.loads.filter (fun l => !(l.1 == ad && l.2.1 == n))
        let units := cdiv (b.objBytes ad n) 2097152
        (b.warmRoom units = none → b.startLoad ad n = ({ b with st := { b.st with loads := rest ++ [(ad, n, none)] } }).count F.MDL_CNT_C_WARM_WAIT) ∧
        (∀ u, firstFit (b.st.warm.map (fun w => (w.2.2.1, w.2.2.2))) (b.fget F.MDL_WARM_SIZE_UNITS) units = some u →
          let c := { b with st := { b.st with loads := rest ++ [(ad, n, some b.clk.timeUs)], warm := b.st.warm ++ [(ad, n, u, units)] } }
          b.startLoad ad n = (c.setObjState ad n 2).objPut ad n 24 8 (c.fget F.MDL_WARM_BASE + u * 2097152))))

/-- Loading and unloading vocabularies, grammars, stop sets, ensembles and matcher sets, releasing thread groups and matchers, defining and undefining profiles. Each, where the write of its command register passes the tests of register writes (the object is not in use or under a command): a load puts the check of the image at the address register last among the checks under way, with STATUS 1; an unload of a loaded object takes it out at the next tick boundary with STATUS 0, its event joining the digest of the configuration, and of one not loaded answers 3; grammar 0 and stop set 0 are answered 2; a release waits, with STATUS 1, for the next tick boundary. A define of a profile whose record at VRD_ARG breaks a check is answered 2, one whose Sloe models cannot be pinned 4; else the pins of the record replace those of the record before, the profile stands at the next tick boundary with its version one higher, and the PROFILE event is logged, STATUS 0. An undefine of a profile that is not defined is answered 3; else its ACTIVE bit is cleared at once, a define of it that waits is given up, its pins go, and the PROFILE event is logged, STATUS 0. (05_tokenizer_detokenizer.md, 06_grammar_and_stop.md, 10_orchard.md, 11_matchers_and_verdicts.md, 14_stem_and_management_ports.md) -/
def Obligations.ObjectCommands : Prop :=
  ∀ (s : State) (src : RegSrc) (n : Nat), s.blk.alive = true →
    let check := fun (b : Block) (kind base : Nat) => { b with ob := { b.ob with checks := b.ob.checks ++ [(kind, n, base)] } }
    let act := fun (b : Block) (what c : Nat) (l : List Byte) =>
      { b with ob := { b.ob with acts := b.ob.acts ++ [{ what := what, a := n, b := c, c := 0, bytes := l }] } }
    let event := fun (b : Block) (version op : Nat) => b.logEvent 1 (leBytes 2 n ++ leBytes 2 version ++ leBytes 1 op)
    (n < 32 → s.blk.accepts src 0x0440 (wput [(F.TOK_SLOT_CMD_SLOT, n), (F.TOK_SLOT_CMD_OP, 1)]) (s.blk.objBusy 0 n || s.blk.live.any (fun e => s.blk.eget e E.VOCAB == n)) →
      let b := s.blk.written src 0x0440 (wput [(F.TOK_SLOT_CMD_SLOT, n), (F.TOK_SLOT_CMD_OP, 1)])
      Does (.tokSlotLoad src n) s ((check b 0 (b.fget F.TOK_SLOT_ADDR_BASE)).status F.TOK_SLOT_CMD_STATUS 1)) ∧
    (n < 32 → s.blk.accepts src 0x0440 (wput [(F.TOK_SLOT_CMD_SLOT, n), (F.TOK_SLOT_CMD_OP, 2)]) (s.blk.objBusy 0 n || s.blk.live.any (fun e => s.blk.eget e E.VOCAB == n)) →
      let b := s.blk.written src 0x0440 (wput [(F.TOK_SLOT_CMD_SLOT, n), (F.TOK_SLOT_CMD_OP, 2)])
      (tget b.ob.vocabs n ≠ none → Does (.tokSlotUnload src n) s (((act b 2 0 []).status F.TOK_SLOT_CMD_STATUS 0).cfgEvent 0x0440 2 n [])) ∧
      (tget b.ob.vocabs n = none → Does (.tokSlotUnload src n) s (b.status F.TOK_SLOT_CMD_STATUS 3))) ∧
    (n < 65536 → n ≠ 0 → s.blk.accepts src 0x0600 (wput [(F.GRM_CMD_NUMBER, n), (F.GRM_CMD_OP, 1)]) (s.blk.objBusy 1 n || s.blk.live.any (fun e => s.blk.eget e E.GRAMMAR == n)) →
      let b := s.blk.written src 0x0600 (wput [(F.GRM_CMD_NUMBER, n), (F.GRM_CMD_OP, 1)])
      Does (.grammarLoad src n) s ((check b 1 (b.fget F.GRM_ADDR_BASE)).status F.GRM_CMD_STATUS 1)) ∧
    (n < 65536 → n ≠ 0 → s.blk.accepts src 0x0600 (wput [(F.GRM_CMD_NUMBER, n), (F.GRM_CMD_OP, 2)]) (s.blk.objBusy 1 n || s.blk.live.any (fun e => s.blk.eget e E.GRAMMAR == n)) →
      let b := s.blk.written src 0x0600 (wput [(F.GRM_CMD_NUMBER, n), (F.GRM_CMD_OP, 2)])
      (tget b.ob.grammars n ≠ none → Does (.grammarUnload src n) s (((act b 4 0 []).status F.GRM_CMD_STATUS 0).cfgEvent 0x0600 2 n [])) ∧
      (tget b.ob.grammars n = none → Does (.grammarUnload src n) s (b.status F.GRM_CMD_STATUS 3))) ∧
    (s.blk.accepts src 0x0600 (wput [(F.GRM_CMD_NUMBER, 0), (F.GRM_CMD_OP, 1)]) false → Does (.grammarLoad src 0) s ((s.blk.written src 0x0600 (wput [(F.GRM_CMD_NUMBER, 0), (F.GRM_CMD_OP, 1)])).status F.GRM_CMD_STATUS 2)) ∧
    (s.blk.accepts src 0x0600 (wput [(F.GRM_CMD_NUMBER, 0), (F.GRM_CMD_OP, 2)]) false → Does (.grammarUnload src 0) s ((s.blk.written src 0x0600 (wput [(F.GRM_CMD_NUMBER, 0), (F.GRM_CMD_OP, 2)])).status F.GRM_CMD_STATUS 2)) ∧
    (n < 65536 → n ≠ 0 → s.blk.accepts src 0x0680 (wput [(F.STP_CMD_NUMBER, n), (F.STP_CMD_OP, 1)]) (s.blk.objBusy 2 n || s.blk.live.any (fun e => s.blk.eget e E.STOPSET == n)) →
      let b := s.blk.written src 0x0680 (wput [(F.STP_CMD_NUMBER, n), (F.STP_CMD_OP, 1)])
      Does (.stopsetLoad src n) s ((check b 2 (b.fget F.STP_ADDR_BASE)).status F.STP_CMD_STATUS 1)) ∧
    (n < 65536 → n ≠ 0 → s.blk.accepts src 0x0680 (wput [(F.STP_CMD_NUMBER, n), (F.STP_CMD_OP, 2)]) (s.blk.objBusy 2 n || s.blk.live.any (fun e => s.blk.eget e E.STOPSET == n)) →
      let b := s.blk.written src 0x0680 (wput [(F.STP_CMD_NUMBER, n), (F.STP_CMD_OP, 2)])
      (tget b.ob.stops n ≠ none → Does (.stopsetUnload src n) s (((act b 6 0 []).status F.STP_CMD_STATUS 0).cfgEvent 0x0680 2 n [])) ∧
      (tget b.ob.stops n = none → Does (.stopsetUnload src n) s (b.status F.STP_CMD_STATUS 3))) ∧
    (s.blk.accepts src 0x0680 (wput [(F.STP_CMD_NUMBER, 0), (F.STP_CMD_OP, 1)]) false → Does (.stopsetLoad src 0) s ((s.blk.written src 0x0680 (wput [(F.STP_CMD_NUMBER, 0), (F.STP_CMD_OP, 1)])).status F.STP_CMD_STATUS 2)) ∧
    (s.blk.accepts src 0x0680 (wput [(F.STP_CMD_NUMBER, 0), (F.STP_CMD_OP, 2)]) false → Does (.stopsetUnload src 0) s ((s.blk.written src 0x0680 (wput [(F.STP_CMD_NUMBER, 0), (F.STP_CMD_OP, 2)])).status F.STP_CMD_STATUS 2)) ∧
    (n < 256 → s.blk.accepts src 0x0C00 (wput [(F.ORC_CMD_NUMBER, n), (F.ORC_CMD_OP, 1)]) false →
      let b := s.blk.written src 0x0C00 (wput [(F.ORC_CMD_NUMBER, n), (F.ORC_CMD_OP, 1)])
      Does (.ensembleLoad src n) s ((check b 4 (b.fget F.ORC_ADDR_BASE)).status F.ORC_CMD_STATUS 1)) ∧
    (n < 256 → s.blk.accepts src 0x0C00 (wput [(F.ORC_CMD_NUMBER, n), (F.ORC_CMD_OP, 2)]) (s.blk.ensBusy n) →
      let b := s.blk.written src 0x0C00 (wput [(F.ORC_CMD_NUMBER, n), (F.ORC_CMD_OP, 2)])
      (tget b.ob.ensembles n ≠ none → Does (.ensembleUnload src n) s (((act b 10 0 []).status F.ORC_CMD_STATUS 0).cfgEvent 0x0C00 2 n [])) ∧
      (tget b.ob.ensembles n = none → Does (.ensembleUnload src n) s (b.status F.ORC_CMD_STATUS 3))) ∧
    (n < 1024 → s.blk.accepts src 0x0D00 (wput [(F.MAT_CMD_NUMBER, n), (F.MAT_CMD_OP, 1)]) (s.blk.msetBusy n) →
      let b := s.blk.written src 0x0D00 (wput [(F.MAT_CMD_NUMBER, n), (F.MAT_CMD_OP, 1)])
      Does (.matcherSetLoad src n) s ((check b 3 (b.fget F.MAT_ADDR_BASE)).status F.MAT_CMD_STATUS 1)) ∧
    (n < 1024 → s.blk.accepts src 0x0D00 (wput [(F.MAT_CMD_NUMBER, n), (F.MAT_CMD_OP, 2)]) (s.blk.msetBusy n) →
      let b := s.blk.written src 0x0D00 (wput [(F.MAT_CMD_NUMBER, n), (F.MAT_CMD_OP, 2)])
      (tget b.ob.msets n ≠ none → Does (.matcherSetUnload src n) s (((act b 8 0 []).status F.MAT_CMD_STATUS 0).cfgEvent 0x0D00 2 n [])) ∧
      (tget b.ob.msets n = none → Does (.matcherSetUnload src n) s (b.status F.MAT_CMD_STATUS 3))) ∧
    (n < 256 → s.blk.accepts src 0x0C00 (wput [(F.ORC_CMD_NUMBER, n), (F.ORC_CMD_OP, 3)]) false → Does (.threadGroupRelease src n) s (act ((s.blk.written src 0x0C00 (wput [(F.ORC_CMD_NUMBER, n), (F.ORC_CMD_OP, 3)])).status F.ORC_CMD_STATUS 1) 13 0 [])) ∧
    (n < 1024 → s.blk.accepts src 0x0D00 (wput [(F.MAT_CMD_NUMBER, n), (F.MAT_CMD_OP, 3)]) false → Does (.matcherRelease src n) s (act ((s.blk.written src 0x0D00 (wput [(F.MAT_CMD_NUMBER, n), (F.MAT_CMD_OP, 3)])).status F.MAT_CMD_STATUS 1) 14 0 [])) ∧
    (n < 4096 → s.blk.accepts src 0x0E08 (wput [(F.VRD_CMD_PROFILE, n), (F.VRD_CMD_OP, 1)]) (s.blk.live.any (fun e => s.blk.eget e E.PROFILE == n)) →
      let b := s.blk.written src 0x0E08 (wput [(F.VRD_CMD_PROFILE, n), (F.VRD_CMD_OP, 1)])
      let a := b.fget F.VRD_ARG_BASE
      let r := if a % 64 = 0 ∧ b.readable a 512 = true then b.rd0 a 512 else []
      let old := b.profNow n
      let drop := (old.map sloesOf).getD []
      let fit := b.pinsFit (b.fget F.MDL_CTRL_FREE_MIN) drop (sloesOf r)
      (b.profileOk r = false → Does (.profileDefine src n) s (b.status F.VRD_CMD_STATUS 2)) ∧
      (b.profileOk r = true → fit = false → Does (.profileDefine src n) s (b.status F.VRD_CMD_STATUS 4)) ∧
      (b.profileOk r = true → fit = true →
        let version := (((old.map (fun o => lefld o 16 2)).getD (b.prof n 16 2)) + 1) % 65536
        let rec_ := leBytes 4 (lefld r 0 4 ||| 1) ++ (r.drop 4).take 12 ++ leBytes 2 version ++ r.drop 18
        let c := drop.foldl (fun c m => c.unpin m) ((sloesOf r).foldl (fun c m => c.pin m) b)
        Does (.profileDefine src n) s (((event (act c 20 0 rec_) version 1).status F.VRD_CMD_STATUS 0).cfgEvent 0x0E08 1 n rec_))) ∧
    (n < 4096 → s.blk.accepts src 0x0E08 (wput [(F.VRD_CMD_PROFILE, n), (F.VRD_CMD_OP, 2)]) (s.blk.live.any (fun e => s.blk.eget e E.PROFILE == n)) →
      let b := s.blk.written src 0x0E08 (wput [(F.VRD_CMD_PROFILE, n), (F.VRD_CMD_OP, 2)])
      (b.profNow n = none → Does (.profileUndefine src n) s (b.status F.VRD_CMD_STATUS 3)) ∧
      (∀ r, b.profNow n = some r →
        let c := { b with ob := { b.ob with acts := b.ob.acts.filter (fun a => !(a.what == 20 && a.a == n)) } }
        let a := c.fget F.VRD_PROF_BASE_BASE + 512 * n
        let d := (sloesOf r).foldl (fun c m => c.unpin m) ((c.wr0 a (leBytes 4 (lefld r 0 4 / 2 * 2))).wr0 (a + 16) (leBytes 2 (lefld r 16 2)))
        Does (.profileUndefine src n) s (((event d (lefld r 16 2) 2).status F.VRD_CMD_STATUS 0).cfgEvent 0x0E08 2 n [])))

/-- REGISTER_WRITE: performed whole or refused whole, by the classes of the fields. A write at an offset that no register occupies is answered NO_REGISTER; a write that fails a test of register writes is answered with that test's status; either changes nothing but the response shown to its source. A write of a register of the management ports with bad parity is answered PARITY and counted. A write of VRD_LOG_TAKEN that stands lets verdict log records that waited for room be written. A write that passes and starts no command leaves every field by its class: an RW or RWI field takes the value written, a W1C field loses the bits written 1, an RO or reserved field stays, and an RWT or RWG field leaves the register in force as it is, its value waiting for the boundary or the commit. (14_stem_and_management_ports.md, 18_register_summary.md) -/
def Obligations.RegisterWrites : Prop :=
  ∀ (s : State) (src : RegSrc) (off : Nat) (v : Word), s.blk.alive = true →
    let sem := 0x1100 ≤ off ∧ off < 0x1200
    (findReg off = none → Does (.registerWrite src off v true) s (s.blk.respond src 6)) ∧
    (¬ sem → off ≠ 0x0E30 → ∀ r, findReg off = some r → (s.blk.run? || ownRules off) = true → s.blk.regTest src r off v false ≠ 0 →
      Does (.registerWrite src off v true) s (s.blk.respond src (s.blk.regTest src r off v false))) ∧
    (¬ sem → off ≠ 0x0E30 → s.blk.accepts src off v false → opOf off v = 0 → Does (.registerWrite src off v true) s (s.blk.written src off v)) ∧
    (off = 0x0E30 → s.blk.accepts src off v false → Does (.registerWrite src off v true) s (s.blk.written src off v).logPump) ∧
    (src = .portA ∨ src = .portB → Does (.registerWrite src off v false) s ((s.blk.count F.MGT_CNT_PORT_PARITY).respond src 7)) ∧
    (¬ sem → ∀ f : FDesc, f.resv = false → f.lo + f.wid ≤ 64 → (opFld off).map (·.lo) ≠ some f.lo →
      let g : Fld := ⟨off, f.lo, f.wid⟩
      let c := s.blk.putField off v f
      (f.acc = .rw ∨ f.acc = .rwi → c.fget g = bits v.toNat f.lo f.wid) ∧
      (f.acc = .w1c → ∀ i, (c.fget g).testBit i = ((s.blk.fget g).testBit i && !(bits v.toNat f.lo f.wid).testBit i)) ∧
      (f.acc = .ro ∨ f.acc = .rwt ∨ f.acc = .rwg → ∀ o, c.reg o = s.blk.reg o))

/-- MGT_COMMIT_GROUP and MGT_ABORT_GROUP. Where the write of MGT_COMMIT for group g (0 to 15) passes the tests of register writes, in RUN: a commit whose values fail the group's consistency check is answered COMMIT_REFUSED and leaves staged and committed values as they were; one that passes commits every register of the group at its staged value, or its committed value where nothing is staged, discards the staged values, and waits for the tick boundary at which it takes effect, the registers in force being as before. An abort discards every staged value of the group and no other. With bad parity at a management port the write is answered PARITY and does nothing. (14_stem_and_management_ports.md, 18_register_summary.md) -/
def Obligations.CommitAndAbort : Prop :=
  ∀ (s : State) (src : RegSrc) (g : Nat), s.blk.alive = true → s.blk.run? = true → g < 16 →
    (s.blk.accepts src 0x1008 (cmdWord [(0, g), (8, 1)]) false →
      let b := s.blk.written src 0x1008 (cmdWord [(0, g), (8, 1)])
      let r := (b.candidate g).groupCheck b g true (b.candidate g).tableBytes
      (r.1 ≠ 0 → ∃ t, exec (.mgtCommitGroup src g true) s = .next { s with blk := t } ∧ t.regs = b.regs ∧
        (tget t.mgt.rsp (srcKey src)).map (·.1) = some 3) ∧
      (r.1 = 0 → ∃ t, exec (.mgtCommitGroup src g true) s = .next { s with blk := t } ∧
        (∀ d ∈ groupRegs g, tgetD t.regs.committed d.off 0 = (b.candidate g).reg d.off &&& d.rwgMask) ∧
        (∀ d ∈ groupRegs g, tget t.regs.staged d.off = none) ∧ g ∈ t.regs.comPend ∧
        (∀ d ∈ groupRegs g, t.reg d.off = b.reg d.off))) ∧
    (s.blk.accepts src 0x1008 (cmdWord [(0, g), (8, 2)]) false →
      let b := s.blk.written src 0x1008 (cmdWord [(0, g), (8, 2)])
      ∃ t, exec (.mgtAbortGroup src g true) s = .next { s with blk := t } ∧ t.regs.committed = b.regs.committed ∧
        (∀ d ∈ groupRegs g, ∀ p ∈ t.regs.staged, p.1 ≠ d.off) ∧
        (∀ p ∈ b.regs.staged, (∀ d ∈ groupRegs g, p.1 ≠ d.off) → p ∈ t.regs.staged)) ∧
    (src = .portA ∨ src = .portB → Does (.mgtCommitGroup src g false) s ((s.blk.count F.MGT_CNT_PORT_PARITY).respond src 7) ∧
      Does (.mgtAbortGroup src g false) s ((s.blk.count F.MGT_CNT_PORT_PARITY).respond src 7))

/-- Acquiring, renewing, releasing and losing a semaphore. For each of the 32 semaphores, at time now of TIME_US, a lease whose expiry has come being gone first (the holder none, its group aborted, the expiry counted and reported with code 1 and detail nn + 256 * former holder): an acquire by a management port with a lease of 100 to 1,000,000 us takes a semaphore that is free or its own, with expiry now + lease, and is answered OK, and otherwise is answered SEM_HELD and counted; a renew by the holder sets the expiry to now + lease and is answered OK, and by another is answered SEM_NOT_HELD and counted; a release by the holder frees it, discards the staged values of commit group nn for nn up to 15, and is answered OK, and by another is answered SEM_NOT_HELD and counted. An acquire or renew with any other LEASE_US is answered READ_ONLY and changes nothing. The time base reaching the expiry of a held semaphore frees it likewise. (R421) -/
def Obligations.SemaphoreProcedure : Prop :=
  ∀ (s : State) (src : RegSrc) (n lease : Nat), s.blk.alive = true → s.blk.run? = true → n < 32 → (src = .portA ∨ src = .portB) →
    let f := (s.blk.respond src 0).semFresh n
    let p := portNo src
    let h := (f.semAt n).holder
    let now := s.blk.clk.timeUs
    let held : Sem := { holder := p, expiry := now + lease, lease := lease }
    (100 ≤ lease → lease ≤ 1000000 →
      (h = 0 ∨ h = p → Does (.semAcquire src n lease) s ((f.setSem n held).respond src 0)) ∧
      (h ≠ 0 → h ≠ p → Does (.semAcquire src n lease) s ((f.count F.SEM_CNT_REFUSED).respond src 5)) ∧
      (h = p → Does (.semRenew src n lease) s ((f.setSem n held).respond src 0)) ∧
      (h ≠ p → Does (.semRenew src n lease) s ((f.count F.SEM_CNT_REFUSED).respond src 4))) ∧
    (lease < 1048576 → lease < 100 ∨ 1000000 < lease →
      Does (.semAcquire src n lease) s (s.blk.respond src 1) ∧ Does (.semRenew src n lease) s (s.blk.respond src 1)) ∧
    (h = p → Does (.semRelease src n) s
      (((f.setSem n { (f.semAt n) with holder := 0 }).semAbort n).respond src 0)) ∧
    (h ≠ p → Does (.semRelease src n) s ((f.count F.SEM_CNT_REFUSED).respond src 4)) ∧
    (∀ b : Block, let m := b.semAt n
      b.semFresh n = (if m.holder ≠ 0 ∧ m.expiry ≤ b.clk.timeUs then
        (((b.setSem n { m with holder := 0 }).semAbort n).count F.SEM_CNT_EXPIRED).report 18 1 (n + 256 * m.holder) else b) ∧
      b.semAbort n = (if n ≤ 15 then { b with regs := { b.regs with
        staged := b.regs.staged.filter (fun e => !((groupRegs n).any (fun r => r.off == e.1))) } } else b)) ∧
    ((s.blk.semAt n).holder ≠ 0 → let b := s.blk.advance (s.blk.semAt n).expiry
      Does (.semLeaseExpire n) s
        (((((b.setSem n { (s.blk.semAt n) with holder := 0 }).semAbort n).count F.SEM_CNT_EXPIRED).report 18 1 (n + 256 * (s.blk.semAt n).holder)).settled)) ∧
    ((s.blk.semAt n).holder = 0 → exec (.semLeaseExpire n) s = .next s)

/-- No other port's semaphore commands take a semaphore from its holder while the lease lasts. Let port A hold semaphore n with its lease not yet expired, and let every waiting command be an acquire, renew or release, of any semaphore, by a source other than port A. Running them all answers a next state in which port A still holds semaphore n with the same expiry, and in which no time of TIME_US has passed. (14_stem_and_management_ports.md) -/
def Obligations.SemaphoreExclusion : Prop :=
  ∀ (s : State) (n : Nat), (s.blk.semAt n).holder = 1 → s.blk.clk.timeUs < (s.blk.semAt n).expiry →
    (∀ c ∈ s.pending, ∃ src m lease, src ≠ RegSrc.portA ∧ (c = .semAcquire src m lease ∨ c = .semRenew src m lease ∨ c = .semRelease src m)) →
    ∃ t : State, Host.Core.run Sys2Proof.core s.pending.length s = .next t ∧ t.blk.semAt n = s.blk.semAt n ∧ t.blk.clk.timeUs = s.blk.clk.timeUs

/-- Page, Pip, cluster, sequencer, link and stack commands, and the read of LGR_PG_A. Each command, where the write of its command register passes the tests of register writes: a page command waits for the next Publish with STATUS 4; the release of a Pip or a cluster, the release or retirement of a link, lane, Stem port or text unit, and the release or retirement of a pseudo-channel or stack wait for the next tick boundary with STATUS 1, the release of a retired cluster of a quad that is switched off switching the quad on at once, ready 20 us later (the model's choice of that ramp: log 70); the restart of a sequencer waits likewise where it is halted and is answered 2 where it is not. A read of LGR_PG_A answers the register and latches the two other page counters for its source. (04_pages_prefixes_tiers.md, 08_pip_arithmetic.md, 12_nsi_instruction_set.md, 15_links_and_stack_channels.md, 14_stem_and_management_ports.md) -/
def Obligations.CommandRegisters : Prop :=
  ∀ (s : State) (src : RegSrc) (n u k : Nat), s.blk.alive = true →
    (n < 134217728 → s.blk.accepts src 0x0330 (wput [(F.PG_CMD_PAGE, n), (F.PG_CMD_OP, 1)]) false →
      let b := s.blk.written src 0x0330 (wput [(F.PG_CMD_PAGE, n), (F.PG_CMD_OP, 1)])
      Does (.pgCmdRetire src n) s (({ b with rq := { b.rq with pgCmd := b.rq.pgCmd ++ [(1, n)] } }).status F.PG_CMD_STATUS 4)) ∧
    (n < 134217728 → s.blk.accepts src 0x0330 (wput [(F.PG_CMD_PAGE, n), (F.PG_CMD_OP, 2)]) false →
      let b := s.blk.written src 0x0330 (wput [(F.PG_CMD_PAGE, n), (F.PG_CMD_OP, 2)])
      Does (.pgCmdRelease src n) s (({ b with rq := { b.rq with pgCmd := b.rq.pgCmd ++ [(2, n)] } }).status F.PG_CMD_STATUS 4)) ∧
    (n < 64 → k < 32 → s.blk.accepts src 0x0820 (wput [(F.PIP_CMD_CLUSTER, n), (F.PIP_CMD_PIP, k), (F.PIP_CMD_OP, 1)]) false →
      let b := s.blk.written src 0x0820 (wput [(F.PIP_CMD_CLUSTER, n), (F.PIP_CMD_PIP, k), (F.PIP_CMD_OP, 1)])
      Does (.pipRelease src n k) s ((b.status F.PIP_CMD_STATUS 1).atBoundary 11 n k 0)) ∧
    (n < 64 → s.blk.accepts src 0x0820 (wput [(F.PIP_CMD_CLUSTER, n), (F.PIP_CMD_OP, 2)]) false →
      let b := s.blk.written src 0x0820 (wput [(F.PIP_CMD_CLUSTER, n), (F.PIP_CMD_OP, 2)])
      Does (.clusterRelease src n) s (let w := (b.status F.PIP_CMD_STATUS 1).quadWake n
      w.1.atBoundary 12 n w.2 0)) ∧
    (n < 8 → s.blk.accepts src 0x0168 (wput [(F.TICK_SEQ_CMD_SEQ, n), (F.TICK_SEQ_CMD_OP, 1)]) false →
      let b := s.blk.written src 0x0168 (wput [(F.TICK_SEQ_CMD_SEQ, n), (F.TICK_SEQ_CMD_OP, 1)])
      Does (.seqRestartCmd src n) s (if (s.blk.exAt n).halted then (b.status F.TICK_SEQ_CMD_STATUS 1).atBoundary 19 n 0 0 else b.status F.TICK_SEQ_CMD_STATUS 2)) ∧
    (u < 8 → n < 64 → k < 4 → s.blk.accepts src 0x1408 (lnkWord 1 u n k) (s.blk.fget F.LNK_CMD_STATUS == 1) →
      let b := s.blk.written src 0x1408 (lnkWord 1 u n k)
      Does (.lnkCmdRelease src u n k) s ((b.status F.LNK_CMD_STATUS 1).atBoundary 15 u n k)) ∧
    (u < 8 → n < 64 → k < 4 → s.blk.accepts src 0x1408 (lnkWord 2 u n k) (s.blk.fget F.LNK_CMD_STATUS == 1) →
      let b := s.blk.written src 0x1408 (lnkWord 2 u n k)
      Does (.lnkCmdRetire src u n k) s ((b.status F.LNK_CMD_STATUS 1).atBoundary 16 u n k)) ∧
    (u < 4 → n < 16 → k < 64 → s.blk.accepts src 0x1908 (memWord 1 u n k) (s.blk.fget F.MEM_CMD_STATUS == 1) →
      let b := s.blk.written src 0x1908 (memWord 1 u n k)
      Does (.memCmdRelease src u n k) s ((b.status F.MEM_CMD_STATUS 1).atBoundary 17 u n k)) ∧
    (u < 4 → n < 16 → k < 64 → s.blk.accepts src 0x1908 (memWord 2 u n k) (s.blk.fget F.MEM_CMD_STATUS == 1) →
      let b := s.blk.written src 0x1908 (memWord 2 u n k)
      Does (.memCmdRetire src u n k) s ((b.status F.MEM_CMD_STATUS 1).atBoundary 18 u n k)) ∧
    (∀ c : Block, let on := c.fget F.PWR_PD_ON
      c.ob.acts.find? (fun a => a.what == 12 && a.a / 4 == n / 4 && a.b != 0) = none →
      (on.testBit (n / 4) = false → c.cp.retired.testBit n = true → (c.fget F.STA_MFG_FAIL_CLUSTERS).testBit n = false →
        c.quadWake n = (c.fset F.PWR_PD_ON (on + 2 ^ (n / 4)), c.clk.timeUs + 20)) ∧
      (on.testBit (n / 4) = true ∨ c.cp.retired.testBit n = false ∨ (c.fget F.STA_MFG_FAIL_CLUSTERS).testBit n = true → c.quadWake n = (c, 0))) ∧
    ∃ t, exec (.lgrPgARead src) s = .next { s with blk := t } ∧ tget t.mgt.rsp (srcKey src) = some (0, s.blk.regRead src 0x0380) ∧
      tget t.mgt.latch (srcKey src) = some (s.blk.reg 0x0388, s.blk.reg 0x0390)

/-- STA_START, STA_CLEAR, STA_TAKE_OVER, START_RETRY and START_LIMIT. Where the write of STA_CMD passes the tests of register writes: START in RESET or FAILED begins an attempt, and elsewhere answers 2; CLEAR in the failed state writes a CLEARED record and sets the failure count to 0, and elsewhere answers 2; TAKE_OVER while the block waits for its peer makes it active alone, in a standby that is in sync begins takeover, in a block that is no Pair answers 3, and before that answers 2. START_RETRY begins the next attempt at its time, in the retry stage only. START_LIMIT fails the attempt with LIMIT and the stage, at the limit's time, while an attempt is under way only. (17_start_pair_lifetime.md) -/
def Obligations.StartCommands : Prop :=
  ∀ (s : State) (src : RegSrc) (env : StartEnv), s.blk.alive = true →
    (s.blk.accepts src 0x0008 (wput [(F.STA_CMD_OP, 1)]) (decide (2 ≤ s.blk.stage ∧ s.blk.stage ≤ 7)) →
      let b := s.blk.written src 0x0008 (wput [(F.STA_CMD_OP, 1)])
      (s.blk.stage = 1 ∨ s.blk.stage = 10 → Does (.staStart src env) s (b.attempt env)) ∧
      (s.blk.stage ≠ 1 → s.blk.stage ≠ 10 → Does (.staStart src env) s (b.status F.STA_CMD_STATUS 2))) ∧
    (s.blk.accepts src 0x0008 (wput [(F.STA_CMD_OP, 2)]) (decide (2 ≤ s.blk.stage ∧ s.blk.stage ≤ 7)) →
      let b := s.blk.written src 0x0008 (wput [(F.STA_CMD_OP, 2)])
      (s.blk.stage = 10 →
        let c := b.newAttempt 4 0 0 0
        Does (.staClear src) s ((({ c with sa := { c.sa with f := 0, failsSinceReset := 0 } }).fset F.STA_STAT_FAILS 0).status F.STA_CMD_STATUS 0)) ∧
      (s.blk.stage ≠ 10 → Does (.staClear src) s (b.status F.STA_CMD_STATUS 2))) ∧
    (s.blk.accepts src 0x0008 (wput [(F.STA_CMD_OP, 3)]) (decide (2 ≤ s.blk.stage ∧ s.blk.stage ≤ 7)) →
      let b := s.blk.written src 0x0008 (wput [(F.STA_CMD_OP, 3)])
      (s.blk.stage = 8 → Does (.staTakeOver src) s (b.pairStart 0 false)) ∧
      (s.blk.stage = 9 → b.isPair = true → b.standby = true → b.fget F.STA_PAIR_STATE = 4 →
        Does (.staTakeOver src) s { (b.status F.STA_CMD_STATUS 1) with pair := { b.pair with taking := true } }) ∧
      (s.blk.stage = 9 → b.isPair = true → b.standby = false ∨ b.fget F.STA_PAIR_STATE ≠ 4 →
        Does (.staTakeOver src) s (b.status F.STA_CMD_STATUS 2)) ∧
      (s.blk.stage = 9 → b.isPair = false → Does (.staTakeOver src) s (b.status F.STA_CMD_STATUS 3)) ∧
      (s.blk.stage ≠ 8 → s.blk.stage ≠ 9 → Does (.staTakeOver src) s (b.status F.STA_CMD_STATUS 2))) ∧
    (∀ t, s.blk.sa.retryAt = some t → s.blk.stage = 11 → Does (.startRetry env) s ((s.blk.advance t).attempt env)) ∧
    (s.blk.sa.retryAt = none ∨ s.blk.stage ≠ 11 → exec (.startRetry env) s = .next s) ∧
    (2 ≤ s.blk.stage → s.blk.stage ≤ 7 →
      let n := s.blk.fget F.STA_DESC_LIMIT
      Does .startLimit s ((s.blk.advance (s.blk.sa.beganAt + (if n = 0 then 100 else n) * 100000)).startFailed 0x0D s.blk.stage)) ∧
    (s.blk.stage < 2 ∨ 7 < s.blk.stage → exec .startLimit s = .next s)

/-- TOD_FRAME, CAL_SYNC_TIMEOUT, LIF_RESTORE and CHECKPOINT. A time-of-day frame with a wrong sync word or CRC changes nothing, and one that does not follow the last by one second is only remembered. The second of two in a row sets the calendar and ends LOAD, and in RUN is compared with it: a difference of more than 1 ms, where the last frame showed none, sets CAL_DIFF and is reported. Without frames for 3 s in LOAD the calendar continues from the checkpoint where there is one, CAL_UNSYNC is set and reported, and LOAD ends. LIF_RESTORE, where its write passes, answers 3 where the counters are not fresh, and 2 for a record that cannot be read, fails its CRC, or is not this chip's. In RUN a checkpoint is written at its time. (17_start_pair_lifetime.md) -/
def Obligations.CalendarAndLifetime : Prop :=
  ∀ (s : State) (f : BitVec 112) (src : RegSrc), s.blk.alive = true →
    let secs := bits f.toNat 16 64
    let valid := bits f.toNat 0 16 = 0xA55A ∧ bits f.toNat 80 32 = crc32 (leBytes 8 secs)
    let follows := s.blk.sa.lastTod = some (secs - 1) ∧ 1 ≤ secs
    let b : Block := { s.blk with sa := { s.blk.sa with lastTod := some secs } }
    let far := b.calendar + 1000 < secs * 1000000 ∨ secs * 1000000 + 1000 < b.calendar
    (¬ valid → exec (.todFrame f) s = .next s) ∧
    (valid → ¬ follows → Does (.todFrame f) s b) ∧
    (valid → follows → s.blk.stage = 7 → Does (.todFrame f) s (b.setCalendar (secs * 1000000)).loadDone') ∧
    (valid → follows → s.blk.stage < 7 ∨ 9 < s.blk.stage → Does (.todFrame f) s b) ∧
    (valid → follows → s.blk.stage = 8 ∨ s.blk.stage = 9 → far → s.blk.sa.calDiff = false →
      Does (.todFrame f) s ((({ b with sa := { b.sa with calDiff := true } }).evt F.STA_EVT_CAL_DIFF).report 16 4 1)) ∧
    (valid → follows → s.blk.stage = 8 ∨ s.blk.stage = 9 → ¬ far → Does (.todFrame f) s { b with sa := { b.sa with calDiff := false } }) ∧
    (s.blk.stage = 7 →
      let a := s.blk.advance (s.blk.sa.waitUs + 3000000)
      (∀ c, a.sa.ckptCal = some c → Does .calSyncTimeout s (((a.setCalendar c).fset F.STA_STAT_CAL_UNSYNC 1).report 16 4 0).loadDone') ∧
      (a.sa.ckptCal = none → Does .calSyncTimeout s ((a.fset F.STA_STAT_CAL_UNSYNC 1).report 16 4 0).loadDone')) ∧
    (s.blk.stage ≠ 7 → exec .calSyncTimeout s = .next s) ∧
    (s.blk.accepts src 0x2010 (wput [(F.LIF_CMD_OP, 1)]) false →
      let c := s.blk.written src 0x2010 (wput [(F.LIF_CMD_OP, 1)])
      let a := c.fget F.LIF_ARG_BASE
      let l := c.rd0 a 4096
      let good := c.readable a 4096 = true ∧ crcHolds l = true ∧ lefld l 0 4 = 0x4C494645 ∧ lefld l 16 8 = c.sa.key.serial
      (c.fget F.LIF_CKPT_FRESH = 0 → Does (.lifRestore src) s (c.status F.LIF_CMD_STATUS 3)) ∧
      (c.fget F.LIF_CKPT_FRESH ≠ 0 → ¬ good → Does (.lifRestore src) s (c.status F.LIF_CMD_STATUS 2)) ∧
      (c.fget F.LIF_CKPT_FRESH ≠ 0 → good →
        let fields := (checkpointWords l).flatMap (fun w => match findReg w.1 with
          | some r => (r.fields.filter (fun f => !f.resv)).map (fun f => (Fld.mk w.1 f.lo f.wid, bits w.2 f.lo f.wid))
          | none => [])
        Does (.lifRestore src) s ((((fields.foldl (fun c f => c.count f.1 f.2) c).fset F.LIF_CKPT_SEQ (lefld l 8 8)).fset F.LIF_CKPT_FRESH 0).status
          F.LIF_CMD_STATUS 0))) ∧
    (s.blk.run? = true → Does .checkpoint s ((s.blk.advance (s.blk.sa.ckptUs + s.blk.fget F.LIF_CTRL_CHECKPOINT_S * 1000000)).checkpoint).settled) ∧
    (s.blk.run? = false → exec .checkpoint s = .next s)

/-- The commands of a Pair: hello, sync, epoch, acknowledgement, timeouts, fence and takeover. A hello that comes while the block waits for its peer completes the start: as the standby (COPYING) of an active peer of the same image, else as the active, which copies, for the lower node and the standby for the higher; of another image, it is reported and the lower node goes active alone. An active takes a peer of the same image that is not active as its new standby, and reports one of another image. A hello timeout, 1 s after the wait began, makes the lower node active alone; the higher goes on waiting. A sync of an active with 16 bytes of journal free writes the mirror records that fit and the sync record, raises the standby's epoch, and holds back the writes that waited only where records are left; with less room, or in a block that does not mirror, it writes nothing. An acknowledgement raises its counter. An active with one missing fences itself: it admits nothing, is passive with state FENCED, and drops every held write. A standby in sync applies the journal, record by record, up to its epoch, and begins takeover where no epoch comes; takeover, once begun, makes the block active and alone, counts it, reports it, and takes up the mirrored work. Each of these changes nothing in a block of another role or stage. (17_start_pair_lifetime.md) -/
def Obligations.PairCommands : Prop :=
  ∀ (s : State), s.blk.alive = true →
    let up := fun (f : Fld) (n : Nat) => s.blk.setReg f.off (s.blk.reg f.off + BitVec.ofNat 64 n)
    let as := fun (b : Block) (role : Nat) => b.startDone.fset F.STA_IDENT_PAIR_ROLE role
    let standby := fun (b : Block) => ({ (as b 1) with pair := { (as b 1).pair with lastEpochUs := (as b 1).clk.timeUs } }).fset F.STA_PAIR_STATE 3
    let alone := fun (b : Block) => if b.node < b.fget F.LNK_NODE_PEER then (as b 0).fset F.STA_PAIR_STATE 2 else b
    (∀ id node act, s.blk.stage = 8 →
      (id = s.blk.fget F.STA_IMGID_IMAGE_ID → act = true ∨ ¬ s.blk.node < node → Does (.pairHello id node act) s (standby s.blk)) ∧
      (id = s.blk.fget F.STA_IMGID_IMAGE_ID → act = false → s.blk.node < node → Does (.pairHello id node act) s (as s.blk 0).startCopy) ∧
      (id ≠ s.blk.fget F.STA_IMGID_IMAGE_ID → Does (.pairHello id node act) s (alone (s.blk.report 16 8 id)))) ∧
    (∀ id node act, s.blk.stage ≠ 8 →
      let serving := s.blk.run? = true ∧ s.blk.isPair = true ∧ s.blk.fget F.STA_IDENT_PAIR_ROLE = 0 ∧ act = false
      (serving → id = s.blk.fget F.STA_IMGID_IMAGE_ID → Does (.pairHello id node act) s (s.blk.startCopy.fset F.STA_PAIR_EPOCH_EPOCH 0)) ∧
      (serving → id ≠ s.blk.fget F.STA_IMGID_IMAGE_ID → Does (.pairHello id node act) s (s.blk.report 16 8 id)) ∧
      (¬ serving → exec (.pairHello id node act) s = .next s)) ∧
    (∀ b : Block, b.startCopy.fget F.STA_PAIR_STATE = 3 ∧ b.startCopy.fget F.STA_PAIR_ACK_ACK = 0 ∧ b.startCopy.pair.epoch = 0 ∧
      b.startCopy.mem = b.mem ∧ b.startCopy.rq = b.rq ∧
      ∀ e ∈ b.live, ∀ p ∈ cutSpan (b.extent e) (4 * b.extentCap e), p ∈ b.startCopy.pair.copy) ∧
    (s.blk.stage = 8 → Does .pairHelloTimeout s (alone (s.blk.advance (s.blk.sa.waitUs + 1000000)))) ∧
    (s.blk.stage ≠ 8 → exec .pairHelloTimeout s = .next s) ∧
    (let b := s.blk
      let room := 2 ^ b.fget F.STA_PAIR_JRNL_SIZE_LOG2 - (b.pair.journalHead - b.pair.journalAcked)
      let notes := b.pair.mirror.flatMap b.noteRecord
      let copy := b.copyNow.map (fun p => (p.1, b.ownBytes p.1 p.2))
      let tail := if copy.length = b.pair.copy.length then b.syncTail else []
      let fits := fitCount (room - 16) (notes ++ copy ++ tail)
      let whole := fits == notes.length + copy.length + tail.length && !tail.isEmpty
      let m := if whole then fits else min fits (notes.length + copy.length)
      let f := ((notes ++ copy ++ tail).take m).foldl (fun (c : Block) r => c.putRecord r.1 r.2) b
      let c := (f.putRecord 0 []).pairOp (f.fget F.LNK_NODE_PEER * 2 ^ 56 + 4 * 2 ^ 52 + 0x58) []
      (b.run? = false → exec .pairSync s = .next s) ∧
      (b.run? = true → b.mirrors = false ∨ room < 16 → Does .pairSync s b.settled) ∧
      (b.run? = true → b.mirrors = true → 16 ≤ room → ∃ t : Block, Does .pairSync s t.settled ∧ { t with pair := c.pair } = c ∧
        t.pair.epoch = c.pair.epoch + 1 ∧ t.pair.mirror = notes.drop m ∧ t.pair.copy = c.pair.copy.drop (m - notes.length) ∧
        t.pair.heads = c.pair.heads ++ [(2 * (c.pair.epoch + 1) + whole.toNat, c.pair.journalHead)] ∧
        t.pair.journalHead = c.pair.journalHead ∧ t.pair.journalAcked = c.pair.journalAcked ∧
        (whole = true → t.pair.heldWrites = c.pair.heldWrites ∧ t.pair.sides = c.live.map (fun x => (x, c.side x))) ∧
        (whole = false → t.pair.heldWrites = c.pair.heldWrites.map (fun h => { h with epoch := max h.epoch (c.pair.epoch + 2) }) ∧
          t.pair.sides = c.pair.sides))) ∧
    (s.blk.run? = true → s.blk.mirrors = true →
      (∀ n, Does (.pairAckRaise n) s (up F.STA_PAIR_ACK_ACK n).settled) ∧
      Does .pairFence s (if s.blk.pairLinks = [] then s.blk else s.blk.advance (s.blk.pair.lastEpochUs + s.blk.fget F.STA_PAIR_CFG_TIMEOUT_US)).fenced) ∧
    (s.blk.mirrors = false → (∀ n, exec (.pairAckRaise n) s = .next s) ∧ exec .pairFence s = .next s) ∧
    (∀ b : Block, b.fenced.fget F.STA_PAIR_STATE = 5 ∧ b.fenced.fget F.STA_IDENT_PAIR_ROLE = 1 ∧ b.fenced.fget F.RQT_CTRL_ADMIT_EN = 0 ∧
      b.fenced.pair.heldWrites = []) ∧
    (s.blk.standby = true → ∀ n, Does (.pairEpochRaise n) s
      (Block.applyJournal (2 ^ (up F.STA_PAIR_EPOCH_EPOCH n).fget F.STA_PAIR_JRNL_SIZE_LOG2 / 16 * (n + 1) + 1) (up F.STA_PAIR_EPOCH_EPOCH n)).settled) ∧
    (∀ (b : Block) f, let h := b.journalBytes b.pair.applied 16
      let k := lefld h 8 4
      let c := { b with pair := { b.pair with applied := b.pair.applied + 16 + cdiv k 16 * 16 } }
      (b.fget F.STA_PAIR_EPOCH_EPOCH ≤ b.pair.epoch → Block.applyJournal f b = b) ∧
      (b.pair.epoch < b.fget F.STA_PAIR_EPOCH_EPOCH → lefld h 12 4 ≠ (b.pair.epoch + 1) % 2 ^ 32 → Block.applyJournal f b = b) ∧
      (b.pair.epoch < b.fget F.STA_PAIR_EPOCH_EPOCH → lefld h 12 4 = (b.pair.epoch + 1) % 2 ^ 32 →
        (k = 0 → Block.applyJournal (f + 1) b = Block.applyJournal f c.applySync) ∧
        (8 ≤ k → k ≤ 65536 → Block.applyJournal (f + 1) b =
          Block.applyJournal f (c.applyRecord (lefld h 0 8) (b.journalBytes (b.pair.applied + 16) k))))) ∧
    (s.blk.standby = false → ∀ n, Does (.pairEpochRaise n) s s.blk.settled) ∧
    (s.blk.standby = true → s.blk.fget F.STA_PAIR_STATE = 4 →
      let b := if s.blk.pairLinks = [] then s.blk else s.blk.advance (s.blk.pair.lastEpochUs + s.blk.fget F.STA_PAIR_CFG_TIMEOUT_US)
      Does .pairStandbyTimeout s { b with pair := { b.pair with taking := true } }) ∧
    (s.blk.standby = false ∨ s.blk.fget F.STA_PAIR_STATE ≠ 4 → exec .pairStandbyTimeout s = .next s) ∧
    (∀ far, s.blk.run? = true → s.blk.pair.taking = true →
      let b := ((s.blk.fset F.STA_IDENT_PAIR_ROLE 0).fset F.STA_PAIR_STATE 2).count F.STA_PAIR_TAKEOVERS
      let c := { b with pair := { b.pair with taking := false, heldWrites := [], heads := [] } }
      let d := ((c.evt F.STA_EVT_TAKEOVER).fset F.STA_CMD_STATUS 0).report 16 5 s.blk.pair.epoch
      Does (.takeoverEffect far) s
        (((((d.takeWords.takeSides.takeAdmResults.takeRings.takePools far).takeCaches).takeScreens).takeLate).settled)) ∧
    (∀ far, s.blk.run? = false ∨ s.blk.pair.taking = false → exec (.takeoverEffect far) s = .next s)

/-- The request and response packets of a Stem port, and of a link. On a port that is up, a request of good parity is performed by its kind and answered, and a refusal is counted; with bad parity in the payload it is answered with the parity error and the port's error is counted, and with bad parity in the header it is not performed and the error is counted. A response of good parity completes the operation it answers; one that answers nothing is discarded and counted. A port that is down takes no packet. An inbound request at a link that is live is performed and answered likewise, and an inbound response completes its operation. No inbound write or atomic to spaces 1, 2, 3, 5 and 6 is performed: it is answered with an error, and memory, the request table and the registers but those that count failed operations stay. (14_stem_and_management_ports.md, 13_remote_memory_model.md) -/
def Obligations.StemPackets : Prop :=
  ∀ (s : State) (p : Pkt), s.blk.alive = true →
    let k := s.blk.stemAt p.port
    let bad := fun (b : Block) => b.stemError p.port F.MGT_STEM_PAR_ERR true
    (p.port < 8 → k.up = true → p.headerOk = true → p.payloadOk = true →
      let ask := fun kind => let r := s.blk.inbound (.stem p.port) 3 kind p
        ((if r.2.kind = 10 then r.1.count (F.MGT_STEM_ERR_RSP.at p.port) else r.1).answer p.port r.2).settled
      Does (.stemRead p) s (ask 0) ∧ Does (.stemWrite p) s (ask 1) ∧ Does (.stemAadd p) s (ask 2) ∧ Does (.stemFadd p) s (ask 3) ∧ Does (.stemCas p) s (ask 4)) ∧
    (p.port < 8 → k.up = true → p.headerOk = true → p.payloadOk = false →
      let t := bad (((s.blk.rmFail 5 false true).count (F.MGT_STEM_ERR_RSP.at p.port)).answer p.port (errRsp p.tag 5 1))
      Does (.stemRead p) s t ∧ Does (.stemWrite p) s t ∧ Does (.stemAadd p) s t ∧ Does (.stemFadd p) s t ∧ Does (.stemCas p) s t) ∧
    (p.port < 8 → k.up = true → p.headerOk = false →
      Does (.stemRead p) s (bad s.blk) ∧ Does (.stemWrite p) s (bad s.blk) ∧ Does (.stemAadd p) s (bad s.blk) ∧ Does (.stemFadd p) s (bad s.blk) ∧ Does (.stemCas p) s (bad s.blk) ∧ Does (.stemRspData p) s (bad s.blk) ∧ Does (.stemRspAck p) s (bad s.blk) ∧ Does (.stemRspErr p) s (bad s.blk)) ∧
    (8 ≤ p.port ∨ k.up = false → exec (.stemRead p) s = .next s ∧ exec (.stemWrite p) s = .next s ∧ exec (.stemAadd p) s = .next s ∧ exec (.stemFadd p) s = .next s ∧ exec (.stemCas p) s = .next s ∧ exec (.stemRspData p) s = .next s ∧ exec (.stemRspAck p) s = .next s ∧ exec (.stemRspErr p) s = .next s) ∧
    (p.port < 8 → k.up = true → p.headerOk = true → p.payloadOk = true →
      (∀ o, s.blk.answered p.port 8 p = some o → Does (.stemRspData p) s (s.blk.finishOut o (rspRes 8 p)).settled) ∧
      (∀ o, s.blk.answered p.port 9 p = some o → Does (.stemRspAck p) s (s.blk.finishOut o (rspRes 9 p)).settled) ∧
      (let b := s.blk.count (F.MGT_STEM_ERR_RSP.at p.port)
        ∀ o, b.answered p.port 10 p = some o → Does (.stemRspErr p) s (b.finishOut o (rspRes 10 p)).settled) ∧
      (s.blk.answered p.port 8 p = none → Does (.stemRspData p) s (s.blk.stemError p.port F.MGT_STEM_DROP false)) ∧
      (s.blk.answered p.port 9 p = none → Does (.stemRspAck p) s (s.blk.stemError p.port F.MGT_STEM_DROP false))) ∧
    (∀ l, l < 64 → (s.blk.linkAt l).live = true →
      (∀ kind, kind ≤ 4 → let r := (s.blk.freeRx l 0 p.data).inbound (.link l) 8 kind p
        Does (.linkRequestPacket l kind p) s (r.1.answer (64 + l) r.2).settled) ∧
      (∀ kind, 4 < kind → Does (.linkRequestPacket l kind p) s
        (((s.blk.freeRx l 0 p.data).rmFail 1 false true).answer (64 + l) (errRsp p.tag 1 0)).settled) ∧
      (∀ kind o, kind = 8 ∨ kind = 9 ∨ kind = 10 → (s.blk.freeRx l 1 p.data).answered (64 + l) kind p = some o →
        Does (.linkResponsePacket l kind p) s ((s.blk.freeRx l 1 p.data).finishOut o (rspRes kind { p with payloadOk := true })).settled)) ∧
    (∀ (b : Block) (src : Src) (wrong kind : Nat), (∃ n, src = .stem n ∨ src = .link n) → 1 ≤ kind → kind ≤ 4 →
      gaSpace p.addr.toNat ∈ [1, 2, 3, 5, 6] →
      (b.inbound src wrong kind p).2.kind = 10 ∧ (b.inbound src wrong kind p).1.mem = b.mem ∧ (b.inbound src wrong kind p).1.rq = b.rq ∧
      ∀ f : Fld, f.off ∉ [F.LNK_RM_EVT_CODE.off, F.LNK_RM_CNT_A_FAR.off, F.LNK_RM_CNT_B_TIMEOUT.off] →
        (b.inbound src wrong kind p).1.fget f = b.fget f)

/-- Stem credits, port up, port down and stall, and the DATA, NAK, CTRL and IDLE flits and ACK timeout of a link. On a Stem port that is up, a return of 1 to 15 credits adds to its virtual channel and lets waiting operations go; a port that is down and not retired comes up with no credits; one that is up goes down, its credits zeroed and its outstanding operations completed as timed out; a stall is counted, reported and a fault of the port. On a live link a DATA flit of good CRC with the expected SEQ on a virtual channel 0 or 1 advances the expected SEQ by one modulo 4096, any other is discarded with a NAK; every flit of good CRC applies its acknowledgement and credits; a NAK of good CRC replays from the SEQ it names, an ACK timeout from the oldest flit not acknowledged; a CTRL flit of good CRC is taken where the link trains or tests. (14_stem_and_management_ports.md, 15_links_and_stack_channels.md) -/
def Obligations.StemPortsAndFlits : Prop :=
  ∀ (s : State), s.blk.alive = true →
    (∀ p vc n, p < 8 → (s.blk.stemAt p).up = true → vc ≤ 1 → 1 ≤ n → n ≤ 15 →
      let k := s.blk.stemAt p
      Does (.stemCreditReturn p vc n) s
        (s.blk.setStem p { k with req := k.req + (if vc = 0 then n else 0), rsp := k.rsp + (if vc = 1 then n else 0) }).trySend) ∧
    (∀ p, p < 8 → (s.blk.stemAt p).up = false → (s.blk.stemAt p).retired = false →
      Does (.stemPortUp p) s (s.blk.setStem p { (s.blk.stemAt p) with up := true, req := 0, rsp := 0 }).trySend) ∧
    (∀ p, p < 8 → (s.blk.stemAt p).up = true →
      Does (.stemPortDown p) s (((s.blk.setStem p { (s.blk.stemAt p) with up := false, req := 0, rsp := 0, wait := [] }).finishAll
        (fun o => o.route == p) 9).agentReleases).settled ∧
      Does (.stemTxStall p) s ((((s.blk.count (F.MGT_STEM_STALL.at p)).report 19 1 p).fault 4 p false).settled) ∧
      exec (.stemPortUp p) s = .next s) ∧
    (∀ p, 8 ≤ p ∨ (s.blk.stemAt p).up = false → exec (.stemPortDown p) s = .next s ∧ exec (.stemTxStall p) s = .next s ∧
      ∀ vc n, exec (.stemCreditReturn p vc n) s = .next s) ∧
    (∀ l f, l < 64 → (s.blk.linkAt l).live = true →
      let b := s.blk.linkReturns l f
      let k := b.linkAt l
      (f.crcOk = true → f.seq = k.rxSeq → f.vc ≤ 1 → Does (.linkDataFlit l f) s
        (b.setLink l { k with rxSeq := (k.rxSeq + 1) % 4096, nakSent := false, rxHeld := vcAdd k.rxHeld f.vc 1 })) ∧
      (f.crcOk = false ∨ f.seq ≠ k.rxSeq ∨ 1 < f.vc → Does (.linkDataFlit l f) s (b.setLink l { k with nakSent := true })) ∧
      Does (.linkIdleFlit l f) s b ∧
      (f.crcOk = true → Does (.linkNakFlit l f) s (b.replay l (f.expect % 4096))) ∧
      (f.crcOk = false → exec (.linkNakFlit l f) s = .next s ∧ exec (.linkIdleFlit l f) s = .next s)) ∧
    (∀ l q r, l < 64 → (s.blk.linkAt l).retry = q :: r → Does (.linkAckTimeout l) s (s.blk.replay l q.1)) ∧
    (∀ l, (s.blk.linkAt l).retry = [] → exec (.linkAckTimeout l) s = .next s) ∧
    (∀ l c, l < 64 → c.crcOk = true → (s.blk.linkAt l).state = 1 ∨ (s.blk.linkAt l).testing = true →
      Does (.linkCtrlFlit l c) s (s.blk.setLink l { (s.blk.linkAt l) with ctrl := some c })) ∧
    (∀ l c, c.crcOk = false ∨ ((s.blk.linkAt l).state ≠ 1 ∧ (s.blk.linkAt l).testing = false) → exec (.linkCtrlFlit l c) s = .next s)

/-- Training and watching a link: LOS, optical engine, FEC lock, training done and timed out, lane errors, probes. A change of LOS is kept and its rising edges on lanes counted; on a lane in use of a link that is not retired it retrains the link, and light returning on two lanes or more of a retired link starts a test training. A rising fault of the optical engine and a loss of FEC lock retrain the link; its ready level is kept. A training that completes with a fresh peer on all four lanes makes the link UP with the peer's grants, its retry buffer empty and its expected SEQ 0; without a CTRL flit or with no signal nothing completes. A timed out training fails. A lane in service with more than SER_MAX corrected symbols in an interval counts a transient; a retired link sends a probe. (15_links_and_stack_channels.md) -/
def Obligations.LinkTraining : Prop :=
  ∀ (s : State) (l : Nat), s.blk.alive = true → l < 64 →
    let k := s.blk.linkAt l
    (∀ los, let b := (s.blk.setLink l { k with los := los.toNat }).count (F.LIF_OE_EVENTS.at (l / 8)) (popcount 4 (los.toNat &&& (15 - k.los)))
      (k.state ≠ 4 → los.toNat &&& lanesUsed k.lanes ≠ 0 → Does (.linkLosChange l los) s (b.retrainNow l)) ∧
      (k.state ≠ 4 → los.toNat &&& lanesUsed k.lanes = 0 → Does (.linkLosChange l los) s b) ∧
      (k.state = 4 → 2 ≤ popcount 4 (k.los &&& (15 - los.toNat)) → k.testing = false →
        Does (.linkLosChange l los) s (b.setLink l { k with los := los.toNat, testing := true, ctrl := none })) ∧
      (k.state = 4 → popcount 4 (k.los &&& (15 - los.toNat)) < 2 ∨ k.testing = true → Does (.linkLosChange l los) s b)) ∧
    Does (.oeFaultRise l) s (s.blk.retrainNow l) ∧ Does (.fecLockLoss l) s (s.blk.retrainNow l) ∧
    (∀ r, Does (.oeReadyChange l r) s (s.blk.setLink l { k with oeReady := r })) ∧
    (∀ c, k.ctrl = some c → k.signal = true → k.testing = false → k.state = 1 → k.lanes = 15 → k.fresh = true → c.fresh = true →
      (s.blk.pairLink l = true → c.node = s.blk.fget F.LNK_NODE_PEER ∧ c.link = l) →
      let n0 : Link := { k with state := 2, fresh := false, nakSent := false, ctrl := none, peerNode := c.node, peerLink := c.link }
      let n1 : Link := { n0 with retry := [], held := (c.grantReq, c.grantRsp), inflight := (0, 0), peer := (0, 0), grant := (c.grantReq, c.grantRsp) }
      let n : Link := { n1 with txSeq := c.seq % 4096, rxSeq := 0, crdSeen := (0, 0), crdGiven := (0, 0), rxHeld := (0, 0) }
      let b := s.blk.setLink l n
      Does (.linkTrainDone l) s ((if n.live && n.worn then b.retrain l else b).trySend).settled) ∧
    (k.ctrl = none ∨ k.signal = false → Does (.linkTrainDone l) s s.blk.settled) ∧
    (k.testing = true → Does (.linkTrainTimeout l) s (s.blk.testDone l 2)) ∧
    (k.testing = false → k.state = 1 → Does (.linkTrainTimeout l) s (s.blk.trainFail l).settled) ∧
    (k.testing = false → k.state ≠ 1 → exec (.linkTrainTimeout l) s = .next s) ∧
    (∀ i n lost, i < 4 → k.live = true ∨ k.state = 1 → k.lanes.testBit i = true →
      (s.blk.fget F.LNK_CTRL_SER_MAX < n ∨ (lost = true ∧ (lanesUsed k.lanes).testBit i = true) →
        Does (.laneSerInterval l i n lost) s (s.blk.fault 0 (4 * l + i) false).settled) ∧
      (n ≤ s.blk.fget F.LNK_CTRL_SER_MAX → lost = false → exec (.laneSerInterval l i n lost) s = .next s)) ∧
    (k.state = 4 → Does (.retiredLinkProbe l) s (s.blk.setLink l { k with probes := k.probes + 1 })) ∧
    (k.state ≠ 4 → exec (.retiredLinkProbe l) s = .next s)

/-- REBUILD_STEP, SCRUB_STEP, STACK_INTERFACE_RETRAIN, CATTRIP, POWER_SAMPLE, THERMAL_READ and THERMAL_TRIP. In the main window of RUN a rebuild step reads (or, for a returning gang, writes with zeros) the gang's next line and moves on, its last line ending the rebuild with a report; a scrub step reads the next line of a gang in service and moves on. The retraining of a stack's interface counts as a transient, or an uncorrectable fault where it fails. The rise of CATTRIP is reported and retires the stack; its fall is kept. A power sample is completed, and after every governor decision the duty lies between DUTY_MIN and 16 where it did before. A sensor reading of at most 760 is kept; the third bad reading in a row fails the sensor, counted and reported. A thermal trip stops the block and keeps its trip record, and no register changes. (15_links_and_stack_channels.md, 16_power_and_thermal.md) -/
def Obligations.StacksPowerThermal : Prop :=
  ∀ (s : State), s.blk.alive = true →
    (∀ n g r x ps line, s.blk.run? = true → s.blk.clk.mainWindow = true → (s.blk.stackAt n).rebuild.find? (fun y => y.1 == g) = some (x, ps, line) →
      let b := if ps.isEmpty then s.blk.zeroLine n g line
        else if (s.blk.lineRead n g line r).1 then (s.blk.lineRead n g line r).2
        else ((s.blk.lineRead n g line r).2.count F.MEM_CNT_B_UE).report 13 4 (lineDetail n g line)
      let k := b.stackAt n
      (k.rebuild.contains (g, ps, line) = true → k.lines ≤ line + 1 → Does (.rebuildStep n g r) s
        (((b.setStack n { k with rebuild := k.rebuild.filter (fun y => y.1 != g) }).evt F.MEM_EVT_REBUILD_DONE).report 13 6 (n + 16 * g)).settled) ∧
      (k.rebuild.contains (g, ps, line) = true → line + 1 < k.lines → Does (.rebuildStep n g r) s
        (b.setStack n { k with rebuild := k.rebuild.map (fun y => if y.1 = g then (g, ps, line + 1) else y) }).settled)) ∧
    (∀ n r l, s.blk.run? = true → s.blk.clk.mainWindow = true → (s.blk.stackAt n).up = true → (s.blk.stackAt n).lines ≠ 0 →
      let k := s.blk.stackAt n
      ((List.range 3).map (fun i => (k.scrub + i) % (3 * k.lines))).find? (fun l => k.gangs.getD (l % 3) false) = some l →
      let x := (s.blk.setStack n { k with scrub := (l + 1) % (3 * k.lines) }).lineRead n (l % 3) (l / 3) r
      (x.1 = true → Does (.scrubStep n r) s x.2.settled) ∧
      (x.1 = false → Does (.scrubStep n r) s
        (((x.2.count F.MEM_CNT_B_SCRUB_UE).evt F.MEM_EVT_SCRUB_UE).report 13 5 (lineDetail n (l % 3) (l / 3))).settled)) ∧
    (∀ n ok, n < 12 → (s.blk.stackAt n).up = true → Does (.stackInterfaceRetrain n ok) s (s.blk.fault 3 n (!ok)).settled) ∧
    (∀ n, n < 12 → let k := s.blk.stackAt n
      (k.cattrip = false → Does (.cattrip n true) s
        ((((s.blk.setStack n { k with cattrip := true }).evt F.THM_EVT_CATTRIP).report 15 4 n).retireStack n).settled) ∧
      (k.cattrip = true → Does (.cattrip n false) s (s.blk.setStack n { k with cattrip := false }) ∧ exec (.cattrip n true) s = .next s)) ∧
    (∀ p, Does (.powerSample p) s (s.blk.powerSample p).settled) ∧
    (∀ b : Block, let low := b.fget F.PWR_CTRL_DUTY_MIN
      low ≤ 16 → low ≤ b.fget F.PWR_STAT_DUTY → b.fget F.PWR_STAT_DUTY ≤ 16 →
      low ≤ b.governor.fget F.PWR_STAT_DUTY ∧ b.governor.fget F.PWR_STAT_DUTY ≤ 16) ∧
    (∀ r, Does (.thermalRead r) s (s.blk.thermalRead r)) ∧
    (∀ (b : Block) i q, q ≤ 760 → (b.sensorRead i (some q)).pw.sensors = b.pw.sensors.set i q ∧ (b.sensorRead i (some q)).pw.badRun = b.pw.badRun.set i 0) ∧
    (∀ (b : Block) i r, (r = none ∨ ∃ q, r = some q ∧ 760 < q) → (b.sensorRead i r).pw.sensors = b.pw.sensors ∧
      (2 ≤ b.pw.badRun.getD i 0 → (b.sensorRead i r).pw.failed = b.pw.failed.set i true)) ∧
    (∀ i q, ∃ t, exec (.thermalTrip i q) s = .next { s with blk := t } ∧ t.alive = false ∧ t.regs = s.blk.regs ∧
      t = { (s.blk.keepLow 0x1000 (s.blk.tripRecord i q)) with pw := { s.blk.pw with tripped := true } })

/-- The ancestry mask of a tree. For a tree of N nodes, N at most 16, each node's parent the root or an earlier node: the mask has 16 rows of 16 bits, and bit j of row i is 1 if and only if i is below N and j = i or node j is an ancestor of node i; so rows and bits at or above N are 0. (R217) -/
def Obligations.AncestryMask : Prop :=
  ∀ (l : List Node), l.length ≤ 16 → (∀ i (n : Node), l[i]? = some n → n.parent = 0xFF ∨ n.parent < i) →
    let m := padTo ((ancestry l).flatMap (leBytes 2)) 32
    m.length = 32 ∧
    ∀ i j, i < 16 → j < 16 → ((lefld m (2 * i) 2).testBit j = true ↔ i < l.length ∧ (j = i ∨ Ancestor l j i)) ∧
      (l.length ≤ i ∨ l.length ≤ j → (lefld m (2 * i) 2).testBit j = false)

/-- The consistency check of the THM group. The check passes if and only if every field is within its range (WARN_C 60 to 110, THROTTLE_C 70 to 112, HYST_C 1 to 20), WARN_C is below THROTTLE_C, and THROTTLE_C + HYST_C is at most 115. (R482) -/
def Obligations.ThermalLimits : Prop :=
  ∀ (c : Block), c.checkThm = (0, 0) ↔
    (60 ≤ c.fget F.THM_LIMIT_WARN_C ∧ c.fget F.THM_LIMIT_WARN_C ≤ 110) ∧
    (70 ≤ c.fget F.THM_LIMIT_THROTTLE_C ∧ c.fget F.THM_LIMIT_THROTTLE_C ≤ 112) ∧
    (1 ≤ c.fget F.THM_LIMIT_HYST_C ∧ c.fget F.THM_LIMIT_HYST_C ≤ 20) ∧
    c.fget F.THM_LIMIT_WARN_C < c.fget F.THM_LIMIT_THROTTLE_C ∧
    c.fget F.THM_LIMIT_THROTTLE_C + c.fget F.THM_LIMIT_HYST_C ≤ 115
end

