-- ==== Sys2Proof/Laws/Memory.lean ====
section
/-! SUPPORT. Byte memories and sparse tables: a read after a write, and every operation keeps the canonical form. -/
namespace Sys2Proof.Machine
open Sys2Proof

theorem mrd_of_lt {m : Memory} {n a : Nat} (h : Memory.wfFrom n m = true) (ha : a < n) : mrd m a = 0 := by
  induction m generalizing n with
  | nil => rfl
  | cons p r ih =>
    obtain ⟨k, v⟩ := p
    simp only [Memory.wfFrom, Bool.and_eq_true, decide_eq_true_eq] at h
    have hk : k ≠ a := by omega
    simp only [mrd, hk, if_false]
    exact ih h.2 (by omega)

theorem wfFrom_mono {m : Memory} {n k : Nat} (h : Memory.wfFrom n m = true) (hk : k ≤ n) : Memory.wfFrom k m = true := by
  cases m with
  | nil => rfl
  | cons p r =>
    obtain ⟨a, v⟩ := p
    simp only [Memory.wfFrom, Bool.and_eq_true, decide_eq_true_eq] at h ⊢
    exact ⟨⟨by omega, h.1.2⟩, h.2⟩

/-- A written byte keeps the canonical form, from any bound that the address respects. -/
theorem mwr_wfFrom {m : Memory} {n a : Nat} {x : Byte} (h : Memory.wfFrom n m = true) (ha : n ≤ a) : Memory.wfFrom n (mwr m a x) = true := by
  induction m generalizing n with
  | nil =>
    simp only [mwr]
    split
    · rfl
    · rename_i hx
      simpa [Memory.wfFrom, ha] using hx
  | cons p r ih =>
    obtain ⟨k, v⟩ := p
    simp only [Memory.wfFrom, Bool.and_eq_true, decide_eq_true_eq] at h
    obtain ⟨⟨h1, h2⟩, h3⟩ := h
    simp only [mwr]
    split
    · split
      · simpa [Memory.wfFrom, h1, h3] using h2
      · rename_i hlt hx
        simp only [Memory.wfFrom, Bool.and_eq_true, decide_eq_true_eq]
        exact ⟨⟨ha, by simpa using hx⟩, ⟨⟨by omega, h2⟩, h3⟩⟩
    · split
      · rename_i hk
        subst hk
        split
        · exact wfFrom_mono h3 (by omega)
        · rename_i hx
          simp only [Memory.wfFrom, Bool.and_eq_true, decide_eq_true_eq]
          exact ⟨⟨h1, by simpa using hx⟩, h3⟩
      · rename_i hge hne
        simp only [Memory.wfFrom, Bool.and_eq_true, decide_eq_true_eq]
        exact ⟨⟨h1, h2⟩, ih h3 (by omega)⟩

/-- A written byte keeps the canonical form. -/
theorem mwr_wf {m : Memory} (a : Nat) (x : Byte) (h : Memory.wf m = true) : Memory.wf (mwr m a x) = true := mwr_wfFrom h (Nat.zero_le a)

/-- Written bytes keep the canonical form. -/
theorem mwrN_wf {m : Memory} (a : Nat) (l : List Byte) (h : Memory.wf m = true) : Memory.wf (mwrN m a l) = true := by
  induction l generalizing m a with
  | nil => exact h
  | cons x r ih => exact ih (a + 1) (mwr_wf a x h)

/-- Reading the byte just written gives it. -/
theorem mrd_mwr_same {m : Memory} {n : Nat} (a : Nat) (x : Byte) (h : Memory.wfFrom n m = true) : mrd (mwr m a x) a = x := by
  induction m generalizing n with
  | nil =>
    simp only [mwr]
    split
    · rename_i hx
      simp [mrd, hx]
    · simp [mrd]
  | cons p r ih =>
    obtain ⟨k, v⟩ := p
    simp only [Memory.wfFrom, Bool.and_eq_true, decide_eq_true_eq] at h
    obtain ⟨⟨h1, h2⟩, h3⟩ := h
    simp only [mwr]
    split
    · rename_i hlt
      split
      · rename_i hx
        have : k ≠ a := by omega
        simp only [mrd, this, if_false]
        rw [mrd_of_lt h3 (by omega), hx]
      · simp [mrd]
    · split
      · rename_i hk
        split
        · rename_i hx
          rw [mrd_of_lt h3 (by omega), hx]
        · simp [mrd]
      · rename_i hne
        have : k ≠ a := fun e => hne e.symm
        simp only [mrd, this, if_false]
        exact ih h3

/-- A write leaves every other byte alone. -/
theorem mrd_mwr_other {m : Memory} {n : Nat} {a c : Nat} (x : Byte) (h : Memory.wfFrom n m = true) (hc : c ≠ a) : mrd (mwr m a x) c = mrd m c := by
  induction m generalizing n with
  | nil =>
    have : a ≠ c := fun e => hc e.symm
    simp only [mwr]
    split
    · rfl
    · simp [mrd, this]
  | cons p r ih =>
    obtain ⟨k, v⟩ := p
    have hac : a ≠ c := fun e => hc e.symm
    simp only [Memory.wfFrom, Bool.and_eq_true, decide_eq_true_eq] at h
    obtain ⟨⟨h1, h2⟩, h3⟩ := h
    simp only [mwr]
    split
    · split
      · rfl
      · simp [mrd, hac]
    · split
      · rename_i hk
        subst hk
        split
        · simp [mrd, hac]
        · simp [mrd, hac]
      · simp only [mrd]
        split
        · rfl
        · exact ih h3

/-- Bytes outside a written span read as before. -/
theorem mrd_mwrN_other {m : Memory} {a c : Nat} (l : List Byte) (h : Memory.wf m = true) (hc : c < a ∨ a + l.length ≤ c) :
    mrd (mwrN m a l) c = mrd m c := by
  induction l generalizing m a with
  | nil => rfl
  | cons x r ih =>
    simp only [List.length_cons] at hc
    rw [show mwrN m a (x :: r) = mwrN (mwr m a x) (a + 1) r from rfl, ih (mwr_wf a x h) (by omega)]
    exact mrd_mwr_other (n := 0) x h (by omega)

/-- A key just set is found. -/
@[simp] theorem tget_tset_same {α : Type} (t : Tbl α) (k : Nat) (x : α) : tget (tset t k x) k = some x := by
  induction t with
  | nil => simp [tset, tget]
  | cons p r ih =>
    obtain ⟨i, v⟩ := p
    simp only [tset]
    split
    · simp [tget]
    · split
      · simp [tget]
      · rename_i h
        have : i ≠ k := fun e => h e.symm
        simp [tget, this, ih]

/-- A write of bytes is read back whole. -/
theorem mrdN_mwrN {m : Memory} (a : Nat) (l : List Byte) (h : Memory.wf m = true) : mrdN (mwrN m a l) a l.length = l := by
  induction l generalizing m a with
  | nil => rfl
  | cons x r ih =>
    have hw := mwr_wf a x h
    have h0 : mrd (mwrN (mwr m a x) (a + 1) r) a = x := by
      rw [mrd_mwrN_other r hw (Or.inl (Nat.lt_succ_self a))]
      exact mrd_mwr_same a x h
    have ht := ih (a + 1) hw
    have hf : (fun i => mrd (mwrN (mwr m a x) (a + 1) r) (a + i)) ∘ Nat.succ = fun i => mrd (mwrN (mwr m a x) (a + 1) r) (a + 1 + i) := by
      funext i
      simp only [Function.comp_apply, Nat.succ_eq_add_one, Nat.add_assoc, Nat.add_comm 1 i]
    unfold mrdN at ht ⊢
    simp only [mwrN, List.length_cons, List.range_succ_eq_map, List.map_cons, List.map_map, Nat.add_zero]
    rw [h0, hf, ht]

/-- Setting a key leaves the others alone. -/
theorem tget_tset_other {α : Type} (t : Tbl α) {k j : Nat} (x : α) (h : j ≠ k) : tget (tset t k x) j = tget t j := by
  have hk : k ≠ j := fun e => h e.symm
  induction t with
  | nil => simp [tset, tget, hk]
  | cons p r ih =>
    obtain ⟨i, v⟩ := p
    simp only [tset]
    split
    · simp [tget, hk]
    · split
      · rename_i hi
        subst hi
        simp [tget, hk]
      · simp only [tget]
        split
        · rfl
        · exact ih

@[simp] theorem tgetD_tset_same {α : Type} (t : Tbl α) (k : Nat) (x d : α) : tgetD (tset t k x) k d = x := by simp [tgetD]

theorem tgetD_tset_other {α : Type} (t : Tbl α) {k j : Nat} (x d : α) (h : j ≠ k) : tgetD (tset t k x) j d = tgetD t j d := by
  simp [tgetD, tget_tset_other t x h]

theorem tset_wfFrom {α : Type} {t : Tbl α} {n k : Nat} (x : α) (h : Tbl.wfFrom n t = true) (hk : n ≤ k) : Tbl.wfFrom n (tset t k x) = true := by
  induction t generalizing n with
  | nil => simp [tset, Tbl.wfFrom, hk]
  | cons p r ih =>
    obtain ⟨i, v⟩ := p
    simp only [Tbl.wfFrom, Bool.and_eq_true, decide_eq_true_eq] at h
    obtain ⟨h1, h2⟩ := h
    simp only [tset]
    split
    · simp only [Tbl.wfFrom, Bool.and_eq_true, decide_eq_true_eq]
      exact ⟨hk, by omega, h2⟩
    · split
      · rename_i hi
        subst hi
        simp only [Tbl.wfFrom, Bool.and_eq_true, decide_eq_true_eq]
        exact ⟨h1, h2⟩
      · simp only [Tbl.wfFrom, Bool.and_eq_true, decide_eq_true_eq]
        exact ⟨h1, ih h2 (by omega)⟩

/-- A sparse table keeps its canonical form. -/
theorem tset_wf {α : Type} {t : Tbl α} (k : Nat) (x : α) (h : Tbl.wf t = true) : Tbl.wf (tset t k x) = true := tset_wfFrom x h (Nat.zero_le k)

/-- Writes of space 0 keep every memory's form. -/
theorem wr0_wf (b : Block) (o : Nat) (l : List Byte) (h : b.mem.wf = true) : (b.wr0 o l).mem.wf = true := by
  simp only [Mem.wf, Bool.and_eq_true] at h ⊢
  exact ⟨⟨⟨mwrN_wf o l h.1.1.1, h.1.1.2⟩, h.1.2⟩, h.2⟩

end Sys2Proof.Machine
end

