-- ==== Sys2Proof/Laws/State.lean ====
section
/-! SUPPORT. What each named update of the block leaves alone: one lemma for each field and update, true by rfl. -/
namespace Sys2Proof.Machine
open Sys2Proof

@[simp] theorem Block.setReg_mgt (b : Block) (off : Nat) (v : Word) : (b.setReg off v).mgt = b.mgt := rfl
@[simp] theorem Block.setReg_clk (b : Block) (off : Nat) (v : Word) : (b.setReg off v).clk = b.clk := rfl
@[simp] theorem Block.setReg_mem (b : Block) (off : Nat) (v : Word) : (b.setReg off v).mem = b.mem := rfl
@[simp] theorem Block.setReg_rm (b : Block) (off : Nat) (v : Word) : (b.setReg off v).rm = b.rm := rfl
@[simp] theorem Block.setReg_rq (b : Block) (off : Nat) (v : Word) : (b.setReg off v).rq = b.rq := rfl
@[simp] theorem Block.setReg_lgr (b : Block) (off : Nat) (v : Word) : (b.setReg off v).lgr = b.lgr := rfl
@[simp] theorem Block.setReg_cp (b : Block) (off : Nat) (v : Word) : (b.setReg off v).cp = b.cp := rfl
@[simp] theorem Block.setReg_st (b : Block) (off : Nat) (v : Word) : (b.setReg off v).st = b.st := rfl
@[simp] theorem Block.setReg_ob (b : Block) (off : Nat) (v : Word) : (b.setReg off v).ob = b.ob := rfl
@[simp] theorem Block.setReg_io (b : Block) (off : Nat) (v : Word) : (b.setReg off v).io = b.io := rfl
@[simp] theorem Block.setReg_pw (b : Block) (off : Nat) (v : Word) : (b.setReg off v).pw = b.pw := rfl
@[simp] theorem Block.setReg_sa (b : Block) (off : Nat) (v : Word) : (b.setReg off v).sa = b.sa := rfl
@[simp] theorem Block.setReg_pair (b : Block) (off : Nat) (v : Word) : (b.setReg off v).pair = b.pair := rfl
@[simp] theorem Block.setReg_log (b : Block) (off : Nat) (v : Word) : (b.setReg off v).log = b.log := rfl
@[simp] theorem Block.setReg_tap (b : Block) (off : Nat) (v : Word) : (b.setReg off v).tap = b.tap := rfl
@[simp] theorem Block.setReg_net (b : Block) (off : Nat) (v : Word) : (b.setReg off v).net = b.net := rfl

@[simp] theorem Block.fset_mgt (b : Block) (f : Fld) (x : Nat) : (b.fset f x).mgt = b.mgt := rfl
@[simp] theorem Block.fset_clk (b : Block) (f : Fld) (x : Nat) : (b.fset f x).clk = b.clk := rfl
@[simp] theorem Block.fset_mem (b : Block) (f : Fld) (x : Nat) : (b.fset f x).mem = b.mem := rfl
@[simp] theorem Block.fset_rm (b : Block) (f : Fld) (x : Nat) : (b.fset f x).rm = b.rm := rfl
@[simp] theorem Block.fset_rq (b : Block) (f : Fld) (x : Nat) : (b.fset f x).rq = b.rq := rfl
@[simp] theorem Block.fset_lgr (b : Block) (f : Fld) (x : Nat) : (b.fset f x).lgr = b.lgr := rfl
@[simp] theorem Block.fset_cp (b : Block) (f : Fld) (x : Nat) : (b.fset f x).cp = b.cp := rfl
@[simp] theorem Block.fset_st (b : Block) (f : Fld) (x : Nat) : (b.fset f x).st = b.st := rfl
@[simp] theorem Block.fset_ob (b : Block) (f : Fld) (x : Nat) : (b.fset f x).ob = b.ob := rfl
@[simp] theorem Block.fset_io (b : Block) (f : Fld) (x : Nat) : (b.fset f x).io = b.io := rfl
@[simp] theorem Block.fset_pw (b : Block) (f : Fld) (x : Nat) : (b.fset f x).pw = b.pw := rfl
@[simp] theorem Block.fset_sa (b : Block) (f : Fld) (x : Nat) : (b.fset f x).sa = b.sa := rfl
@[simp] theorem Block.fset_pair (b : Block) (f : Fld) (x : Nat) : (b.fset f x).pair = b.pair := rfl
@[simp] theorem Block.fset_log (b : Block) (f : Fld) (x : Nat) : (b.fset f x).log = b.log := rfl
@[simp] theorem Block.fset_tap (b : Block) (f : Fld) (x : Nat) : (b.fset f x).tap = b.tap := rfl
@[simp] theorem Block.fset_net (b : Block) (f : Fld) (x : Nat) : (b.fset f x).net = b.net := rfl

@[simp] theorem Block.count_mgt (b : Block) (f : Fld) (n : Nat) : (b.count f n).mgt = b.mgt := rfl
@[simp] theorem Block.count_clk (b : Block) (f : Fld) (n : Nat) : (b.count f n).clk = b.clk := rfl
@[simp] theorem Block.count_mem (b : Block) (f : Fld) (n : Nat) : (b.count f n).mem = b.mem := rfl
@[simp] theorem Block.count_rm (b : Block) (f : Fld) (n : Nat) : (b.count f n).rm = b.rm := rfl
@[simp] theorem Block.count_rq (b : Block) (f : Fld) (n : Nat) : (b.count f n).rq = b.rq := rfl
@[simp] theorem Block.count_lgr (b : Block) (f : Fld) (n : Nat) : (b.count f n).lgr = b.lgr := rfl
@[simp] theorem Block.count_cp (b : Block) (f : Fld) (n : Nat) : (b.count f n).cp = b.cp := rfl
@[simp] theorem Block.count_st (b : Block) (f : Fld) (n : Nat) : (b.count f n).st = b.st := rfl
@[simp] theorem Block.count_ob (b : Block) (f : Fld) (n : Nat) : (b.count f n).ob = b.ob := rfl
@[simp] theorem Block.count_io (b : Block) (f : Fld) (n : Nat) : (b.count f n).io = b.io := rfl
@[simp] theorem Block.count_pw (b : Block) (f : Fld) (n : Nat) : (b.count f n).pw = b.pw := rfl
@[simp] theorem Block.count_sa (b : Block) (f : Fld) (n : Nat) : (b.count f n).sa = b.sa := rfl
@[simp] theorem Block.count_pair (b : Block) (f : Fld) (n : Nat) : (b.count f n).pair = b.pair := rfl
@[simp] theorem Block.count_log (b : Block) (f : Fld) (n : Nat) : (b.count f n).log = b.log := rfl
@[simp] theorem Block.count_tap (b : Block) (f : Fld) (n : Nat) : (b.count f n).tap = b.tap := rfl
@[simp] theorem Block.count_net (b : Block) (f : Fld) (n : Nat) : (b.count f n).net = b.net := rfl

@[simp] theorem Block.evt_mgt (b : Block) (f : Fld) (x : Nat) : (b.evt f x).mgt = b.mgt := rfl
@[simp] theorem Block.evt_clk (b : Block) (f : Fld) (x : Nat) : (b.evt f x).clk = b.clk := rfl
@[simp] theorem Block.evt_mem (b : Block) (f : Fld) (x : Nat) : (b.evt f x).mem = b.mem := rfl
@[simp] theorem Block.evt_rm (b : Block) (f : Fld) (x : Nat) : (b.evt f x).rm = b.rm := rfl
@[simp] theorem Block.evt_rq (b : Block) (f : Fld) (x : Nat) : (b.evt f x).rq = b.rq := rfl
@[simp] theorem Block.evt_lgr (b : Block) (f : Fld) (x : Nat) : (b.evt f x).lgr = b.lgr := rfl
@[simp] theorem Block.evt_cp (b : Block) (f : Fld) (x : Nat) : (b.evt f x).cp = b.cp := rfl
@[simp] theorem Block.evt_st (b : Block) (f : Fld) (x : Nat) : (b.evt f x).st = b.st := rfl
@[simp] theorem Block.evt_ob (b : Block) (f : Fld) (x : Nat) : (b.evt f x).ob = b.ob := rfl
@[simp] theorem Block.evt_io (b : Block) (f : Fld) (x : Nat) : (b.evt f x).io = b.io := rfl
@[simp] theorem Block.evt_pw (b : Block) (f : Fld) (x : Nat) : (b.evt f x).pw = b.pw := rfl
@[simp] theorem Block.evt_sa (b : Block) (f : Fld) (x : Nat) : (b.evt f x).sa = b.sa := rfl
@[simp] theorem Block.evt_pair (b : Block) (f : Fld) (x : Nat) : (b.evt f x).pair = b.pair := rfl
@[simp] theorem Block.evt_log (b : Block) (f : Fld) (x : Nat) : (b.evt f x).log = b.log := rfl
@[simp] theorem Block.evt_tap (b : Block) (f : Fld) (x : Nat) : (b.evt f x).tap = b.tap := rfl
@[simp] theorem Block.evt_net (b : Block) (f : Fld) (x : Nat) : (b.evt f x).net = b.net := rfl

@[simp] theorem Block.status_mgt (b : Block) (f : Fld) (x : Nat) : (b.status f x).mgt = b.mgt := rfl
@[simp] theorem Block.status_clk (b : Block) (f : Fld) (x : Nat) : (b.status f x).clk = b.clk := rfl
@[simp] theorem Block.status_mem (b : Block) (f : Fld) (x : Nat) : (b.status f x).mem = b.mem := rfl
@[simp] theorem Block.status_rm (b : Block) (f : Fld) (x : Nat) : (b.status f x).rm = b.rm := rfl
@[simp] theorem Block.status_rq (b : Block) (f : Fld) (x : Nat) : (b.status f x).rq = b.rq := rfl
@[simp] theorem Block.status_lgr (b : Block) (f : Fld) (x : Nat) : (b.status f x).lgr = b.lgr := rfl
@[simp] theorem Block.status_cp (b : Block) (f : Fld) (x : Nat) : (b.status f x).cp = b.cp := rfl
@[simp] theorem Block.status_st (b : Block) (f : Fld) (x : Nat) : (b.status f x).st = b.st := rfl
@[simp] theorem Block.status_ob (b : Block) (f : Fld) (x : Nat) : (b.status f x).ob = b.ob := rfl
@[simp] theorem Block.status_io (b : Block) (f : Fld) (x : Nat) : (b.status f x).io = b.io := rfl
@[simp] theorem Block.status_pw (b : Block) (f : Fld) (x : Nat) : (b.status f x).pw = b.pw := rfl
@[simp] theorem Block.status_sa (b : Block) (f : Fld) (x : Nat) : (b.status f x).sa = b.sa := rfl
@[simp] theorem Block.status_pair (b : Block) (f : Fld) (x : Nat) : (b.status f x).pair = b.pair := rfl
@[simp] theorem Block.status_log (b : Block) (f : Fld) (x : Nat) : (b.status f x).log = b.log := rfl
@[simp] theorem Block.status_tap (b : Block) (f : Fld) (x : Nat) : (b.status f x).tap = b.tap := rfl
@[simp] theorem Block.status_net (b : Block) (f : Fld) (x : Nat) : (b.status f x).net = b.net := rfl

@[simp] theorem Block.respond_regs (b : Block) (src : RegSrc) (st : Nat) (d : Word) : (b.respond src st d).regs = b.regs := rfl
@[simp] theorem Block.respond_clk (b : Block) (src : RegSrc) (st : Nat) (d : Word) : (b.respond src st d).clk = b.clk := rfl
@[simp] theorem Block.respond_mem (b : Block) (src : RegSrc) (st : Nat) (d : Word) : (b.respond src st d).mem = b.mem := rfl
@[simp] theorem Block.respond_rm (b : Block) (src : RegSrc) (st : Nat) (d : Word) : (b.respond src st d).rm = b.rm := rfl
@[simp] theorem Block.respond_rq (b : Block) (src : RegSrc) (st : Nat) (d : Word) : (b.respond src st d).rq = b.rq := rfl
@[simp] theorem Block.respond_lgr (b : Block) (src : RegSrc) (st : Nat) (d : Word) : (b.respond src st d).lgr = b.lgr := rfl
@[simp] theorem Block.respond_cp (b : Block) (src : RegSrc) (st : Nat) (d : Word) : (b.respond src st d).cp = b.cp := rfl
@[simp] theorem Block.respond_st (b : Block) (src : RegSrc) (st : Nat) (d : Word) : (b.respond src st d).st = b.st := rfl
@[simp] theorem Block.respond_ob (b : Block) (src : RegSrc) (st : Nat) (d : Word) : (b.respond src st d).ob = b.ob := rfl
@[simp] theorem Block.respond_io (b : Block) (src : RegSrc) (st : Nat) (d : Word) : (b.respond src st d).io = b.io := rfl
@[simp] theorem Block.respond_pw (b : Block) (src : RegSrc) (st : Nat) (d : Word) : (b.respond src st d).pw = b.pw := rfl
@[simp] theorem Block.respond_sa (b : Block) (src : RegSrc) (st : Nat) (d : Word) : (b.respond src st d).sa = b.sa := rfl
@[simp] theorem Block.respond_pair (b : Block) (src : RegSrc) (st : Nat) (d : Word) : (b.respond src st d).pair = b.pair := rfl
@[simp] theorem Block.respond_log (b : Block) (src : RegSrc) (st : Nat) (d : Word) : (b.respond src st d).log = b.log := rfl
@[simp] theorem Block.respond_tap (b : Block) (src : RegSrc) (st : Nat) (d : Word) : (b.respond src st d).tap = b.tap := rfl
@[simp] theorem Block.respond_net (b : Block) (src : RegSrc) (st : Nat) (d : Word) : (b.respond src st d).net = b.net := rfl

@[simp] theorem Block.atBoundary_regs (b : Block) (w p q r : Nat) (l : List Byte) : (b.atBoundary w p q r l).regs = b.regs := rfl
@[simp] theorem Block.atBoundary_mgt (b : Block) (w p q r : Nat) (l : List Byte) : (b.atBoundary w p q r l).mgt = b.mgt := rfl
@[simp] theorem Block.atBoundary_clk (b : Block) (w p q r : Nat) (l : List Byte) : (b.atBoundary w p q r l).clk = b.clk := rfl
@[simp] theorem Block.atBoundary_mem (b : Block) (w p q r : Nat) (l : List Byte) : (b.atBoundary w p q r l).mem = b.mem := rfl
@[simp] theorem Block.atBoundary_rm (b : Block) (w p q r : Nat) (l : List Byte) : (b.atBoundary w p q r l).rm = b.rm := rfl
@[simp] theorem Block.atBoundary_rq (b : Block) (w p q r : Nat) (l : List Byte) : (b.atBoundary w p q r l).rq = b.rq := rfl
@[simp] theorem Block.atBoundary_lgr (b : Block) (w p q r : Nat) (l : List Byte) : (b.atBoundary w p q r l).lgr = b.lgr := rfl
@[simp] theorem Block.atBoundary_cp (b : Block) (w p q r : Nat) (l : List Byte) : (b.atBoundary w p q r l).cp = b.cp := rfl
@[simp] theorem Block.atBoundary_st (b : Block) (w p q r : Nat) (l : List Byte) : (b.atBoundary w p q r l).st = b.st := rfl
@[simp] theorem Block.atBoundary_io (b : Block) (w p q r : Nat) (l : List Byte) : (b.atBoundary w p q r l).io = b.io := rfl
@[simp] theorem Block.atBoundary_pw (b : Block) (w p q r : Nat) (l : List Byte) : (b.atBoundary w p q r l).pw = b.pw := rfl
@[simp] theorem Block.atBoundary_sa (b : Block) (w p q r : Nat) (l : List Byte) : (b.atBoundary w p q r l).sa = b.sa := rfl
@[simp] theorem Block.atBoundary_pair (b : Block) (w p q r : Nat) (l : List Byte) : (b.atBoundary w p q r l).pair = b.pair := rfl
@[simp] theorem Block.atBoundary_log (b : Block) (w p q r : Nat) (l : List Byte) : (b.atBoundary w p q r l).log = b.log := rfl
@[simp] theorem Block.atBoundary_tap (b : Block) (w p q r : Nat) (l : List Byte) : (b.atBoundary w p q r l).tap = b.tap := rfl
@[simp] theorem Block.atBoundary_net (b : Block) (w p q r : Nat) (l : List Byte) : (b.atBoundary w p q r l).net = b.net := rfl

@[simp] theorem Block.setLink_regs (b : Block) (n : Nat) (k : Link) : (b.setLink n k).regs = b.regs := rfl
@[simp] theorem Block.setLink_mgt (b : Block) (n : Nat) (k : Link) : (b.setLink n k).mgt = b.mgt := rfl
@[simp] theorem Block.setLink_clk (b : Block) (n : Nat) (k : Link) : (b.setLink n k).clk = b.clk := rfl
@[simp] theorem Block.setLink_mem (b : Block) (n : Nat) (k : Link) : (b.setLink n k).mem = b.mem := rfl
@[simp] theorem Block.setLink_rm (b : Block) (n : Nat) (k : Link) : (b.setLink n k).rm = b.rm := rfl
@[simp] theorem Block.setLink_rq (b : Block) (n : Nat) (k : Link) : (b.setLink n k).rq = b.rq := rfl
@[simp] theorem Block.setLink_lgr (b : Block) (n : Nat) (k : Link) : (b.setLink n k).lgr = b.lgr := rfl
@[simp] theorem Block.setLink_cp (b : Block) (n : Nat) (k : Link) : (b.setLink n k).cp = b.cp := rfl
@[simp] theorem Block.setLink_st (b : Block) (n : Nat) (k : Link) : (b.setLink n k).st = b.st := rfl
@[simp] theorem Block.setLink_ob (b : Block) (n : Nat) (k : Link) : (b.setLink n k).ob = b.ob := rfl
@[simp] theorem Block.setLink_pw (b : Block) (n : Nat) (k : Link) : (b.setLink n k).pw = b.pw := rfl
@[simp] theorem Block.setLink_sa (b : Block) (n : Nat) (k : Link) : (b.setLink n k).sa = b.sa := rfl
@[simp] theorem Block.setLink_pair (b : Block) (n : Nat) (k : Link) : (b.setLink n k).pair = b.pair := rfl
@[simp] theorem Block.setLink_log (b : Block) (n : Nat) (k : Link) : (b.setLink n k).log = b.log := rfl
@[simp] theorem Block.setLink_tap (b : Block) (n : Nat) (k : Link) : (b.setLink n k).tap = b.tap := rfl
@[simp] theorem Block.setLink_net (b : Block) (n : Nat) (k : Link) : (b.setLink n k).net = b.net := rfl

@[simp] theorem Block.setStem_regs (b : Block) (n : Nat) (k : StemPort) : (b.setStem n k).regs = b.regs := rfl
@[simp] theorem Block.setStem_mgt (b : Block) (n : Nat) (k : StemPort) : (b.setStem n k).mgt = b.mgt := rfl
@[simp] theorem Block.setStem_clk (b : Block) (n : Nat) (k : StemPort) : (b.setStem n k).clk = b.clk := rfl
@[simp] theorem Block.setStem_mem (b : Block) (n : Nat) (k : StemPort) : (b.setStem n k).mem = b.mem := rfl
@[simp] theorem Block.setStem_rm (b : Block) (n : Nat) (k : StemPort) : (b.setStem n k).rm = b.rm := rfl
@[simp] theorem Block.setStem_rq (b : Block) (n : Nat) (k : StemPort) : (b.setStem n k).rq = b.rq := rfl
@[simp] theorem Block.setStem_lgr (b : Block) (n : Nat) (k : StemPort) : (b.setStem n k).lgr = b.lgr := rfl
@[simp] theorem Block.setStem_cp (b : Block) (n : Nat) (k : StemPort) : (b.setStem n k).cp = b.cp := rfl
@[simp] theorem Block.setStem_st (b : Block) (n : Nat) (k : StemPort) : (b.setStem n k).st = b.st := rfl
@[simp] theorem Block.setStem_ob (b : Block) (n : Nat) (k : StemPort) : (b.setStem n k).ob = b.ob := rfl
@[simp] theorem Block.setStem_pw (b : Block) (n : Nat) (k : StemPort) : (b.setStem n k).pw = b.pw := rfl
@[simp] theorem Block.setStem_sa (b : Block) (n : Nat) (k : StemPort) : (b.setStem n k).sa = b.sa := rfl
@[simp] theorem Block.setStem_pair (b : Block) (n : Nat) (k : StemPort) : (b.setStem n k).pair = b.pair := rfl
@[simp] theorem Block.setStem_log (b : Block) (n : Nat) (k : StemPort) : (b.setStem n k).log = b.log := rfl
@[simp] theorem Block.setStem_tap (b : Block) (n : Nat) (k : StemPort) : (b.setStem n k).tap = b.tap := rfl
@[simp] theorem Block.setStem_net (b : Block) (n : Nat) (k : StemPort) : (b.setStem n k).net = b.net := rfl

@[simp] theorem Block.setSide_regs (b : Block) (n : Nat) (k : Side) : (b.setSide n k).regs = b.regs := rfl
@[simp] theorem Block.setSide_mgt (b : Block) (n : Nat) (k : Side) : (b.setSide n k).mgt = b.mgt := rfl
@[simp] theorem Block.setSide_clk (b : Block) (n : Nat) (k : Side) : (b.setSide n k).clk = b.clk := rfl
@[simp] theorem Block.setSide_mem (b : Block) (n : Nat) (k : Side) : (b.setSide n k).mem = b.mem := rfl
@[simp] theorem Block.setSide_rm (b : Block) (n : Nat) (k : Side) : (b.setSide n k).rm = b.rm := rfl
@[simp] theorem Block.setSide_lgr (b : Block) (n : Nat) (k : Side) : (b.setSide n k).lgr = b.lgr := rfl
@[simp] theorem Block.setSide_cp (b : Block) (n : Nat) (k : Side) : (b.setSide n k).cp = b.cp := rfl
@[simp] theorem Block.setSide_st (b : Block) (n : Nat) (k : Side) : (b.setSide n k).st = b.st := rfl
@[simp] theorem Block.setSide_ob (b : Block) (n : Nat) (k : Side) : (b.setSide n k).ob = b.ob := rfl
@[simp] theorem Block.setSide_io (b : Block) (n : Nat) (k : Side) : (b.setSide n k).io = b.io := rfl
@[simp] theorem Block.setSide_pw (b : Block) (n : Nat) (k : Side) : (b.setSide n k).pw = b.pw := rfl
@[simp] theorem Block.setSide_sa (b : Block) (n : Nat) (k : Side) : (b.setSide n k).sa = b.sa := rfl
@[simp] theorem Block.setSide_pair (b : Block) (n : Nat) (k : Side) : (b.setSide n k).pair = b.pair := rfl
@[simp] theorem Block.setSide_log (b : Block) (n : Nat) (k : Side) : (b.setSide n k).log = b.log := rfl
@[simp] theorem Block.setSide_tap (b : Block) (n : Nat) (k : Side) : (b.setSide n k).tap = b.tap := rfl
@[simp] theorem Block.setSide_net (b : Block) (n : Nat) (k : Side) : (b.setSide n k).net = b.net := rfl

@[simp] theorem Block.setSem_regs (b : Block) (n : Nat) (m : Sem) : (b.setSem n m).regs = b.regs := rfl
@[simp] theorem Block.setSem_clk (b : Block) (n : Nat) (m : Sem) : (b.setSem n m).clk = b.clk := rfl
@[simp] theorem Block.setSem_mem (b : Block) (n : Nat) (m : Sem) : (b.setSem n m).mem = b.mem := rfl
@[simp] theorem Block.setSem_rm (b : Block) (n : Nat) (m : Sem) : (b.setSem n m).rm = b.rm := rfl
@[simp] theorem Block.setSem_rq (b : Block) (n : Nat) (m : Sem) : (b.setSem n m).rq = b.rq := rfl
@[simp] theorem Block.setSem_lgr (b : Block) (n : Nat) (m : Sem) : (b.setSem n m).lgr = b.lgr := rfl
@[simp] theorem Block.setSem_cp (b : Block) (n : Nat) (m : Sem) : (b.setSem n m).cp = b.cp := rfl
@[simp] theorem Block.setSem_st (b : Block) (n : Nat) (m : Sem) : (b.setSem n m).st = b.st := rfl
@[simp] theorem Block.setSem_ob (b : Block) (n : Nat) (m : Sem) : (b.setSem n m).ob = b.ob := rfl
@[simp] theorem Block.setSem_io (b : Block) (n : Nat) (m : Sem) : (b.setSem n m).io = b.io := rfl
@[simp] theorem Block.setSem_pw (b : Block) (n : Nat) (m : Sem) : (b.setSem n m).pw = b.pw := rfl
@[simp] theorem Block.setSem_sa (b : Block) (n : Nat) (m : Sem) : (b.setSem n m).sa = b.sa := rfl
@[simp] theorem Block.setSem_pair (b : Block) (n : Nat) (m : Sem) : (b.setSem n m).pair = b.pair := rfl
@[simp] theorem Block.setSem_log (b : Block) (n : Nat) (m : Sem) : (b.setSem n m).log = b.log := rfl
@[simp] theorem Block.setSem_tap (b : Block) (n : Nat) (m : Sem) : (b.setSem n m).tap = b.tap := rfl
@[simp] theorem Block.setSem_net (b : Block) (n : Nat) (m : Sem) : (b.setSem n m).net = b.net := rfl

@[simp] theorem Block.wr0_regs (b : Block) (o : Nat) (l : List Byte) : (b.wr0 o l).regs = b.regs := rfl
@[simp] theorem Block.wr0_mgt (b : Block) (o : Nat) (l : List Byte) : (b.wr0 o l).mgt = b.mgt := rfl
@[simp] theorem Block.wr0_clk (b : Block) (o : Nat) (l : List Byte) : (b.wr0 o l).clk = b.clk := rfl
@[simp] theorem Block.wr0_rm (b : Block) (o : Nat) (l : List Byte) : (b.wr0 o l).rm = b.rm := rfl
@[simp] theorem Block.wr0_rq (b : Block) (o : Nat) (l : List Byte) : (b.wr0 o l).rq = b.rq := rfl
@[simp] theorem Block.wr0_lgr (b : Block) (o : Nat) (l : List Byte) : (b.wr0 o l).lgr = b.lgr := rfl
@[simp] theorem Block.wr0_cp (b : Block) (o : Nat) (l : List Byte) : (b.wr0 o l).cp = b.cp := rfl
@[simp] theorem Block.wr0_st (b : Block) (o : Nat) (l : List Byte) : (b.wr0 o l).st = b.st := rfl
@[simp] theorem Block.wr0_ob (b : Block) (o : Nat) (l : List Byte) : (b.wr0 o l).ob = b.ob := rfl
@[simp] theorem Block.wr0_io (b : Block) (o : Nat) (l : List Byte) : (b.wr0 o l).io = b.io := rfl
@[simp] theorem Block.wr0_pw (b : Block) (o : Nat) (l : List Byte) : (b.wr0 o l).pw = b.pw := rfl
@[simp] theorem Block.wr0_sa (b : Block) (o : Nat) (l : List Byte) : (b.wr0 o l).sa = b.sa := rfl
@[simp] theorem Block.wr0_pair (b : Block) (o : Nat) (l : List Byte) : (b.wr0 o l).pair = b.pair := rfl
@[simp] theorem Block.wr0_log (b : Block) (o : Nat) (l : List Byte) : (b.wr0 o l).log = b.log := rfl
@[simp] theorem Block.wr0_tap (b : Block) (o : Nat) (l : List Byte) : (b.wr0 o l).tap = b.tap := rfl
@[simp] theorem Block.wr0_net (b : Block) (o : Nat) (l : List Byte) : (b.wr0 o l).net = b.net := rfl

@[simp] theorem Block.tapLoad_regs (b : Block) (n : Nat) : (b.tapLoad n).regs = b.regs := rfl
@[simp] theorem Block.tapLoad_mgt (b : Block) (n : Nat) : (b.tapLoad n).mgt = b.mgt := rfl
@[simp] theorem Block.tapLoad_clk (b : Block) (n : Nat) : (b.tapLoad n).clk = b.clk := rfl
@[simp] theorem Block.tapLoad_mem (b : Block) (n : Nat) : (b.tapLoad n).mem = b.mem := rfl
@[simp] theorem Block.tapLoad_rm (b : Block) (n : Nat) : (b.tapLoad n).rm = b.rm := rfl
@[simp] theorem Block.tapLoad_rq (b : Block) (n : Nat) : (b.tapLoad n).rq = b.rq := rfl
@[simp] theorem Block.tapLoad_lgr (b : Block) (n : Nat) : (b.tapLoad n).lgr = b.lgr := rfl
@[simp] theorem Block.tapLoad_cp (b : Block) (n : Nat) : (b.tapLoad n).cp = b.cp := rfl
@[simp] theorem Block.tapLoad_st (b : Block) (n : Nat) : (b.tapLoad n).st = b.st := rfl
@[simp] theorem Block.tapLoad_ob (b : Block) (n : Nat) : (b.tapLoad n).ob = b.ob := rfl
@[simp] theorem Block.tapLoad_io (b : Block) (n : Nat) : (b.tapLoad n).io = b.io := rfl
@[simp] theorem Block.tapLoad_pw (b : Block) (n : Nat) : (b.tapLoad n).pw = b.pw := rfl
@[simp] theorem Block.tapLoad_sa (b : Block) (n : Nat) : (b.tapLoad n).sa = b.sa := rfl
@[simp] theorem Block.tapLoad_pair (b : Block) (n : Nat) : (b.tapLoad n).pair = b.pair := rfl
@[simp] theorem Block.tapLoad_log (b : Block) (n : Nat) : (b.tapLoad n).log = b.log := rfl

@[simp] theorem Block.setReg_same (b : Block) (off : Nat) (v : Word) : (b.setReg off v).reg off = v := by simp [Block.setReg, Block.reg, tgetD, tget_tset_same]

theorem Block.setReg_other (b : Block) {off o : Nat} (v : Word) (h : o ≠ off) : (b.setReg off v).reg o = b.reg o := by
  simp [Block.setReg, Block.reg, tgetD_tset_other _ _ _ h]

theorem Block.fset_reg_other (b : Block) (f : Fld) (x : Nat) {o : Nat} (h : o ≠ f.off) : (b.fset f x).reg o = b.reg o := Block.setReg_other b _ h

theorem Block.fget_fset_off (b : Block) (f g : Fld) (x : Nat) (h : g.off ≠ f.off) : (b.fset f x).fget g = b.fget g := by
  simp [Block.fget, Block.fset_reg_other b f x h]

end Sys2Proof.Machine
end

