-- ==== Sys2Proof/Laws/Agents.lean ====
section
/-! SUPPORT. What the block's own writes can do (R381, R402, R424): they touch memory, the ports and the remote machinery, and of the
registers only the event and the counters of failed remote operations. -/
namespace Sys2Proof.Machine
open Sys2Proof

/-- Nothing changed but memory, the ports, outbound operations, and the registers of LNK_RM_EVT and LNK_RM_CNT. -/
structure Quiet (b c : Block) : Prop where
  execs : c.rm.execs = b.rm.execs
  routes : c.rm.routes = b.rm.routes
  mgt : c.mgt = b.mgt
  clk : c.clk = b.clk
  rq : c.rq = b.rq
  lgr : c.lgr = b.lgr
  cp : c.cp = b.cp
  st : c.st = b.st
  ob : c.ob = b.ob
  pw : c.pw = b.pw
  sa : c.sa = b.sa
  pair : c.pair = b.pair
  log : c.log = b.log
  tap : c.tap = b.tap
  net : c.net = b.net
  reg : ∀ off, off ∉ [F.LNK_RM_EVT_CODE.off, F.LNK_RM_CNT_A_FAR.off, F.LNK_RM_CNT_B_TIMEOUT.off] → c.reg off = b.reg off
  keep : c.mem.keep = b.mem.keep
  die : c.mem.die = b.mem.die

theorem Quiet.refl (b : Block) : Quiet b b := ⟨rfl, rfl, rfl, rfl, rfl, rfl, rfl, rfl, rfl, rfl, rfl, rfl, rfl, rfl, rfl, fun _ _ => rfl, rfl, rfl⟩

theorem Quiet.trans {a b c : Block} (h : Quiet a b) (g : Quiet b c) : Quiet a c :=
  ⟨g.execs.trans h.execs, g.routes.trans h.routes, g.mgt.trans h.mgt, g.clk.trans h.clk, g.rq.trans h.rq, g.lgr.trans h.lgr, g.cp.trans h.cp,
   g.st.trans h.st, g.ob.trans h.ob, g.pw.trans h.pw, g.sa.trans h.sa, g.pair.trans h.pair, g.log.trans h.log, g.tap.trans h.tap, g.net.trans h.net,
   fun o ho => (g.reg o ho).trans (h.reg o ho), g.keep.trans h.keep, g.die.trans h.die⟩

/-- A field of a register that a quiet change does not write reads as before. -/
theorem Quiet.fget {b c : Block} (h : Quiet b c) (f : Fld)
    (hf : f.off ∉ [F.LNK_RM_EVT_CODE.off, F.LNK_RM_CNT_A_FAR.off, F.LNK_RM_CNT_B_TIMEOUT.off]) : c.fget f = b.fget f := by
  simp only [Block.fget, h.reg f.off hf]

theorem quiet_fset (b : Block) (f : Fld) (x : Nat) (hf : f.off ∈ [F.LNK_RM_EVT_CODE.off, F.LNK_RM_CNT_A_FAR.off, F.LNK_RM_CNT_B_TIMEOUT.off]) :
    Quiet b (b.fset f x) :=
  ⟨rfl, rfl, rfl, rfl, rfl, rfl, rfl, rfl, rfl, rfl, rfl, rfl, rfl, rfl, rfl,
   fun _ ho => Block.fset_reg_other b f x (fun e => ho (e ▸ hf)), rfl, rfl⟩

theorem quiet_rmFail (b : Block) (code : Nat) (far inbound : Bool) : Quiet b (b.rmFail code far inbound) := by
  unfold Block.rmFail Block.evt Block.count
  simp only
  repeat' split
  all_goals
    repeat' first
      | exact Quiet.refl _
      | refine Quiet.trans ?_ (quiet_fset _ _ _ (by decide))

theorem quiet_io (b : Block) (k : Io) : Quiet b { b with io := k } :=
  ⟨rfl, rfl, rfl, rfl, rfl, rfl, rfl, rfl, rfl, rfl, rfl, rfl, rfl, rfl, rfl, fun _ _ => rfl, rfl, rfl⟩

theorem quiet_out (b : Block) (o : List OutOp) (n : Nat) (p : List (Nat × Nat)) (q : List Nat) :
    Quiet b { b with rm := { b.rm with out := o, nextId := n, failPools := p, agentFail := q } } :=
  ⟨rfl, rfl, rfl, rfl, rfl, rfl, rfl, rfl, rfl, rfl, rfl, rfl, rfl, rfl, rfl, fun _ _ => rfl, rfl, rfl⟩

theorem quiet_spend (b : Block) (route vc : Nat) (d : List Byte) : Quiet b (b.spend route vc d) := by
  unfold Block.spend Block.setStem Block.setLink
  split <;> exact quiet_io _ _

theorem quiet_sendOne (b : Block) (o : OutOp) : Quiet b (b.sendOne o) := by
  unfold Block.sendOne
  dsimp only
  generalize (if o.kind = 1 then o.data else []) = d
  split
  · exact Quiet.refl b
  · exact (quiet_spend b o.route 0 d).trans (quiet_out _ _ _ _ _)

theorem quiet_outOp (b : Block) (o : OutOp) : Quiet b (b.outOp o) := (quiet_out b _ _ _ _).trans (quiet_sendOne _ _)

theorem quiet_agentFailed (b : Block) (pool : Option Nat) (seq code : Nat) (far : Bool) : Quiet b (b.agentFailed pool seq code far) :=
  (quiet_rmFail b code far false).trans (quiet_out _ _ _ _ _)

theorem quiet_wr0 (b : Block) (o : Nat) (l : List Byte) : Quiet b (b.wr0 o l) :=
  ⟨rfl, rfl, rfl, rfl, rfl, rfl, rfl, rfl, rfl, rfl, rfl, rfl, rfl, rfl, rfl, fun _ _ => rfl, rfl, rfl⟩

theorem quiet_slices (b : Block) (l : List Host.Cell) : Quiet b { b with mem := { b.mem with slices := l } } :=
  ⟨rfl, rfl, rfl, rfl, rfl, rfl, rfl, rfl, rfl, rfl, rfl, rfl, rfl, rfl, rfl, fun _ _ => rfl, rfl, rfl⟩

theorem quiet_foldl {α : Type} (l : List α) (f : Block → α → Block) (h : ∀ b a, Quiet b (f b a)) (b : Block) : Quiet b (l.foldl f b) := by
  induction l generalizing b with
  | nil => exact Quiet.refl b
  | cons a l ih => exact (h b a).trans (ih _)

/-- A write of the block's own agents is quiet. -/
theorem quiet_agentPut (b : Block) (a : Nat) (l : List Byte) (ord : Nat) (pool : Option Nat) (seq what : Nat) :
    Quiet b (b.agentPut a l ord pool seq what) := by
  unfold Block.agentPut
  simp only
  repeat' split
  all_goals first
    | exact quiet_agentFailed _ _ _ _ _
    | exact quiet_wr0 _ _ _
    | exact quiet_slices _ _
    | exact quiet_foldl _ _ (fun _ _ => quiet_outOp _ _) _

/-- A report changes the two cause registers, the report registers, and what a write of the block's own agents may. -/
theorem report_quiet (b : Block) (unit code detail : Nat) :
    (b.report unit code detail).rm.execs = b.rm.execs ∧ (b.report unit code detail).cp = b.cp ∧
    (b.report unit code detail).clk = b.clk ∧ (b.report unit code detail).rq = b.rq ∧ (b.report unit code detail).mgt = b.mgt ∧
    (b.report unit code detail).ob = b.ob ∧ (b.report unit code detail).sa = b.sa ∧ (b.report unit code detail).pw = b.pw ∧
    (∀ f : Fld, f.off ∉ [F.LNK_RM_EVT_CODE.off, F.LNK_RM_CNT_A_FAR.off, F.LNK_RM_CNT_B_TIMEOUT.off] →
      f.off ∉ [F.MGT_RPT_SEQ_SEQ.off, F.MGT_CNT_RPT_LOST.off] →
      (b.report unit code detail).fget f =
        ((b.evt F.MGT_CAUSE_A_CAUSE (2 ^ unit)).evt F.MGT_CAUSE_B_CAUSE (2 ^ unit)).fget f) := by
  unfold Block.report
  generalize hc : (b.evt F.MGT_CAUSE_A_CAUSE (2 ^ unit)).evt F.MGT_CAUSE_B_CAUSE (2 ^ unit) = c
  have h0 : c.rm.execs = b.rm.execs ∧ c.cp = b.cp ∧ c.clk = b.clk ∧ c.rq = b.rq ∧ c.mgt = b.mgt ∧ c.ob = b.ob ∧ c.sa = b.sa ∧ c.pw = b.pw := by
    subst hc
    exact ⟨rfl, rfl, rfl, rfl, rfl, rfl, rfl, rfl⟩
  dsimp only
  split
  · exact ⟨h0.1, h0.2.1, h0.2.2.1, h0.2.2.2.1, h0.2.2.2.2.1, h0.2.2.2.2.2.1, h0.2.2.2.2.2.2.1, h0.2.2.2.2.2.2.2, fun _ _ _ => rfl⟩
  split
  · refine ⟨h0.1, h0.2.1, h0.2.2.1, h0.2.2.2.1, h0.2.2.2.2.1, h0.2.2.2.2.2.1, h0.2.2.2.2.2.2.1, h0.2.2.2.2.2.2.2, fun f _ h => ?_⟩
    exact Block.fget_fset_off _ _ _ _ (fun e => h (by rw [e]; decide))
  generalize hd : c.agentPut _ _ _ _ _ _ = d
  have q1 : Quiet c d := hd ▸ quiet_agentPut _ _ _ _ _ _ _
  generalize hs : c.fget F.MGT_RPT_SEQ_SEQ + 1 = n
  have q2 := quiet_agentPut (d.fset F.MGT_RPT_SEQ_SEQ n) ((d.fset F.MGT_RPT_SEQ_SEQ n).fget F.MGT_RPT_CTR_ADDR) (leBytes 8 n) 2 none 13 3
  refine ⟨q2.execs.trans (q1.execs.trans h0.1), q2.cp.trans (q1.cp.trans h0.2.1), q2.clk.trans (q1.clk.trans h0.2.2.1),
    q2.rq.trans (q1.rq.trans h0.2.2.2.1), q2.mgt.trans (q1.mgt.trans h0.2.2.2.2.1), q2.ob.trans (q1.ob.trans h0.2.2.2.2.2.1),
    q2.sa.trans (q1.sa.trans h0.2.2.2.2.2.2.1), q2.pw.trans (q1.pw.trans h0.2.2.2.2.2.2.2), fun f h1 h2 => ?_⟩
  rw [q2.fget f h1, Block.fget_fset_off _ _ _ _ (fun e => h2 (by rw [e]; decide)), q1.fget f h1]

end Sys2Proof.Machine
end

