-- ==== Sys2Proof/Laws/Bytes.lean ====
section
/-! SUPPORT. Little-endian bytes and the CRC of a record (R23, R432): what is written is read back, and a record closed with its CRC holds. -/
namespace Sys2Proof.Machine
open Sys2Proof

theorem crcByte_lt (c : Nat) (x : Byte) (h : c < 2 ^ 32) : crcByte c x < 2 ^ 32 := by
  have step : ∀ v : Nat, v < 2 ^ 32 → (if v % 2 = 1 then (v / 2) ^^^ 0xEDB88320 else v / 2) < 2 ^ 32 := by
    intro v hv
    split
    · exact Nat.xor_lt_two_pow (by omega) (by decide)
    · omega
  unfold crcByte
  exact step _ (step _ (step _ (step _ (step _ (step _ (step _ (step _ (Nat.xor_lt_two_pow h (by have := x.isLt; omega)))))))))

theorem crc32_lt (l : List Byte) : crc32 l < 2 ^ 32 := by
  have : ∀ (l : List Byte) (c : Nat), c < 2 ^ 32 → l.foldl crcByte c < 2 ^ 32 := by
    intro l
    induction l with
    | nil => exact fun c h => h
    | cons x r ih => exact fun c h => ih _ (crcByte_lt c x h)
  exact Nat.xor_lt_two_pow (this l _ (by decide)) (by decide)

theorem leNat_leBytes (n v : Nat) : leNat (leBytes n v) = v % 256 ^ n := by
  induction n generalizing v with
  | zero => simp [leBytes, leNat, Nat.mod_one]
  | succ n ih =>
    have h8 : (BitVec.ofNat 8 v).toNat = v % 256 := by simp
    rw [leBytes, leNat, ih, h8, Nat.pow_succ, Nat.mul_comm (256 ^ n) 256, Nat.mod_mul]

theorem leBytes_length (n v : Nat) : (leBytes n v).length = n := by
  induction n generalizing v with
  | zero => rfl
  | succ n ih => simp [leBytes, ih]

/-- A record closed with its CRC holds, unless it is all zero. -/
theorem crcHolds_withCrc (l : List Byte) (h : allZero (withCrc l) = false) : crcHolds (withCrc l) = true := by
  have hl : (withCrc l).length = l.length + 4 := by simp [withCrc, leBytes_length]
  have ht : (withCrc l).take l.length = l := by simp [withCrc]
  have hd : (withCrc l).drop l.length = leBytes 4 (crc32 l) := by simp [withCrc]
  unfold crcHolds lefld
  rw [hl, Nat.add_sub_cancel, ht, hd]
  have : (leBytes 4 (crc32 l)).take 4 = leBytes 4 (crc32 l) := List.take_of_length_le (Nat.le_of_eq (leBytes_length 4 _))
  rw [this, leNat_leBytes, h]
  have := crc32_lt l
  simp only [Bool.not_false, Bool.and_true, Bool.and_eq_true, decide_eq_true_eq, beq_iff_eq]
  exact ⟨Nat.le_add_left 4 _, Nat.mod_eq_of_lt this⟩

end Sys2Proof.Machine
end

