-- ==== Sys2Proof/Laws/Run.lean ====
section
/-! SUPPORT. What lifting a change of the block to a step can do: it answers a next state, keeps the queue, and holds a block that does not
operate as it is. -/
namespace Sys2Proof.Machine
open Sys2Proof

@[simp] theorem always_eq (s : State) (f : Block → Block) : s.always f = .next { s with blk := f s.blk } := rfl

theorem run_eq (s : State) (f : Block → Block) : s.run f = .next { s with blk := if s.blk.alive then f s.blk else s.blk } := rfl

/-- Where the block operates, the change is made. -/
theorem run_alive {s : State} (f : Block → Block) (h : s.blk.alive = true) : s.run f = .next { s with blk := f s.blk } := by simp [run_eq, h]

/-- Where it does not, nothing changes. -/
theorem run_dead {s : State} (f : Block → Block) (h : s.blk.alive = false) : s.run f = .next s := by simp [run_eq, h]

/-- Whatever the change, the queue stays. -/
theorem run_pending {s t : State} {f : Block → Block} (h : s.run f = .next t) : t.pending = s.pending := by
  rw [run_eq] at h
  cases h
  rfl

theorem always_pending {s t : State} {f : Block → Block} (h : s.always f = .next t) : t.pending = s.pending := by
  rw [always_eq] at h
  cases h
  rfl

/-- A step with a command at the front is the command's effect with the queue's rest. -/
theorem step_cons (s : State) (c : Instr) (r : List Instr) (h : s.pending = c :: r) : step s = exec c { s with pending := r } := by
  unfold step
  rw [h]

/-- A step with no command lets time pass. -/
theorem step_nil (s : State) (h : s.pending = []) : step s = .next { s with blk := s.blk.idle } := by
  unfold step
  rw [h]

end Sys2Proof.Machine
end

