-- ==== Sys2Proof/Laws/Exec.lean ====
section
/-! SUPPORT. What a command can do: it is a change of the block, held back in a block that does not operate unless it is a reset, supply or
test port command; and what `Issues` gives the one shared issue of an instruction. -/
namespace Sys2Proof.Machine
open Sys2Proof

/-- Every command but those of the reset, the supply and the test port is one change of the block, made where the block operates. -/
theorem exec_run (c : Instr) (h : Instr.always c = false) : ∃ f, ∀ s, exec c s = s.run f := by
  cases c <;> first | exact Bool.noConfusion h | exact ⟨_, fun s => by delta exec; dsimp only; rfl⟩

/-- Every command is one change of the block that the queue has no part in. -/
theorem exec_always (c : Instr) : ∃ f, ∀ s, exec c s = s.always f := by
  cases h : Instr.always c with
  | false =>
    obtain ⟨f, hf⟩ := exec_run c h
    exact ⟨_, fun s => (hf s).trans rfl⟩
  | true => cases c <;> first | exact Bool.noConfusion h | exact ⟨_, fun s => by delta exec; dsimp only; rfl⟩

/-- Where an executor issues an instruction, its effect is what issuing it does. -/
theorem issue_runs {b : Block} {x : ExecId} {w : NsiBody} {enc has : Bool} {run : Exec → Block} (h : Issues b x w enc) (hh : has = true) :
    b.issue x w enc has run = run (b.ex x) := by
  unfold Block.issue
  simp [h.run, h.ready, h.kernel, h.enc, h.guard, hh]

/-- Where the block operates, a command that is a change of the block makes it. -/
theorem does_run {c : Instr} {s : State} {f : Block → Block} (h : exec c s = s.run f) (ha : s.blk.alive = true) : Does c s (f s.blk) := by
  rw [Does, h, run_alive f ha]

/-- Where an executor issues an instruction it implements, the command makes the instruction's effect. -/
theorem does_issue {c : Instr} {s : State} {x : ExecId} {w : NsiBody} {enc : Bool} {has : Block → Bool} {run : Block → Exec → Block}
    (h : exec c s = s.run (fun b => b.issue x w enc (has b) (run b))) (hi : Issues s.blk x w enc) (hh : has s.blk = true) :
    Does c s (run s.blk (s.blk.ex x)) := by
  have h2 := does_run h hi.alive
  rwa [issue_runs hi hh] at h2

end Sys2Proof.Machine
end

