-- ==== Sys2Proof/Laws/Fields.lean ====
section
/-! SUPPORT. Reading a field after a field is set: what bits and setBits do bit by bit, and what fget reads after fset. -/
namespace Sys2Proof.Machine
open Sys2Proof

theorem bits_testBit (v lo wid i : Nat) : (bits v lo wid).testBit i = (decide (i < wid) && v.testBit (lo + i)) := by
  simp [bits, Nat.testBit_mod_two_pow, Nat.testBit_shiftRight]

theorem setBits_testBit (v lo wid x i : Nat) :
    (setBits v lo wid x).testBit i = if lo ≤ i ∧ i < lo + wid then x.testBit (i - lo) else v.testBit i := by
  have e : v = 2 ^ lo * (2 ^ wid * (v / 2 ^ lo / 2 ^ wid) + bits v lo wid) + v % 2 ^ lo := by
    rw [bits, Nat.shiftRight_eq_div_pow, Nat.div_add_mod, Nat.div_add_mod]
  have hs : setBits v lo wid x = 2 ^ lo * (2 ^ wid * (v / 2 ^ lo / 2 ^ wid) + x % 2 ^ wid) + v % 2 ^ lo := by
    unfold setBits
    generalize bits v lo wid = m at *
    generalize v / 2 ^ lo / 2 ^ wid = h at *
    generalize v % 2 ^ lo = l at *
    subst e
    rw [Nat.mul_add, Nat.mul_add, Nat.mul_comm (2 ^ lo) m, Nat.mul_comm (2 ^ lo) (x % 2 ^ wid)]
    generalize m * 2 ^ lo = p
    omega
  have hl : v % 2 ^ lo < 2 ^ lo := Nat.mod_lt _ (Nat.two_pow_pos _)
  have hx : x % 2 ^ wid < 2 ^ wid := Nat.mod_lt _ (Nat.two_pow_pos _)
  have hb : bits v lo wid < 2 ^ wid := Nat.mod_lt _ (Nat.two_pow_pos _)
  rw [hs, Nat.testBit_two_pow_mul_add _ hl, Nat.testBit_two_pow_mul_add _ hx]
  by_cases h1 : i < lo
  · rw [if_pos h1, if_neg (by omega), Nat.testBit_mod_two_pow]
    simp [h1]
  · rw [if_neg h1]
    by_cases h2 : i - lo < wid
    · rw [if_pos h2, if_pos (by omega), Nat.testBit_mod_two_pow]
      simp [h2]
    · rw [if_neg h2, if_neg (by omega)]
      have e2 : v.testBit i = _ := congrArg (fun n => Nat.testBit n i) e
      rw [e2, Nat.testBit_two_pow_mul_add _ hl, if_neg h1, Nat.testBit_two_pow_mul_add _ hb, if_neg h2]

/-- The stored word after a field is set, bit by bit. -/
theorem fset_testBit (b : Block) (f : Fld) (x i : Nat) (hi : i < 64) :
    ((b.fset f x).reg f.off).toNat.testBit i =
      if f.lo ≤ i ∧ i < f.lo + f.wid then x.testBit (i - f.lo) else (b.reg f.off).toNat.testBit i := by
  simp only [Block.fset, Block.setReg_same, BitVec.toNat_ofNat, Nat.testBit_mod_two_pow, setBits_testBit, hi, decide_true, Bool.true_and]

/-- A field set reads back what was set, modulo its width. -/
theorem fget_fset_same (b : Block) (f : Fld) (x : Nat) (h : f.lo + f.wid ≤ 64) : (b.fset f x).fget f = x % 2 ^ f.wid := by
  apply Nat.eq_of_testBit_eq
  intro i
  simp only [Block.fget, bits_testBit, Nat.testBit_mod_two_pow]
  by_cases hi : i < f.wid
  · rw [fset_testBit _ _ _ _ (by omega), if_pos (by omega)]
    simp [hi]
  · simp [hi]

/-- A field set leaves every field it does not overlap, in whatever register. -/
theorem fget_fset_other (b : Block) (f g : Fld) (x : Nat) (hg : g.lo + g.wid ≤ 64)
    (h : g.off = f.off → g.lo + g.wid ≤ f.lo ∨ f.lo + f.wid ≤ g.lo) : (b.fset f x).fget g = b.fget g := by
  by_cases ho : g.off = f.off
  · apply Nat.eq_of_testBit_eq
    intro i
    simp only [Block.fget, bits_testBit]
    by_cases hi : i < g.wid
    · have := h ho
      rw [ho, fset_testBit _ _ _ _ (by omega), if_neg (by omega)]
    · simp [hi]
  · exact Block.fget_fset_off b f g x ho

/-- A field read never exceeds its width. -/
theorem fget_lt (b : Block) (f : Fld) : b.fget f < 2 ^ f.wid := Nat.mod_lt _ (Nat.two_pow_pos _)

end Sys2Proof.Machine
end

