-- ==== Sys2Proof/Laws/Progress.lean ====
section
/-! SUPPORT. What noting the progress of an item can do (R274, R289): it writes the PROGRESS_US fields of its contexts and nothing else. -/
namespace Sys2Proof.Machine
open Sys2Proof

/-- Two executors with one key are one executor. -/
theorem xkey_inj {x y : ExecId} (h : xkey y = xkey x) : y = x := by
  cases x <;> cases y <;> simp only [xkey] at h <;> (try (exfalso; omega)) <;> (congr 1 <;> apply Fin.ext <;> omega)
/-- c differs from b only in stack memory, and in a canonical memory only within eight bytes from an address listed. -/
def StackOnly (b c : Block) (l : List Nat) : Prop :=
  c.rm = b.rm ∧ c.regs = b.regs ∧ c.rq = b.rq ∧ c.mgt = b.mgt ∧ c.clk = b.clk ∧ c.cp = b.cp ∧ c.io = b.io ∧ c.ob = b.ob ∧ c.st = b.st ∧ c.mem.die = b.mem.die ∧
  c.mem.slices = b.mem.slices ∧ c.mem.keep = b.mem.keep ∧
  (Memory.wf b.mem.stack = true → Memory.wf c.mem.stack = true ∧ ∀ a, (∀ q ∈ l, a < q ∨ q + 8 ≤ a) → mrd c.mem.stack a = mrd b.mem.stack a)

theorem StackOnly.refl (b l) : StackOnly b b l := ⟨rfl, rfl, rfl, rfl, rfl, rfl, rfl, rfl, rfl, rfl, rfl, rfl, fun h => ⟨h, fun _ _ => rfl⟩⟩

theorem StackOnly.trans {b c d l m} (h : StackOnly b c l) (g : StackOnly c d m) : StackOnly b d (l ++ m) := by
  obtain ⟨h1,h2,h3,h4,h5,h6,h7,h8,h9,h10,h11,h12,h13⟩ := h
  obtain ⟨g1,g2,g3,g4,g5,g6,g7,g8,g9,g10,g11,g12,g13⟩ := g
  refine ⟨g1.trans h1, g2.trans h2,g3.trans h3,g4.trans h4,g5.trans h5,g6.trans h6,g7.trans h7,g8.trans h8,g9.trans h9,g10.trans h10,g11.trans h11,g12.trans h12, fun w => ?_⟩
  obtain ⟨w1, w2⟩ := h13 w
  obtain ⟨w3, w4⟩ := g13 w1
  exact ⟨w3, fun a ha => (w4 a (fun q hq => ha q (by simp [hq]))).trans (w2 a (fun q hq => ha q (by simp [hq])))⟩

theorem len_leBytes (n v) : (leBytes n v).length = n := by
  induction n generalizing v with
  | zero => rfl
  | succ n ih => simp [leBytes, ih]

theorem stackOnly_wr0 (b o v) : StackOnly b (b.wr0 o (leBytes 8 v)) [o] :=
  ⟨rfl, rfl, rfl, rfl, rfl, rfl, rfl, rfl, rfl, rfl, rfl, rfl, fun h => ⟨mwrN_wf _ _ h, fun a ha => mrd_mwrN_other _ h (by simpa [len_leBytes] using ha o (by simp))⟩⟩

theorem stackOnly_fold (l : List Nat) (f : Nat → Nat) (base : Nat) (b : Block) (hb : b.fget F.MDL_ADP_BASE_BASE = base) (t) (ht : b.clk.timeUs = t) :
  StackOnly b (l.foldl (fun b a => b.wr0 (b.fget F.MDL_ADP_BASE_BASE + f a) (leBytes 8 b.clk.timeUs)) b) (l.map (fun a => base + f a)) := by
  induction l generalizing b with
  | nil => exact StackOnly.refl _ _
  | cons a l ih =>
    have h1 := stackOnly_wr0 b (b.fget F.MDL_ADP_BASE_BASE + f a) b.clk.timeUs
    have := StackOnly.trans h1 (ih _ (by simp [Block.fget, Block.reg] at *; exact hb) (by simpa using ht))
    simpa [hb] using this

theorem stackOnly_noteProgress (b : Block) (item) : StackOnly b (b.noteProgress item) (b.progressAt item) := by
  unfold Block.noteProgress Block.progressAt
  split
  · exact StackOnly.refl _ _
  · rename_i t ht
    have h1 := stackOnly_wr0 b (b.fget F.MDL_CAT_BASE_BASE + 128 * t.model + 40) b.clk.timeUs
    have h2 := stackOnly_fold ((b.wr0 (b.fget F.MDL_CAT_BASE_BASE + 128 * t.model + 40) (leBytes 8 b.clk.timeUs)).adaptersFor t.entry t.model) (fun a => 64 * a + 40) (b.fget F.MDL_ADP_BASE_BASE) (b.wr0 (b.fget F.MDL_CAT_BASE_BASE + 128 * t.model + 40) (leBytes 8 b.clk.timeUs)) (by simp [Block.fget, Block.reg]) b.clk.timeUs (by simp)
    simp only [ht]
    simpa [Nat.add_assoc] using StackOnly.trans h1 h2

end Sys2Proof.Machine
end

