-- ==== Sys2Proof/Laws/Regs.lean ====
section
/-! SUPPORT. Register writes (R417): what a write that passes every test does, what a field of a command word reads as, and the tests'
outcome for one that fails. -/
namespace Sys2Proof.Machine
open Sys2Proof

/-- A write that passes its tests stands, and carries out the command it names, if it names one. -/
theorem regWrite_accepts {b : Block} {src : RegSrc} {off : Nat} {v : Word} {busy : Bool} (h : b.accepts src off v busy) (act : Block → Block) :
    b.regWrite src off v busy act = if opOf off v = 0 then b.written src off v else act (b.written src off v) := by
  obtain ⟨r, hr, hru, ht⟩ := h
  unfold Block.regWrite Block.written
  simp only [hr, hru, ht, Bool.not_true, Bool.false_eq_true, if_false, ne_eq, not_true_eq_false]

/-- A write that fails a test changes nothing but the response. -/
theorem regWrite_refuses {b : Block} {src : RegSrc} {off : Nat} {v : Word} {busy : Bool} {r : RDesc} (hr : findReg off = some r)
    (hu : (b.run? || ownRules off) = true) (ht : b.regTest src r off v busy ≠ 0) (act : Block → Block) :
    b.regWrite src off v busy act = b.respond src (b.regTest src r off v busy) := by
  unfold Block.regWrite
  simp only [hr, hu, ht, Bool.not_true, Bool.false_eq_true, if_false, ne_eq, not_false_eq_true, if_true]

/-- A register that is not there refuses a write. -/
theorem regWrite_none {b : Block} {src : RegSrc} {off : Nat} {v : Word} {busy : Bool} (h : findReg off = none) (act : Block → Block) :
    b.regWrite src off v busy act = b.respond src 6 := by
  unfold Block.regWrite
  simp only [h]

/-- Whether a command may start now is tested last: a write that fails another test fails it busy or not. -/
theorem regTest_busy (b : Block) (src : RegSrc) (r : RDesc) (off : Nat) (v : Word) (busy : Bool) (h : b.regTest src r off v false ≠ 0) :
    b.regTest src r off v busy = b.regTest src r off v false := by
  have gen : ∀ (c1 c2 c3 c4 o : Bool), (if c1 then 4 else if c2 then 1 else if c3 then 1 else if c4 then 9 else if (false && o) = true then 2 else 0) ≠ 0 →
      (if c1 then 4 else if c2 then 1 else if c3 then 1 else if c4 then 9 else if (busy && o) = true then 2 else 0) =
      (if c1 then 4 else if c2 then 1 else if c3 then 1 else if c4 then 9 else if (false && o) = true then 2 else 0) := by
    intro c1 c2 c3 c4 o
    cases c1 <;> cases c2 <;> cases c3 <;> cases c4 <;> simp
  unfold Block.regTest at h ⊢
  exact gen _ _ _ _ _ h

/-- A write outside the semaphores and VRD_LOG_TAKEN is a write of a register, with a test and a command of the register's own. -/
theorem anyWrite_regWrite (b : Block) (src : RegSrc) (off : Nat) (v : Word) (h : ¬ (0x1100 ≤ off ∧ off < 0x1200)) (hl : off ≠ 0x0E30) :
    ∃ busy act, b.anyWrite src off v = b.regWrite src off v busy act := by
  unfold Block.anyWrite
  rw [if_neg (fun g => h ⟨g.1, g.2.1⟩)]
  unfold Block.staCmd Block.seqCmd Block.pgCmd Block.tokSlotCmd Block.grmCmd Block.stpCmd Block.pipCmd Block.mdlCmd Block.adpCmd Block.orcCmd
    Block.matCmd Block.vrdCmd Block.mgtCommit Block.lnkCmd Block.memCmd Block.lifCmd
  split <;> first
    | exact absurd rfl hl
    | exact ⟨_, _, rfl⟩

/-- A write of VRD_LOG_TAKEN that stands lets staged verdict log records drain (R334). -/
theorem anyWrite_logTaken {b : Block} {src : RegSrc} {v : Word} (h : b.accepts src 0x0E30 v false) :
    b.anyWrite src 0x0E30 v = (b.written src 0x0E30 v).logPump := by
  have hw : b.anyWrite src 0x0E30 v = b.logTakenWrite src v := by
    unfold Block.anyWrite
    rw [if_neg (by omega)]
    exact rfl
  have h0 : opOf 0x0E30 v = 0 := by
    have : opFld 0x0E30 = none := by decide
    simp only [opOf, this, Option.map_none, Option.getD_none]
  have hs := regWrite_accepts h (fun b => b)
  obtain ⟨r, h1, h2, h3⟩ := h
  have ho : ownRules 0x0E30 = false := by decide
  rw [ho, Bool.or_false] at h2
  rw [if_pos h0] at hs
  rw [hw]
  unfold Block.logTakenWrite
  simp only [hs, h1, h2, h3, Option.map_some, beq_self_eq_true, Bool.and_self, if_true]

/-- A command word of two fields reads as it was put. -/
theorem wfld_wput (off a b la wa lb wb : Nat) (h1 : la + wa ≤ lb) (h2 : lb + wb ≤ 64) (ha : a < 2 ^ wa) (hb : b < 2 ^ wb) :
    wfld (wput [(⟨off, la, wa⟩, a), (⟨off, lb, wb⟩, b)]) ⟨off, la, wa⟩ = a ∧
    wfld (wput [(⟨off, la, wa⟩, a), (⟨off, lb, wb⟩, b)]) ⟨off, lb, wb⟩ = b := by
  obtain ⟨d, rfl⟩ := Nat.exists_eq_add_of_le h1
  have e0 : a * 2 ^ la < 2 ^ (la + wa) := by
    rw [Nat.add_comm, Nat.pow_add]
    exact Nat.mul_lt_mul_of_pos_right ha (Nat.two_pow_pos _)
  have e2 : 2 ^ (la + wa) ≤ 2 ^ (la + wa + d) := Nat.pow_le_pow_right (by omega) (by omega)
  have e1 : a * 2 ^ la + b * 2 ^ (la + wa + d) < 2 ^ 64 := by
    have h3 : (b + 1) * 2 ^ (la + wa + d) ≤ 2 ^ (la + wa + d + wb) := by
      rw [Nat.add_comm _ wb, Nat.pow_add 2 wb]
      exact Nat.mul_le_mul_right _ hb
    have h4 : 2 ^ (la + wa + d + wb) ≤ 2 ^ 64 := Nat.pow_le_pow_right (by omega) h2
    rw [Nat.add_mul, Nat.one_mul] at h3
    omega
  simp only [wfld, wput, mkWord, List.map, List.foldl, Nat.mod_eq_of_lt ha, Nat.mod_eq_of_lt hb, Nat.zero_add, BitVec.toNat_ofNat,
    Nat.mod_eq_of_lt e1, bits, Nat.shiftRight_eq_div_pow]
  constructor
  · rw [show b * 2 ^ (la + wa + d) = 2 ^ la * (2 ^ wa * (2 ^ d * b)) by rw [Nat.pow_add, Nat.pow_add]; simp only [Nat.mul_assoc, Nat.mul_comm, Nat.mul_left_comm],
      Nat.mul_comm a, ← Nat.mul_add, Nat.mul_div_cancel_left _ (Nat.two_pow_pos _), Nat.add_mul_mod_self_left, Nat.mod_eq_of_lt ha]
  · rw [Nat.add_mul_div_right _ _ (Nat.two_pow_pos _), Nat.div_eq_of_lt (by omega), Nat.zero_add, Nat.mod_eq_of_lt hb]

/-- A write of one field touches no memory. -/
@[simp] theorem Block.putField_mem (b : Block) (off : Nat) (v : Word) (f : FDesc) : (b.putField off v f).mem = b.mem := by
  unfold Block.putField
  dsimp only
  split
  · rfl
  · split <;> rfl

/-- A register write that stands touches no memory. -/
@[simp] theorem Block.written_mem (b : Block) (src : RegSrc) (off : Nat) (v : Word) : (b.written src off v).mem = b.mem := by
  have hf : ∀ (l : List FDesc) (c : Block), (l.foldl (fun c f => c.putField off v f) c).mem = c.mem := by
    intro l
    induction l with
    | nil => exact fun c => rfl
    | cons f r ih => exact fun c => (ih _).trans (Block.putField_mem c off v f)
  unfold Block.written
  split
  · rfl
  · dsimp only
    rw [Block.respond_mem]
    split
    · unfold Block.unfreeze
      split
      · exact hf _ _
      · exact hf _ _
    · exact hf _ _

end Sys2Proof.Machine
end

