-- ==== Sys2Proof/WellFormed.lean ====
section
/-! DEFINITION. Which commands the interfaces can carry: every operand inside the range its signal, field or packet has. -/
namespace Sys2Proof

/-- A source of register accesses (R379, R414): eight Stem ports, 64 links. -/
def RegSrc.wf : RegSrc → Bool
  | .portA | .portB => true
  | .exec x => decide (x < 2 ^ 16)
  | .stem p => decide (p < 8)
  | .link l => decide (l < 64)

/-- An answer to a far read: an error code of R399 with no data, or data. -/
def FarRead.wf (f : FarRead) : Bool := decide (f.addr < 2 ^ 64) && decide (f.code ≤ 11) && (f.code == 0 || f.data.isEmpty)

def farsWf (l : List FarRead) : Bool := l.all FarRead.wf

/-- A packet (R409): the widths of its header fields. -/
def Pkt.wf (p : Pkt) : Bool :=
  decide (p.port < 8) && decide (p.flags < 256) && decide (p.tag < 2 ^ 16) && decide (p.length ≤ 4096) && decide (p.data.length ≤ 4096)

/-- A flit (R432). -/
def Flit.wf (f : Flit) : Bool :=
  decide (f.vc < 256) && decide (f.seq < 4096) && decide (f.ack < 4096) && decide (f.crdReq < 256) && decide (f.crdRsp < 256)
  && decide (f.len ≤ 240) && decide (f.expect < 2 ^ 16)

/-- A training flit (R437). -/
def Ctrl.wf (c : Ctrl) : Bool :=
  decide (c.node < 256) && decide (c.link < 64) && decide (c.seq < 4096) && decide (c.grantReq < 1024) && decide (c.grantRsp < 1024)

/-- A proposal of a draft pass names an entry and a parent node, or the root (R215). -/
def Proposal.wf (p : Proposal) : Bool := decide (p.entry < 65536) && decide (p.parent ≤ 255) && decide (p.token < 2 ^ 32)

def ReadFault.wf (f : ReadFault) : Bool := decide (f.group < 4)

/-- One read of a gang line has 8 codewords (R449). -/
def BurstRead.wf (r : BurstRead) : Bool :=
  r.sev.all (fun p => decide (p < 18)) && r.flips.all (fun f => decide (f.1 < 18) && decide (f.2.1 < 32)) && decide (r.innerCorrected ≤ 18)
def LineRead.wf (r : LineRead) : Bool := r.first.wf && r.second.wf

/-- A power sample has at most one answer for each of the four segments (R469). -/
def Sample.wf (s : Sample) : Bool := decide (s.segs.length ≤ 4) && (match s.voltageFail with
  | none => true
  | some r => decide (r < 16))

/-- What a start attempt meets: stacks 0 to 11, sensors 0 to 95. -/
def StartEnv.wf (e : StartEnv) : Bool :=
  e.trained.all (fun n => decide (n < 12)) && farsWf e.image && decide (e.lines * 3 * 512 ≤ 2 ^ 36)
  && (match e.hotSensor with
    | none => true
    | some n => decide (n < 96))
  && (match e.loadTrainFail with
    | none => true
    | some n => decide (n < 12))

/-- A command is well formed. -/
def Instr.wf : Instr → Bool
  | .tickInEdge _ => true
  | .internalTick => true
  | .tickSourceMissed => true
  | .intakeClose far => farsWf far
  | .acceptPhase entry => decide (entry < 65536)
  | .draftCutoff => true
  | .maskTarget => true
  | .maskDeadline => true
  | .publishPhase => true
  | .turnWindowEnd => true
  | .monitorEval => true
  | .scheduleFrame => true
  | .verdictRelease entry => decide (entry < 65536)
  | .itemDone _ _ _ => true
  | .admDoorbell count => decide (count < 2 ^ 64)
  | .admissionClaim => true
  | .ctlDoorbell count => decide (count < 2 ^ 64)
  | .controlClaim => true
  | .punnetTaken count => decide (count < 2 ^ 64)
  | .logTaken count => decide (count < 2 ^ 64)
  | .reportTaken count => decide (count < 2 ^ 64)
  | .latticeJobDone unit _ far => decide (unit < 8) && farsWf far
  | .matchJobDone unit _ far => decide (unit < 16) && farsWf far
  | .maskJobDone unit _ far => decide (unit < 32) && farsWf far
  | .treeJobDone unit bad far => decide (unit < 8) && bad.all ReadFault.wf && farsWf far
  | .dpassDone proposals => proposals.all Proposal.wf
  | .fetchDataArrive cluster picker _ far => decide (cluster < 64) && decide (picker < 2) && farsWf far
  | .remoteOpComplete _ => true
  | .waitConditionMet _ => true
  | .remoteTimeout _ => true
  | .modelLoadComplete _ number far => decide (number < 2 ^ 18) && farsWf far
  | .hotFillComplete _ number => decide (number < 2 ^ 18)
  | .fillRetry => true
  | .nsiNop _ _ _ => true
  | .nsiAdd _ _ _ => true
  | .nsiSub _ _ _ => true
  | .nsiAnd _ _ _ => true
  | .nsiOr _ _ _ => true
  | .nsiXor _ _ _ => true
  | .nsiShl _ _ _ => true
  | .nsiShr _ _ _ => true
  | .nsiSra _ _ _ => true
  | .nsiMul _ _ _ => true
  | .nsiMulhu _ _ _ => true
  | .nsiMin _ _ _ => true
  | .nsiMax _ _ _ => true
  | .nsiMinu _ _ _ => true
  | .nsiMaxu _ _ _ => true
  | .nsiBext _ _ _ => true
  | .nsiLi _ _ _ => true
  | .nsiCeq _ _ _ => true
  | .nsiCne _ _ _ => true
  | .nsiClt _ _ _ => true
  | .nsiCltu _ _ _ => true
  | .nsiCle _ _ _ => true
  | .nsiCleu _ _ _ => true
  | .nsiPand _ _ _ => true
  | .nsiPor _ _ _ => true
  | .nsiPnot _ _ _ => true
  | .nsiBr _ _ _ => true
  | .nsiBrr _ _ _ => true
  | .nsiCall _ _ _ => true
  | .nsiRet _ _ _ => true
  | .nsiTrap _ _ _ => true
  | .nsiRft _ _ _ => true
  | .nsiEnd _ _ _ => true
  | .nsiCsrr _ _ _ => true
  | .nsiCsrw _ _ _ => true
  | .nsiTld _ _ _ => true
  | .nsiTmv _ _ _ => true
  | .nsiQpop _ _ _ => true
  | .nsiQrel _ _ _ => true
  | .nsiMma _ _ _ _ => true
  | .nsiAccst _ _ _ => true
  | .nsiAccld _ _ _ => true
  | .nsiAccz _ _ _ => true
  | .nsiVadd _ _ _ => true
  | .nsiVsub _ _ _ => true
  | .nsiVmul _ _ _ => true
  | .nsiVfma _ _ _ => true
  | .nsiVdiv _ _ _ => true
  | .nsiVmax _ _ _ => true
  | .nsiVmin _ _ _ => true
  | .nsiVsqrt _ _ _ => true
  | .nsiVexp _ _ _ => true
  | .nsiVlog _ _ _ => true
  | .nsiVrsqrt _ _ _ => true
  | .nsiVtanh _ _ _ => true
  | .nsiVsig _ _ _ => true
  | .nsiVerf _ _ _ => true
  | .nsiVadds _ _ _ => true
  | .nsiVmuls _ _ _ => true
  | .nsiVsum _ _ _ => true
  | .nsiVdot _ _ _ => true
  | .nsiVrmax _ _ _ => true
  | .nsiVcvt _ _ _ => true
  | .nsiVcopy _ _ _ => true
  | .nsiFetch _ _ _ => true
  | .nsiFetchg _ _ _ => true
  | .nsiPut _ _ _ => true
  | .nsiGet _ _ _ => true
  | .nsiPuts _ _ _ => true
  | .nsiGets _ _ _ => true
  | .nsiAadd _ _ _ => true
  | .nsiFadd _ _ _ => true
  | .nsiCas _ _ _ => true
  | .nsiWait _ _ _ => true
  | .nsiFence _ _ _ => true
  | .nsiTfence _ _ _ => true
  | .nsiLattice _ _ _ => true
  | .nsiMatch _ _ _ => true
  | .nsiMask _ _ _ => true
  | .nsiTree _ _ _ => true
  | .nsiTwait _ _ _ => true
  | .nsiEnq _ _ _ => true
  | .nsiDpass _ _ _ => true
  | .nsiLpg _ _ _ => true
  | .nsiLphase _ _ _ => true
  | .stemRead pkt => pkt.wf
  | .stemWrite pkt => pkt.wf
  | .stemAadd pkt => pkt.wf
  | .stemFadd pkt => pkt.wf
  | .stemCas pkt => pkt.wf
  | .stemRspData pkt => pkt.wf
  | .stemRspAck pkt => pkt.wf
  | .stemRspErr pkt => pkt.wf
  | .stemCreditReturn port vc count => decide (port < 8) && decide (vc < 2) && decide (count < 16)
  | .stemPortUp port => decide (port < 8)
  | .stemPortDown port => decide (port < 8)
  | .stemTxStall port => decide (port < 8)
  | .registerWrite src offset _ _ => src.wf && decide (offset < 2 ^ 52)
  | .mgtCommitGroup src group _ => src.wf && decide (group < 32)
  | .mgtAbortGroup src group _ => src.wf && decide (group < 32)
  | .semAcquire src sem lease => src.wf && decide (sem < 32) && decide (lease < 2 ^ 20)
  | .semRenew src sem lease => src.wf && decide (sem < 32) && decide (lease < 2 ^ 20)
  | .semRelease src sem => src.wf && decide (sem < 32)
  | .semLeaseExpire sem => decide (sem < 32)
  | .staStart src env => src.wf && env.wf
  | .staClear src => src.wf
  | .staTakeOver src => src.wf
  | .startRetry env => env.wf
  | .startLimit => true
  | .resetAssert => true
  | .resetRelease => true
  | .todFrame _ => true
  | .calSyncTimeout => true
  | .lifRestore src => src.wf
  | .checkpoint => true
  | .pairHello imageId node _ => decide (imageId < 2 ^ 32) && decide (node < 256)
  | .pairHelloTimeout => true
  | .pairSync => true
  | .pairEpochRaise count => decide (count < 2 ^ 64)
  | .pairAckRaise count => decide (count < 2 ^ 64)
  | .pairStandbyTimeout => true
  | .pairFence => true
  | .takeoverEffect far => farsWf far
  | .tokSlotLoad src slot => src.wf && decide (slot < 32)
  | .tokSlotUnload src slot => src.wf && decide (slot < 32)
  | .grammarLoad src number => src.wf && decide (number < 65536)
  | .grammarUnload src number => src.wf && decide (number < 65536)
  | .stopsetLoad src number => src.wf && decide (number < 65536)
  | .stopsetUnload src number => src.wf && decide (number < 65536)
  | .pgCmdRetire src page => src.wf && decide (page < 2 ^ 27)
  | .pgCmdRelease src page => src.wf && decide (page < 2 ^ 27)
  | .pipRelease src cluster pip => src.wf && decide (cluster < 64) && decide (pip < 32)
  | .clusterRelease src cluster => src.wf && decide (cluster < 64)
  | .seqRestartCmd src number => src.wf && decide (number < 8)
  | .modelRegister src number => src.wf && decide (number < 8192)
  | .modelFetch src number => src.wf && decide (number < 8192)
  | .modelUnload src number => src.wf && decide (number < 8192)
  | .modelPin src number => src.wf && decide (number < 8192)
  | .modelUnpin src number => src.wf && decide (number < 8192)
  | .adapterRegister src number => src.wf && decide (number < 2 ^ 18)
  | .adapterUnregister src number => src.wf && decide (number < 2 ^ 18)
  | .adapterFetch src number => src.wf && decide (number < 2 ^ 18)
  | .ensembleLoad src number => src.wf && decide (number < 256)
  | .ensembleUnload src number => src.wf && decide (number < 256)
  | .threadGroupRelease src number => src.wf && decide (number < 256)
  | .matcherSetLoad src number => src.wf && decide (number < 1024)
  | .matcherSetUnload src number => src.wf && decide (number < 1024)
  | .matcherRelease src number => src.wf && decide (number < 1024)
  | .profileDefine src number => src.wf && decide (number < 4096)
  | .profileUndefine src number => src.wf && decide (number < 4096)
  | .lnkCmdRelease src unit number lane => src.wf && decide (unit < 5) && decide (number < 64) && decide (lane < 4)
  | .lnkCmdRetire src unit number lane => src.wf && decide (unit < 5) && decide (number < 64) && decide (lane < 4)
  | .memCmdRelease src unit stack pch => src.wf && decide (unit < 2) && decide (stack < 12) && decide (pch < 64)
  | .memCmdRetire src unit stack pch => src.wf && decide (unit < 2) && decide (stack < 12) && decide (pch < 64)
  | .linkDataFlit link flit => decide (link < 64) && flit.wf
  | .linkNakFlit link flit => decide (link < 64) && flit.wf
  | .linkCtrlFlit link ctrl => decide (link < 64) && ctrl.wf
  | .linkIdleFlit link flit => decide (link < 64) && flit.wf
  | .linkAckTimeout link => decide (link < 64)
  | .linkRequestPacket link kind pkt => decide (link < 64) && decide (kind < 16) && pkt.wf
  | .linkResponsePacket link kind pkt => decide (link < 64) && decide (kind < 16) && pkt.wf
  | .linkLosChange link _ => decide (link < 64)
  | .oeFaultRise link => decide (link < 64)
  | .oeReadyChange link _ => decide (link < 64)
  | .fecLockLoss link => decide (link < 64)
  | .linkTrainDone link => decide (link < 64)
  | .linkTrainTimeout link => decide (link < 64)
  | .laneSerInterval link lane _ _ => decide (link < 64) && decide (lane < 4)
  | .retiredLinkProbe link => decide (link < 64)
  | .rebuildStep stack gang read => decide (stack < 12) && decide (gang < 3) && read.wf
  | .scrubStep stack read => decide (stack < 12) && read.wf
  | .cattrip stack _ => decide (stack < 12)
  | .powerSample sample => sample.wf
  | .thermalRead readings => decide (readings.length ≤ 96)
  | .thermalTrip sensor _ => decide (sensor < 96)
  | .tapReset => true
  | .tapExtest => true
  | .tapSamplePreload => true
  | .tapIdcode => true
  | .tapClamp => true
  | .tapHighz => true
  | .tapIjtag segs _ _ => decide segs.Nodup
  | .tapBypass => true
  | .waitTimeout _ => true
  | .lgrPgARead src => src.wf
  | .stackInterfaceRetrain stack _ => decide (stack < 12)
  | .loadCheckComplete _ number => decide (number < 65536)
  | .coreRailLoss => true

end Sys2Proof
end

