-- ==== Sys2Proof/Tests/Slice0.lean ====
section
/-! SUPPORT. Tests: the well-formedness checks, single steps of commands, and a witness for the hypotheses of each statement. Expected
results are read from the specification. -/
namespace Sys2Proof.Tests
open Sys2Proof Sys2Proof.Machine
-- One theorem after another: the kernel evaluates them, and many at once would want a stack each.
set_option Elab.async false

/-- A block in RUN, otherwise as reset leaves it. -/
def up : Block := (Block.reset KeyStore.reset []).fset F.STA_STAT_STAGE 9
/-- A block in another stage. -/
def inStage (n : Nat) : Block := up.fset F.STA_STAT_STAGE n
/-- The same with ticks running. -/
def ticks : Block := { up with clk := { up.clk with ticking := true } }
/-- The same in the main window of a tick. -/
def window : Block := { ticks with clk := { ticks.clk with mainWindow := true } }
/-- A block without its core supply. -/
def dead : Block := { up with sa := { up.sa with railLost := true } }
/-- A block held in reset. -/
def held : Block := { up with sa := { up.sa with inReset := true } }
/-- A state with no command waiting. -/
def st (b : Block) : State := { pending := [], blk := b }
def seq0 : ExecId := .seq 0
def pip0 : ExecId := .pip 0 0
def pkr0 : ExecId := .pkr 0 0
/-- The up block with an executor's registers given. -/
def withEx (x : ExecId) (e : Exec) : Block := up.setEx x e
/-- An executor with scalar registers given. -/
def regs (l : List (Nat × Word)) : Exec := { Exec.clear with s := l }
/-- An instruction word from fields given as (lowest bit, value). -/
def wd (l : List (Nat × Nat)) : NsiBody := BitVec.ofNat 54 ((l.map (fun p => p.2 * 2 ^ (p.1 - 10))).sum)
/-- A packet of good parity for a port. -/
def pkt (p : Nat) : Pkt :=
  { port := p, flags := 0, tag := 0, length := 8, addr := 0, value := 0, compare := 0, data := [], headerOk := true, payloadOk := true }
def flit : Flit := { crcOk := true, vc := 0, seq := 0, ackValid := false, ack := 0, crdReq := 0, crdRsp := 0, len := 240, expect := 0 }
def ctrl : Ctrl := { crcOk := true, kind := 0, lanes := 15, node := 255, link := 63, seq := 4095, grantReq := 1023, grantRsp := 1023, fresh := true }
/-- A burst read without error. -/
def burst : BurstRead := { sev := [], flips := [], innerCorrected := 0 }
/-- A line read twice with the last position bad, the last byte of the last position off, and each burst corrected inside. -/
def line : LineRead := { first := { sev := [17], flips := [(17, 31, 1)], innerCorrected := 18 }, second := burst }
def sample : Sample := { e := 0, x := 0, segs := [none, none, none, none], framesFailed := 0, voltageFail := some 15 }
def env : StartEnv := { trained := [0, 11], lines := 1, image := [], unstable := none, hotSensor := some 95, bondFailed := 0, loadTrainFail := some 11 }

/-- The conditions of Issues, as a Bool. -/
def issuing (b : Block) (x : ExecId) (w : NsiBody) (enc : Bool) : Bool :=
  b.alive && b.run? && (b.ex x).ready && !((b.ex x).item.isSome && (b.ex x).code == 0) && enc && guardOn (b.ex x) w

theorem issues_of {b : Block} {x : ExecId} {w : NsiBody} {enc : Bool} (h : issuing b x w enc = true) : Issues b x w enc := by
  simp only [issuing, Bool.and_eq_true, Bool.not_eq_true'] at h
  exact ⟨h.1.1.1.1.1, h.1.1.1.1.2, h.1.1.1.2, h.1.1.2, h.1.2, h.2⟩

/-- The conditions of a register write that is accepted, as a Bool. -/
def accepting (b : Block) (src : RegSrc) (off : Nat) (v : Word) (busy : Bool) : Bool :=
  match findReg off with
  | none => false
  | some r => (b.run? || ownRules off) && b.regTest src r off v busy == 0

theorem accepts_of {b : Block} {src : RegSrc} {off : Nat} {v : Word} {busy : Bool} (h : accepting b src off v busy = true) :
    b.accepts src off v busy := by
  unfold accepting at h
  split at h
  · cases h
  · next r hr =>
    simp only [Bool.and_eq_true, beq_iff_eq] at h
    exact ⟨r, hr, h.1, h.2⟩

/-! Well-formed and ill-formed commands: each bound at its last good and first bad value. -/

/-- Parts of operands, each outside its range. -/
theorem test_wf_parts : [RegSrc.exec 65536, .stem 8, .link 64].all (!·.wf) = true ∧
    [({ addr := 2 ^ 64, code := 0, data := [] } : FarRead), { addr := 0, code := 12, data := [] }, { addr := 0, code := 1, data := [0] }].all (!·.wf) = true ∧
    [{ pkt 8 with port := 8 }, { pkt 0 with flags := 256 }, { pkt 0 with tag := 65536 }, { pkt 0 with length := 4097 }].all (!·.wf) = true ∧
    [{ flit with vc := 256 }, { flit with seq := 4096 }, { flit with ack := 4096 }, { flit with crdReq := 256 }, { flit with crdRsp := 256 },
      { flit with len := 241 }, { flit with expect := 65536 }].all (!·.wf) = true ∧
    [{ ctrl with node := 256 }, { ctrl with link := 64 }, { ctrl with seq := 4096 }, { ctrl with grantReq := 1024 }, { ctrl with grantRsp := 1024 }].all (!·.wf) = true ∧
    [({ entry := 65536, failed := false, parent := 0, token := 0, logp := 0 } : Proposal), { entry := 0, failed := false, parent := 256, token := 0, logp := 0 },
      { entry := 0, failed := false, parent := 255, token := 2 ^ 32, logp := 0 }].all (!·.wf) = true ∧
    ReadFault.wf { vector := 0, group := 4, again := false } = false ∧
    [{ line with first := { burst with sev := [18] } }, { line with second := { burst with flips := [(18, 0, 1)] } },
      { line with second := { burst with flips := [(0, 32, 1)] } }, { line with first := { burst with innerCorrected := 19 } }].all (!·.wf) = true ∧
    [{ sample with segs := List.replicate 5 none }, { sample with voltageFail := some 16 }].all (!·.wf) = true ∧
    [{ env with trained := [12] }, { env with lines := 2 ^ 32 }, { env with image := [{ addr := 0, code := 12, data := [] }] }, { env with hotSensor := some 96 },
      { env with loadTrainFail := some 12 }].all (!·.wf) = true := by decide

/-- A payload of more than 4096 bytes. -/
theorem test_wf_payload (l : List Byte) (h : 4096 < l.length) : Pkt.wf { pkt 0 with data := l } = false := by
  simp only [Pkt.wf, Bool.and_eq_false_iff, decide_eq_false_iff_not]
  exact .inr (by omega)

/-- Operands of tick, table, unit and store commands, each one past its range. -/
theorem test_wf_table : [Instr.acceptPhase 65536, .verdictRelease 65536, .admDoorbell (2 ^ 64), .ctlDoorbell (2 ^ 64), .punnetTaken (2 ^ 64),
    .logTaken (2 ^ 64), .reportTaken (2 ^ 64), .latticeJobDone 8 false [], .matchJobDone 16 false [], .maskJobDone 32 false [], .treeJobDone 8 [] [],
    .treeJobDone 0 [{ vector := 0, group := 4, again := false }] [], .intakeClose [{ addr := 0, code := 12, data := [] }],
    .latticeJobDone 0 false [{ addr := 0, code := 12, data := [] }], .matchJobDone 0 false [{ addr := 0, code := 12, data := [] }],
    .maskJobDone 0 false [{ addr := 0, code := 12, data := [] }], .treeJobDone 0 [] [{ addr := 0, code := 12, data := [] }],
    .dpassDone [{ entry := 65536, failed := false, parent := 0, token := 0, logp := 0 }], .fetchDataArrive 64 0 0 [], .fetchDataArrive 0 2 0 [],
    .fetchDataArrive 0 0 0 [{ addr := 0, code := 12, data := [] }], .modelLoadComplete true (2 ^ 18) [], .modelLoadComplete true 0 [{ addr := 0, code := 12, data := [] }],
    .hotFillComplete false (2 ^ 18), .loadCheckComplete .vocab 65536, .takeoverEffect [{ addr := 0, code := 12, data := [] }],
    .pairHello (2 ^ 32) 0 false, .pairHello 0 256 false, .pairEpochRaise (2 ^ 64), .pairAckRaise (2 ^ 64)].all (!·.wf) = true := by decide

/-- Operands of port, register, command register, link, stack and power commands, each one past its range. -/
theorem test_wf_ports : [Instr.stemRead (pkt 8), .stemWrite (pkt 8), .stemAadd (pkt 8), .stemFadd (pkt 8), .stemCas (pkt 8), .stemRspData (pkt 8),
    .stemRspAck (pkt 8), .stemRspErr (pkt 8), .stemCreditReturn 8 0 1, .stemCreditReturn 0 2 1, .stemCreditReturn 0 0 16, .stemPortUp 8, .stemPortDown 8,
    .stemTxStall 8, .registerWrite (.stem 8) 0 0 true, .registerWrite .portA (2 ^ 52) 0 true, .mgtCommitGroup (.stem 8) 0 true,
    .mgtCommitGroup .portA 32 true, .mgtAbortGroup (.stem 8) 0 true, .mgtAbortGroup .portA 32 true, .semAcquire (.stem 8) 0 0, .semAcquire .portA 32 0,
    .semAcquire .portA 0 (2 ^ 20), .semRenew (.stem 8) 0 0, .semRenew .portA 32 0, .semRenew .portA 0 (2 ^ 20), .semRelease (.stem 8) 0,
    .semRelease .portA 32, .semLeaseExpire 32, .staStart (.stem 8) env, .staStart .portA { env with trained := [12] }, .staClear (.stem 8),
    .staTakeOver (.stem 8), .startRetry { env with trained := [12] }, .lifRestore (.stem 8), .lgrPgARead (.stem 8)].all (!·.wf) = true := by decide

theorem test_wf_commands : [Instr.tokSlotLoad .portA 32, .tokSlotUnload .portA 32, .grammarLoad .portA 65536, .grammarUnload .portA 65536,
    .stopsetLoad .portA 65536, .stopsetUnload .portA 65536, .pgCmdRetire .portA (2 ^ 27), .pgCmdRelease .portA (2 ^ 27), .pipRelease .portA 64 0,
    .pipRelease .portA 0 32, .clusterRelease .portA 64, .seqRestartCmd .portA 8, .modelRegister .portA 8192, .modelFetch .portA 8192,
    .modelUnload .portA 8192, .modelPin .portA 8192, .modelUnpin .portA 8192, .adapterRegister .portA (2 ^ 18), .adapterUnregister .portA (2 ^ 18),
    .adapterFetch .portA (2 ^ 18), .ensembleLoad .portA 256, .ensembleUnload .portA 256, .threadGroupRelease .portA 256, .matcherSetLoad .portA 1024,
    .matcherSetUnload .portA 1024, .matcherRelease .portA 1024, .profileDefine .portA 4096, .profileUndefine .portA 4096, .lnkCmdRelease .portA 5 0 0,
    .lnkCmdRelease .portA 0 64 0, .lnkCmdRelease .portA 0 0 4, .lnkCmdRetire .portA 5 0 0, .lnkCmdRetire .portA 0 64 0, .lnkCmdRetire .portA 0 0 4,
    .memCmdRelease .portA 2 0 0, .memCmdRelease .portA 0 12 0, .memCmdRelease .portA 0 0 64, .memCmdRetire .portA 2 0 0, .memCmdRetire .portA 0 12 0,
    .memCmdRetire .portA 0 0 64].all (!·.wf) = true := by decide

theorem test_wf_sources : ([Instr.tokSlotLoad (.link 64) 0, .tokSlotUnload (.link 64) 0, .grammarLoad (.link 64) 0, .grammarUnload (.link 64) 0,
    .stopsetLoad (.link 64) 0, .stopsetUnload (.link 64) 0, .pgCmdRetire (.link 64) 0, .pgCmdRelease (.link 64) 0, .pipRelease (.link 64) 0 0,
    .clusterRelease (.link 64) 0, .seqRestartCmd (.link 64) 0, .modelRegister (.link 64) 0, .modelFetch (.link 64) 0, .modelUnload (.link 64) 0,
    .modelPin (.link 64) 0, .modelUnpin (.link 64) 0, .adapterRegister (.link 64) 0, .adapterUnregister (.link 64) 0, .adapterFetch (.link 64) 0,
    .ensembleLoad (.link 64) 0, .ensembleUnload (.link 64) 0, .threadGroupRelease (.link 64) 0, .matcherSetLoad (.link 64) 0,
    .matcherSetUnload (.link 64) 0, .matcherRelease (.link 64) 0, .profileDefine (.link 64) 0, .profileUndefine (.link 64) 0,
    .lnkCmdRelease (.link 64) 0 0 0, .lnkCmdRetire (.link 64) 0 0 0, .memCmdRelease (.link 64) 0 0 0, .memCmdRetire (.link 64) 0 0 0]).all (!·.wf) = true := by decide

theorem test_wf_links : [Instr.linkDataFlit 64 flit, .linkDataFlit 0 { flit with seq := 4096 }, .linkNakFlit 64 flit, .linkNakFlit 0 { flit with seq := 4096 },
    .linkCtrlFlit 64 ctrl, .linkCtrlFlit 0 { ctrl with seq := 4096 }, .linkIdleFlit 64 flit, .linkIdleFlit 0 { flit with seq := 4096 }, .linkAckTimeout 64,
    .linkRequestPacket 64 0 (pkt 0), .linkRequestPacket 0 16 (pkt 0), .linkRequestPacket 0 0 (pkt 8), .linkResponsePacket 64 8 (pkt 0),
    .linkResponsePacket 0 16 (pkt 0), .linkResponsePacket 0 8 (pkt 8), .linkLosChange 64 0, .oeFaultRise 64, .oeReadyChange 64 true, .fecLockLoss 64,
    .linkTrainDone 64, .linkTrainTimeout 64, .laneSerInterval 64 0 0 false, .laneSerInterval 0 4 0 false, .retiredLinkProbe 64, .rebuildStep 12 0 line,
    .rebuildStep 0 3 line, .rebuildStep 0 0 { line with first := { burst with sev := [18] } }, .scrubStep 12 line, .scrubStep 0 { line with first := { burst with sev := [18] } }, .cattrip 12 true,
    .powerSample { sample with voltageFail := some 16 }, .thermalRead (List.replicate 97 none), .thermalTrip 96 0, .stackInterfaceRetrain 12 true].all (!·.wf) = true := by
  decide

/-- The last value of each range is accepted. -/
theorem test_wf_accepts : ([Instr.tickInEdge 0, .acceptPhase 65535, .admDoorbell (2 ^ 64 - 1), .latticeJobDone 7 false [], .matchJobDone 15 false [], .maskJobDone 31 false [],
    .treeJobDone 7 [{ vector := 0, group := 3, again := true }] [{ addr := 2 ^ 64 - 1, code := 11, data := [] }], .fetchDataArrive 63 1 0 [],
    .stemRead (pkt 7), .stemCreditReturn 7 1 15, .registerWrite (.exec 65535) (2 ^ 52 - 1) 0 true, .mgtCommitGroup (.stem 7) 31 true,
    .semAcquire (.link 63) 31 (2 ^ 20 - 1), .staStart .portB env, .tokSlotLoad .portA 31, .pgCmdRetire .portA (2 ^ 27 - 1), .pipRelease .portA 63 31,
    .lnkCmdRelease .portA 4 63 3, .memCmdRetire .portA 1 11 63, .linkDataFlit 63 flit, .linkCtrlFlit 63 ctrl, .rebuildStep 11 2 line,
    .powerSample sample, .thermalRead (List.replicate 96 none), .thermalTrip 95 0]).all (·.wf) = true := by decide

/-! Witnesses: states and operands that meet the hypotheses of each statement, one for each clause. -/

theorem witness_emptyQueue : (st up).pending = [] := rfl

theorem witness_inertBlockUnchanged : (st dead).blk.alive = false ∧ Instr.always (.tickInEdge 0) = false := by decide

/-- An inert block with commands waiting, which takes a step. -/
theorem witness_inertBlockStaysInert : InertAs held { pending := [.powerSample sample], blk := held } ∧
    ∃ t, step { pending := [.powerSample sample], blk := held } = .next t := by
  refine ⟨⟨by decide, rfl, by decide⟩, _, rfl⟩

theorem witness_resetMakesInert : ∀ c ∈ [Instr.tickInEdge 0, .powerSample sample], Instr.always c = false := by decide

theorem witness_resets : (st held).blk.sa.inReset = true ∧ (st dead).blk.sa.railLost = true ∧ (st up).blk.sa.inReset = false ∧
    (st up).blk.sa.railLost = false := by decide

/-- Two blocks that differ, with the same key store, Keep regions and test port instruction. -/
theorem witness_resetForgets : (st up).blk.sa.key = (st window).blk.sa.key ∧ (st up).blk.mem.keep = (st window).blk.mem.keep ∧
    (st up).blk.tap = (st window).blk.tap ∧ (st up).blk.net = (st window).blk.net ∧ (st up).blk ≠ (st window).blk := by decide

theorem witness_testPort : (st held).blk.sa.inReset = true ∧ up.sa.inReset = false ∧ ({ up with tap := 0 } : Block).tap = 0 ∧
    ({ up with tap := 4 } : Block).tap = 4 := by decide

theorem witness_scalarArithmetic : Issues up seq0 (wd []) (scalarEnc (wd []) false false false) := issues_of (by decide)

/-- The last scalar register, the last general predicate as guard, an executor of each kind. -/
theorem witness_scalarArithmetic_bounds :
    issuing (withEx (.pip 63 31) { Exec.clear with p := 0x81 }) (.pip 63 31) (wd [(11, 7), (15, 31), (20, 31), (25, 31)])
      (scalarEnc (wd [(11, 7), (15, 31), (20, 31), (25, 31)]) false false false) = true ∧
    issuing up (.pkr 63 1) (wd []) (scalarEnc (wd []) false false false) = true := by decide

/-- BEXT with the widest field and LI with the largest immediate. -/
theorem witness_scalarShiftsAndExtrema :
    issuing up seq0 (wd [(30, 1), (31, 4095)]) (scalarEnc (wd [(30, 1), (31, 4095)]) false true false && decide (nfImm (wd [(30, 1), (31, 4095)]) < 4096)) = true ∧
    issuing up seq0 (wd [(30, 1), (31, 0xFFFFFFFF)]) (scalarEnc (wd [(30, 1), (31, 0xFFFFFFFF)]) true true false) = true ∧
    issuing up seq0 (wd [(10, 1), (30, 1)]) (scalarEnc (wd [(10, 1), (30, 1)]) true true false) = true := by decide

theorem witness_compares : issuing up seq0 (wd [(15, 7)]) (scalarEnc (wd [(15, 7)]) true false true) = true ∧
    issuing up seq0 (wd [(15, 7), (20, 7), (25, 7)]) (scalarEnc (wd [(15, 7), (20, 7), (25, 7)]) false false true) = true := by decide

/-- Targets at the last and past the last byte of the instruction store; registers there and not there; the scratch registers' ends. -/
theorem witness_jumps : Issues up seq0 (wd []) (scalarEnc (wd []) false false false) ∧
    (let e := regs [(1, 65535), (2, 65536)];
      issuing (withEx seq0 e) seq0 (wd [(20, 1)]) (scalarEnc (wd [(20, 1)]) false false false) = true ∧
      (((withEx seq0 e).ex seq0).rs 1).toNat < 65536 ∧ 65536 ≤ (((withEx seq0 e).ex seq0).rs 2).toNat) ∧
    (((withEx seq0 (regs [(31, 65535)])).ex seq0).rs 31).toNat < 65536 ∧ 65536 ≤ (((withEx seq0 (regs [(31, 65536)])).ex seq0).rs 31).toNat ∧
    isSeq pip0 = false ∧
    issuing up seq0 (wd [(30, 1), (31, 0x17)]) (scalarEnc (wd [(30, 1), (31, 0x17)]) false true false) = true ∧
    (up.ex seq0).pc + 8 * (sext32 8191).toInt < 65536 ∧ 65536 ≤ (up.ex seq0).pc + 8 * (sext32 8192).toInt ∧
    (up.ex seq0).pc + 8 * (sext32 0xFFFFFFFF).toInt < 0 ∧
    (up.csr seq0 0).isSome = true ∧ up.csr seq0 0x18 = none := by
  refine ⟨issues_of (by decide), ?_⟩
  decide

/-- A sequencer in its handler, with restarts left, and one not in it. -/
theorem witness_sequencerExceptions :
    let b : Block := ({ ticks with regs := up.regs } : Block).fset F.TICK_SEQ_CTRL_HALT_MAX 1
    let c := b.setEx (.seq 7) { Exec.clear with trap := true }
    b.clk.ticking = true ∧ (b.ex (.seq 7)).trap = false ∧ c.clk.ticking = true ∧ (c.ex (.seq 7)).trap = true ∧
    (c.ex (.seq 7)).restarts < c.fget F.TICK_SEQ_CTRL_HALT_MAX ∧
    issuing b (.seq 7) (wd [(30, 1), (31, 0xFFFFFFFF)]) (scalarEnc (wd [(30, 1), (31, 0xFFFFFFFF)]) false true false) = true ∧
    issuing c (.seq 7) (wd []) (scalarEnc (wd []) false false false) = true := by decide

/-- A guard that holds, one that does not, and the guard of an instruction with PG 0. -/
theorem witness_guards : up.run? = true ∧ (up.ex pip0).ready = true ∧ ((up.ex pip0).item.isSome && (up.ex pip0).code == 0) = false ∧
    (((up.ex pip0).rp (nf (wd [(11, 7)]) 11 3)) != (nf (wd [(11, 7)]) 14 1 == 1)) = false ∧
    (((up.ex pip0).rp (nf (wd [(11, 7), (14, 1)]) 11 3)) != (nf (wd [(11, 7), (14, 1)]) 14 1 == 1)) = true ∧
    nf (wd []) 11 3 = 0 ∧ nf (wd []) 14 1 = 0 := by decide

theorem witness_hardwired : (31 : Nat) ≠ 0 ∧ (30 : Nat) ≠ 31 := by decide

theorem witness_scalarFrame : (Instr.nsiPnot pip0 (wd []) 0, scalarEnc (wd []) false false true) ∈ scalarOps pip0 (wd []) 0 ∧
    Issues (st up).blk pip0 (wd []) (scalarEnc (wd []) false false true) ∧ (∃ t, exec (.nsiPnot pip0 (wd []) 0) (st up) = .next t) ∧
    (.seq 0 : ExecId) ≠ pip0 ∧ Memory.wf (st up).blk.mem.stack = true := by
  exact ⟨by simp [scalarOps], issues_of (by decide), ⟨_, rfl⟩, by decide, by decide⟩

/-- A tile of one row of one block in FP32 at a pitch of 128 bytes, and one of a format. -/
def tile (fmt rows kblk pitch : Nat) : Word := mkWord [(13, rows - 1), (21, kblk - 1), (29, fmt), (33, pitch / 64)]
/-- A token of that tile. -/
def tok (d : Word) : Token := { desc := d, err := false, fetch := 0 }

theorem witness_tileQueues : isPip pip0 = true ∧
    issuing up pip0 (wd [(10, 1)]) (tileEnc (wd [(10, 1)]) true) = true ∧ issuing up pip0 (wd []) (tileEnc (wd []) false) = true ∧
    (let e := { Exec.clear with q := [(0, [tok 0])], popped := [(0, [tok 0])] };
      issuing (withEx pip0 e) pip0 (wd []) (tileEnc (wd []) false) = true ∧ tgetD e.q (tQ (wd [])) [] = tok 0 :: [] ∧
      tgetD e.popped (tQ (wd [])) [] = tok 0 :: []) ∧ tgetD (up.ex pip0).popped (tQ (wd [])) [] = [] := by decide

/-- A Pip with descriptors of one shape in t0 (FP32), t1 and t2 (BF16). -/
def tiled : Block :=
  withEx pip0 { Exec.clear with t := [(0, (tile 0 1 1 128, false)), (1, (tile 1 1 1 64, false)), (2, (tile 1 1 1 64, false))] }

/-- A queued operand and a register operand of an accepted pair at the most rows, and of a pair that is refused. -/
theorem witness_tileMatrix :
    let w := wd [(15, 0), (29, 1)]
    let a := tile 1 64 1 64
    let e := { Exec.clear with q := [(0, [tok a])], t := [(0, (a, false))] }
    issuing (withEx pip0 e) pip0 w (tileEnc w false) = true ∧
    ((tAQ w = true → tTA w < 8) ∧ (tBQ w = true → tTB w < 8)) ∧ (e.mmaOps w).isSome = true ∧
    (match e.mmaOps w with
      | some (x, y, ids, _) => !x.2 && !y.2 && tdOk x.1 && tdOk y.1 && mmaPair (tdFmt x.1) (tdFmt y.1) && tdKblk x.1 == tdKblk y.1 &&
          decide (tdRows x.1 = 64) && decide (tdRows y.1 = 64) && !(withEx pip0 e).refetching (xkey pip0) ids
      | none => false) = true ∧ e.acquiring = false ∧
    tdKblk (tile 0 64 2 256) = 2 ∧ tdRows (tile 0 64 2 256) = 64 ∧ tdOk (tile 0 64 2 256) = true := by decide

theorem witness_matrixFormats :
    let w := wd []
    let e := { Exec.clear with t := [(0, (tile 0 1 1 128, false))] }
    issuing (withEx pip0 e) pip0 w (tileEnc w false) = true ∧ tAQ w = false ∧ tBQ w = false ∧ (e.mmaOps w).isSome = true ∧
    (match e.mmaOps w with
      | some (x, y, ids, _) => !x.2 && !y.2 && tdOk x.1 && tdOk y.1 && !mmaPair (tdFmt x.1) (tdFmt y.1) && !(withEx pip0 e).refetching (xkey pip0) ids
      | none => false) = true := by decide

/-- TilesReady as a Bool. -/
def tilesOk (b : Block) (x : ExecId) (l : List Nat) : Bool :=
  !(b.ex x).acquiring && !b.refetching (xkey x) ((b.ex x).poppedIds (l.map (fun n => ((b.ex x).td n).1))) &&
    l.all (fun n => !((b.ex x).td n).2 && tdOk ((b.ex x).td n).1)

theorem tilesReady_of {b : Block} {x : ExecId} {l : List Nat} (h : tilesOk b x l = true) : TilesReady b x l := by
  simp only [tilesOk, Bool.and_eq_true, Bool.not_eq_true', List.all_eq_true] at h
  exact ⟨h.1.1, h.1.2, fun n hn => h.2 n hn⟩

/-- Tiles of one shape, in FP32 and BF16; tb of one row that serves for all; a reduction's one-block destination; a conversion from and to FP32;
a copy of one format. -/
theorem witness_vectors : let w := wd [(15, 0), (19, 1), (23, 2)]
    isPip pip0 = true ∧ issuing tiled pip0 w (vecEnc w) = true ∧ tilesOk tiled pip0 [tTD w, tTA w, tTB w] = true ∧ tilesOk tiled pip0 [tTD w, tTA w] = true ∧
    (let d := ((tiled.ex pip0).td (tTD w)).1
     let p := ((tiled.ex pip0).td (tTA w)).1
     let q := ((tiled.ex pip0).td (tTB w)).1
     tdFmt d = 0 ∧ tdFmt p = 1 ∧ tdFmt q = 1 ∧ tdRows d = tdRows p ∧ tdKblk d = tdKblk p ∧ tdKblk p = tdKblk q ∧ tdRows p = tdRows q ∧ tdKblk d = 1) ∧
    (let v := wd [(15, 1), (19, 1)]
     issuing tiled pip0 v (vecEnc v) = true ∧ tilesOk tiled pip0 [tTD v, tTA v] = true ∧
       tdFmt ((tiled.ex pip0).td (tTD v)).1 = tdFmt ((tiled.ex pip0).td (tTA v)).1) ∧
    (let d := tile 0 256 1 128
     let b := withEx pip0 { Exec.clear with t := [(0, (d, false)), (2, (tile 1 1 1 64, false))] }
     tilesOk b pip0 [0, 0, 2] = true ∧ tdRows d = 256 ∧ tdRows (tile 1 1 1 64) = 1) := by decide

theorem witness_vectorOwnSlice : isPip pip0 = true ∧ Instr.nsiAccst pip0 (wd []) 0 ∈ sliceOps pip0 (wd []) 0 ∧
    Memory.wf (st tiled).blk.mem.slices = true ∧ ∃ t, exec (.nsiAccst pip0 (wd []) 0) (st tiled) = .next t := by
  exact ⟨rfl, by simp [sliceOps], by decide, _, rfl⟩

/-- A fetch of the tile d by a Picker to the queue 0 of the Pips of a mask, without data yet. -/
def fetchOf (d : Word) (mask : Nat) : Fetch :=
  { id := 1, desc := d, src := 2 * 2 ^ 52, ids := none, bank := false, pitch := 128, mask := BitVec.ofNat 64 mask, queue := 0, arrived := false, err := false,
    pushed := false, left := mask, again := false }

/-- A mask of one Pip and of the last; the last free place in flight and in the queue; data that can be read. -/
theorem witness_pickerFetches :
    let d := tile 0 1 1 128
    let w := wd [(15, 0), (19, 1), (24, 2)]
    let wg := wd [(10, 1), (15, 0), (19, 1), (24, 2)]
    let e := { regs [(1, 4), (2, 0x80000000)] with t := [(0, (d, false))] }
    let b := ((withEx pkr0 e).fset F.PKR_CTRL_AHEAD 1).setEx (.pip 0 31) { Exec.clear with q := [(0, List.replicate 15 (tok d))] }
    isPkr pkr0 = true ∧ issuing b pkr0 w (pkEnc w false) = true ∧ issuing b pkr0 wg (pkEnc wg true) = true ∧
    ((b.ex pkr0).rs (pkRB w)).toNat % 2 ^ 32 ≠ 0 ∧ ((b.ex pkr0).rs (pkRA w)).toNat % 4 = 0 ∧ tdOk ((b.ex pkr0).td (pkTD w)).1 = true ∧
    tdFmt ((b.ex pkr0).td (pkTD w)).1 = 0 ∧ (b.ex pkr0).acquiring = false ∧ (b.ex pkr0).fetches.length < b.fget F.PKR_CTRL_AHEAD ∧
    (∀ p ∈ maskPips (pkrCluster (xkey pkr0)) (((b.ex pkr0).rs (pkRB w)).toNat % 2 ^ 32), b.queueLoad (pkrCluster (xkey pkr0)) p (pkQ w) < 16) ∧
    (let k := { Exec.clear with fetches := [fetchOf d 1] }
     let c := { (up.setExAt 10001 k) with cp := { up.cp with enabled := 1 } }
     c.alive = true ∧ (c.exAt 10001).fetches[0]? = some (fetchOf d 1) ∧ (c.fetchData 10001 (fetchOf d 1) []).isOk = true ∧
       (fetchOf d 1).arrived = false ∧ (fetchOf d 1).pushed = false) := by decide

/-- The address of the request table of the own node, and one of a Stem port. -/
def g3 : Word := BitVec.ofNat 64 (3 * 2 ^ 52)
def g5 : Word := BitVec.ofNat 64 (5 * 2 ^ 52)
/-- A remote memory word: rd s4, ra s1, rb s2, rc s3. -/
def rw : NsiBody := wd [(15, 4), (20, 1), (25, 2), (30, 3)]
/-- An executor with the operands of rw. -/
def rmEx (a b c : Word) : Exec := regs [(1, a), (2, b), (3, c)]
def posted (a : Word) : Posted := { id := 0, op := 2, a := a.toNat, b := 0, len := 0, size4 := false, ord := 0, far := 0, err := 0 }

/-- The shortest and the longest bulk, a scalar operation at home and far. -/
theorem witness_remotePosted :
    (let b := withEx seq0 (rmEx g3 (g3 + 64) 4)
     issuing b seq0 rw (rmEnc rw false) = true ∧ (b.ex seq0).acquiring = false ∧ (b.ex seq0).posted.length < 64 ∧ b.isHome g3.toNat = true ∧
       b.isHome (g3 + 64).toNat = true ∧ g3.toNat % 4 = 0) ∧
    issuing (withEx seq0 (rmEx g5 g3 16777216)) seq0 rw (rmEnc rw false) = true ∧ up.isHome g5.toNat = false ∧ (16777216 % 4 = 0) ∧
    issuing (withEx seq0 (rmEx g3 1 0)) seq0 rw (rmEnc rw true) = true ∧ g3.toNat % (if rmSIZE rw = 1 then 4 else 8) = 0 ∧
    (let e := { rmEx g3 g3 4 with posted := List.replicate 63 (posted g3) }
     issuing (withEx seq0 e) seq0 rw (rmEnc rw false) = true ∧ e.posted.length < 64) := by decide

/-- A read, an add and a compare that are permitted, a read that is not, a far address that a port reaches. -/
theorem witness_remoteBlocking :
    (let b := withEx seq0 (rmEx g3 1 0)
     issuing b seq0 rw (rmEnc rw true) = true ∧ (b.ex seq0).mayIssue true (rmORD rw) [(g3.toNat, 8)] = true ∧ b.isHome g3.toNat = true ∧ rmORD rw < 2 ∧
       (b.homeRead (.ex (xkey seq0)) g3.toNat 8 false false).isOk = true ∧
       (b.homeAtomic (.ex (xkey seq0)) .add g3.toNat false (fun o => some ((o + 1) % 2 ^ 64))).isOk = true ∧
       (b.homeAtomic (.ex (xkey seq0)) .cas g3.toNat false (fun o => if o = 0 then some 1 else none)).isOk = true) ∧
    (let b := withEx seq0 (rmEx 0 1 0)
     issuing b seq0 rw (rmEnc rw true) = true ∧ b.isHome 0 = true ∧ (b.homeRead (.ex (xkey seq0)) 0 8 false false).isOk = false) ∧
    (let b := withEx seq0 (rmEx g5 1 0)
     issuing b seq0 rw (rmEnc rw true) = true ∧ b.isHome g5.toNat = false ∧ (b.outErr (keyId (xkey seq0)) g5.toNat 8).isOk = true ∧
       (b.ex seq0).mayIssue true (rmORD rw) [(g5.toNat, 8)] = true) ∧
    (let e := { rmEx g3 1 0 with rmErr := 0 }
     let w := wd [(15, 4), (20, 1), (25, 2), (30, 3), (38, 3), (40, 1)]
     issuing (withEx seq0 e) seq0 w (rmEnc w true) = true ∧ rmORD w = 3 ∧ ((withEx seq0 e).ex seq0).rmErr = 0 ∧
       ((withEx seq0 e).ex seq0).mayIssue true (rmORD w) [(g3.toNat, 4)] = true) := by decide

/-- A counter at its target and just below it; nothing posted and something; a wait that ends and one whose limit comes. -/
theorem witness_remoteWaits :
    (let b := withEx seq0 (rmEx g3 0 0)
     issuing b seq0 rw (rmEnc rw true) = true ∧ b.isHome g3.toNat = true ∧ rmORD rw < 2 ∧ (b.homeRead (.ex (xkey seq0)) g3.toNat 8 false false |>.toOption) = some (zeros 8) ∧
       ((b.ex seq0).rs (rmRB rw)).toNat ≤ leNat (zeros 8) ∧ (b.ex seq0).mayIssue true (rmORD rw) [(g3.toNat, 8)] = true) ∧
    (let b := withEx seq0 (rmEx g3 1 1)
     issuing b seq0 rw (rmEnc rw true) = true ∧ leNat (zeros 8) < ((b.ex seq0).rs (rmRB rw)).toNat) ∧
    issuing up seq0 (wd []) (rmEnc (wd []) false) = true ∧ (up.ex seq0).posted = [] ∧ isSeq seq0 = true ∧
    (let b := withEx seq0 { Exec.clear with posted := [posted g3] }
     issuing b seq0 (wd []) (rmEnc (wd []) false) = true ∧ (b.ex seq0).posted ≠ []) ∧
    (let b := withEx seq0 { Exec.clear with blocked := .wait g3.toNat 0 4 1 0 5 0 }
     b.alive = true ∧ (b.ex seq0).blocked = .wait g3.toNat 0 4 1 0 5 0 ∧ b.isHome g3.toNat = true ∧
       (b.homeRead (.ex (xkey seq0)) g3.toNat 8 false false |>.toOption) = some (zeros 8) ∧ 0 ≤ leNat (zeros 8) ∧
       ((b.advance 5).homeRead (.ex (xkey seq0)) g3.toNat 8 false false |>.toOption) = some (zeros 8) ∧ b.rm.out = []) := by decide

/-- An outbound operation with a response to come. -/
def outOp : OutOp :=
  { id := 0, kind := 0, route := 3, addr := g5.toNat, len := 8, value := 0, compare := 0, data := [], ord := 0, size4 := false, sent := true, issued := 0,
    purpose := .agent none 0 0 }
/-- A block with that operation outstanding, and its port up. -/
def sentOp (o : OutOp) : Block :=
  { up with rm := { up.rm with out := [o] }, io := { up.io with stem := [(3, { StemPort.reset with up := true })] } }

theorem witness_remoteCompletions :
    (withEx seq0 { Exec.clear with posted := [posted g3] }).alive = true ∧
    ((withEx seq0 { Exec.clear with posted := [posted g3] }).ex seq0).nextLocal = some (posted g3) ∧
    (sentOp outOp).alive = true ∧ (sentOp outOp).rm.out.find? (fun o => o.id == 0) = some outOp ∧ outOp.route < 64 := by decide

/-- Each operand misaligned by the least, lengths just outside the range. -/
theorem witness_alignmentTraps :
    issuing (withEx seq0 (rmEx 1 0 4)) seq0 rw (rmEnc rw false) = true ∧ issuing (withEx seq0 (rmEx 0 2 4)) seq0 rw (rmEnc rw false) = true ∧
    issuing (withEx seq0 (rmEx 0 0 3)) seq0 rw (rmEnc rw false) = true ∧ issuing (withEx seq0 (rmEx 0 0 0)) seq0 rw (rmEnc rw false) = true ∧
    issuing (withEx seq0 (rmEx 0 0 16777220)) seq0 rw (rmEnc rw false) = true ∧
    issuing (withEx seq0 (rmEx 4 0 0)) seq0 rw (rmEnc rw true) = true ∧ (4 : Nat) % (if rmSIZE rw = 1 then 4 else 8) ≠ 0 ∧ (16777220 : Nat) % 4 = 0 := by decide

/-- An entry of the request table whose words serve as a descriptor, and objects whose images are all zero but for one state. -/
def described (l : List Word) : Block :=
  { (withEx seq0 (regs [(1, g3)])) with
    rq := { up.rq with table := [(0, l)] }
    ob := { up.ob with vocabs := [(0, 0)], msets := [(0, 0)], grammars := [(1, 0)], ensembles := [(1, [])] }
    mem := { up.mem with stack := [(16, 1)] } }
/-- The answer of a unit to the descriptor at s1. -/
def answer (b : Block) (kind : Nat) (w : NsiBody) : Nat :=
  (b.unitAnswer kind (nf w 30 5) (nf w 35 1 == 1) (b.recordAt ((b.ex seq0).rs (nf w 20 5)).toNat)).1

/-- For each kind of unit a descriptor it takes, and one it does not. -/
theorem witness_textInvocations : isSeq seq0 = true ∧ (up.ex seq0).acquiring = false ∧
    (let w := wd [(20, 1)]
     let wa := wd [(20, 1), (35, 1)]
     let d := described [0, 0, 0xFFFFFFFF00000001, 0, 0, 0, 0, 0]
     issuing d seq0 w (textEnc 0 w) = true ∧ answer d 0 w = 0 ∧ issuing d seq0 wa (textEnc 0 wa) = true ∧ answer d 0 wa = 0 ∧
     issuing d seq0 w (textEnc 1 w) = true ∧ answer d 1 w = 0) ∧
    (let w := wd [(20, 1), (30, 31)]
     let d := described [1, 0, 0, 0, 0, 0, 0, 0]
     issuing d seq0 w (textEnc 2 w) = true ∧ answer d 2 w = 0) ∧
    (let w := wd [(20, 1), (30, 7)]
     let d := described [0x0101, 0, 4, 0, 0, 0, 0, 0]
     issuing d seq0 w (textEnc 3 w) = true ∧ answer d 3 w = 0) ∧
    issuing up seq0 (wd []) (textEnc 0 (wd [])) = true ∧ issuing up seq0 (wd []) (textEnc 1 (wd [])) = true ∧
    issuing up seq0 (wd []) (textEnc 2 (wd [])) = true ∧ issuing up seq0 (wd []) (textEnc 3 (wd [])) = true ∧
    answer up 0 (wd []) ≠ 0 ∧ answer up 1 (wd []) ≠ 0 ∧ answer up 2 (wd []) ≠ 0 ∧ answer up 3 (wd []) ≠ 0 := by decide

/-- A descriptor job on a unit. -/
def job : Job := { kind := 0, num := 0, img := none, store := [], start := 0, input := [], desc := [], entry := 0, gen := 0, sub := 0, seq := some 0, tick := 0, vecs := [], rerr := [] }
def busyUnit (kind n : Nat) : Block := { up with cp := { up.cp with units := [(kind * 64 + n, { TextUnit.reset with jobs := [job] })] } }

theorem witness_textUnitsFinish : up.alive = true ∧ (busyUnit 0 7).alive = true ∧ ((busyUnit 0 7).takeJob 0 7).map (·.1) = some job ∧ job.kind = 0 ∧
    ((busyUnit 1 15).takeJob 1 15).map (·.1) = some job ∧ ((busyUnit 2 31).takeJob 2 31).map (·.1) = some job ∧
    ((busyUnit 3 7).takeJob 3 7).map (·.1) = some job ∧ (up.unit 0 7).jobs = [] ∧ (up.unit 3 0).jobs = [] := by decide

/-- Each immediate at the ends of its range. -/
theorem witness_tickInstructions : isSeq seq0 = true ∧ (up.ex seq0).acquiring = false ∧
    ([0, 5, 6, 1, 4, 8, 12, 15, 13, 16, 65535].all (fun i => issuing up seq0 (wd [(31, i)]) (tickEnc (wd [(31, i)])) && tickImm (wd [(31, i)]) == i)) = true ∧
    ((12 : Nat) ≤ 15 ∧ 12 % 8 ≤ 4) ∧ ((15 : Nat) ≤ 15 ∧ 4 < 15 % 8) := by decide

/-- A queued item that has not failed, and one that has; a draft pass and a warm-up. -/
def item (f : Bool) : Item :=
  { id := 7, cls := 1, model := 0, entry := 0, gen := 0, deadline := 0, tokens := 0, prio := 0, profile := 0, input := 0, output := 0, done := 0, tag := 0,
    retry := false, screen := none, part := 0, admitAt := 0, sloe := false, begun := true, suspended := false, spent := 0, clusters := [], failed := f,
    catchUp := 0, record := 0, since := 0 }
def withItem (f : Bool) : Block := { up with cp := { up.cp with items := [item f] } }
def pass (w : Bool) : DPassJob := { warm := w, pass := 1, model := 0, done := 0, tag := 0, seq := 0, record := 0, failed := false }

theorem witness_itemAndDraftEnds : up.alive = true ∧ up.cp.items.find? (fun t => t.id == 0) = none ∧ (withItem true).alive = true ∧
    (withItem false).cp.items.find? (fun t => t.id == 7) = some (item false) ∧ (item false).failed = false ∧
    (withItem true).cp.items.find? (fun t => t.id == 7) = some (item true) ∧ (item true).failed = true ∧ (0 : Nat) ≠ 1 ∧
    ({ up with cp := { up.cp with dpass := [pass true, pass false] } } : Block).cp.dpass = pass true :: [pass false] ∧ up.cp.dpass = [] := by decide

/-- A block with an external tick of 1000 us and a tolerance of 100 in a thousand. -/
def edged : Block := ((ticks.fset F.TICK_CTRL_SOURCE_ACT 1).fset F.TICK_PERIOD_PERIOD_US 1000).fset F.TICK_PERIOD_EXT_TOL 100

/-- An edge at the last cycle that is early, the first that is not, and the last before the limit; the first edge of all; the internal source. -/
theorem witness_tickBoundaries : up.alive = true ∧ edged.alive = true ∧ edged.run? = true ∧ edged.external = true ∧ edged.clk.ticking = true ∧
    max (1259997 + 2) edged.clk.cycles - edged.clk.bndCyc < edged.limitCycles (1000 - edged.fget F.TICK_PERIOD_EXT_TOL) ∧
    edged.limitCycles (1000 - edged.fget F.TICK_PERIOD_EXT_TOL) ≤ max (1259998 + 2) edged.clk.cycles - edged.clk.bndCyc ∧
    max (1539998 + 2) edged.clk.cycles ≤ edged.lateLimit ∧ edged.lateLimit < max (1539999 + 2) edged.clk.cycles ∧
    (let b := (up.fset F.TICK_CTRL_SOURCE_ACT 1).fset F.TICK_PERIOD_PERIOD_US 1
     b.external = true ∧ b.clk.ticking = false ∧ max (0 + 2) b.clk.cycles ≤ b.lateLimit) ∧
    up.external = false ∧ up.run? = true := by decide

/-- A block with one live entry of the request table, its words given. -/
def entered (b : Block) (n : Nat) (l : List Word) : Block := { b with rq := { b.rq with table := [(n, l)] } }
/-- A block past intake close. -/
def closed : Block := { ticks with clk := { ticks.clk with intakeClosed := true } }

theorem witness_tickPhases : ticks.alive = true ∧ ticks.serves = true ∧ ticks.clk.ticking = true ∧ ticks.clk.intakeClosed = false ∧ ticks.clk.cutOff = false ∧
    ticks.clk.maskTarget = false ∧ ticks.clk.maskDeadline = false ∧ closed.alive = true ∧ closed.serves = true ∧ closed.clk.intakeClosed = true ∧
    ({ ticks with clk := { ticks.clk with cutOff := true, maskTarget := true, maskDeadline := true } } : Block).clk.cutOff = true ∧
    (entered closed 65535 [4]).acceptable 65535 = true ∧ closed.publishable = true ∧
    ({ closed with rq := { closed.rq with side := [(0, { Side.reset with acceptDone := true })] } } : Block).rq.side.length = 1 ∧
    (({ closed with rq := { closed.rq with side := [(0, { Side.reset with acceptDone := true })] } } : Block).side 0).acceptDone = true ∧
    (closed.fset (F.TICK_SEQ_STAT_STATE.at 7) 2).seqHalted (seqOf 65535) = true ∧
    ({ closed with clk := { closed.clk with published := true } } : Block).clk.published = true := by decide

/-- The monitor and the table; the last frame before the end and the end; a verdict to release, one without a time, one of a halted sequencer. -/
theorem witness_mainWindow : ticks.alive = true ∧ ticks.serves = true ∧ ticks.clk.mainWindow = false ∧ window.clk.mainWindow = true ∧ window.monitored = false ∧
    (window.fset F.STA_IDENT_CONFIG 3).monitored = true ∧ (window.fset F.STA_IDENT_CONFIG 3).clk.mainWindow = true ∧ window.clk.frame < 7 ∧
    ({ window with clk := { window.clk with frame := 6 } } : Block).clk.frame < 7 ∧ 7 ≤ ({ window with clk := { window.clk with frame := 7 } } : Block).clk.frame ∧
    (let b := entered up 65535 [2, 0, 0, 1]
     b.eget 65535 E.STATE = 2 ∧ b.eget 65535 E.RELEASE_TIME ≠ 0 ∧ b.seqHalted (seqOf 65535) = false) ∧
    (entered up 0 [2]).eget 0 E.RELEASE_TIME = 0 ∧ up.eget 0 E.STATE ≠ 2 := by decide

theorem witness_doorbells : up.alive = true ∧ up.run? = true := by decide

/-- A ring with one descriptor posted, of a new request and of a resumption; a control record of each sort; empty rings. -/
theorem witness_admissionClaims :
    up.alive = true ∧ up.serves = true ∧ up.rq.admTaken < (up.fset F.RQT_ADM_DB_POSTED 1).fget F.RQT_ADM_DB_POSTED ∧
    up.fget F.RQT_ADM_DB_POSTED ≤ up.rq.admTaken ∧ up.rq.ctlTaken < (up.fset F.RQT_CTL_DB_POSTED 1).fget F.RQT_CTL_DB_POSTED ∧
    up.fget F.RQT_CTL_DB_POSTED ≤ up.rq.ctlTaken ∧
    (let rec_ := fun (kind cls gen : Nat) => leBytes 2 0 ++ leBytes 2 gen ++ leBytes 1 cls ++ leBytes 1 kind ++ leBytes 2 0
     let b := fun (kind cls gen : Nat) => entered ({ up with mem := { up.mem with stack := mwrN [] 0 (rec_ kind cls gen) } }) 0 [4]
     let d := fun (kind cls gen : Nat) => (b kind cls gen).rd0 0 8
     ((b 1 0 1).eget 0 E.GENERATION ≠ lefld (d 1 0 1) 2 2) ∧ 1 < lefld (d 2 0 0) 5 1 ∧ 3 < lefld (d 0 4 0) 4 1 ∧
     (lefld (d 1 0 0) 6 2 = 0 ∧ (b 1 0 0).eget 0 E.GENERATION = lefld (d 1 0 0) 2 2 ∧ lefld (d 1 0 0) 5 1 = 1 ∧ (b 1 0 0).eget 0 E.STATE = 4) ∧
     (lefld (d 0 3 0) 6 2 = 0 ∧ (b 0 3 0).eget 0 E.GENERATION = lefld (d 0 3 0) 2 2 ∧ lefld (d 0 3 0) 5 1 = 0 ∧ lefld (d 0 3 0) 4 1 ≤ 3 ∧
       (b 0 3 0).eget 0 E.STATE ≠ 0 ∧ (b 0 3 0).eget 0 E.STATE ≠ 7)) := by decide

theorem witness_storeEvents : up.alive = true ∧ up.run? = true ∧ up.loading false 8191 = none ∧
    up.ctx true 262143 = none ∧ up.clk.mainWindow = false := by decide

/-- A block whose 32 semaphores port A holds. -/
def owned (b : Block) : Block := { b with mgt := { b.mgt with sems := (List.range 32).map (fun n => (n, { holder := 1, expiry := 1, lease := 100 })) } }

/-- The last model and the last adapter; a model firmware pinned, one it did not. -/
theorem witness_modelCommands : (owned up).alive = true ∧
    ([1, 2, 4, 5].all (fun op => accepting (owned up) .portA 0x0B38 (wput [(F.MDL_CMD_NUMBER, 8191), (F.MDL_CMD_OP, op)]) false)) = true ∧
    accepting (owned up) .portA 0x0B38 (wput [(F.MDL_CMD_NUMBER, 8191), (F.MDL_CMD_OP, 3)]) ((owned up).modelBusy 8191) = true ∧
    ([1, 3].all (fun op => accepting (owned up) .portA 0x0B50 (wput [(F.MDL_ADP_CMD_NUMBER, 262143), (F.MDL_ADP_CMD_OP, op)]) false)) = true ∧
    accepting (owned up) .portA 0x0B50 (wput [(F.MDL_ADP_CMD_NUMBER, 262143), (F.MDL_ADP_CMD_OP, 2)])
      ((owned up).live.any (fun e => ((owned up).adapters e).contains 262143)) = true ∧
    (let b : Block := { up with mem := { up.mem with stack := [(0, 3), (3, 1)] } }
     b.objState false 0 = 3 ∧ (b.cat 0 3 1).testBit 0 = true) ∧
    (up.objState false 0 ≠ 3 ∧ (up.cat 0 3 1).testBit 0 = false ∧ up.objState false 0 = 0 ∧ up.objState true 0 = 0) ∧ up.pinOk [0] = false := by decide +kernel

theorem witness_objectCommands : (owned up).alive = true ∧
    ([1, 2].all (fun op =>
      accepting (owned up) .portA 0x0440 (wput [(F.TOK_SLOT_CMD_SLOT, 31), (F.TOK_SLOT_CMD_OP, op)])
        ((owned up).objBusy 0 31 || (owned up).live.any (fun e => (owned up).eget e E.VOCAB == 31)) &&
      accepting (owned up) .portA 0x0600 (wput [(F.GRM_CMD_NUMBER, 65535), (F.GRM_CMD_OP, op)])
        ((owned up).objBusy 1 65535 || (owned up).live.any (fun e => (owned up).eget e E.GRAMMAR == 65535)) &&
      accepting (owned up) .portA 0x0680 (wput [(F.STP_CMD_NUMBER, 65535), (F.STP_CMD_OP, op)])
        ((owned up).objBusy 2 65535 || (owned up).live.any (fun e => (owned up).eget e E.STOPSET == 65535)) &&
      accepting (owned up) .portA 0x0E08 (wput [(F.VRD_CMD_PROFILE, 4095), (F.VRD_CMD_OP, op)])
        ((owned up).live.any (fun e => (owned up).eget e E.PROFILE == 4095)))) = true ∧
    accepting (owned up) .portA 0x0C00 (wput [(F.ORC_CMD_NUMBER, 255), (F.ORC_CMD_OP, 1)]) false = true ∧
    accepting (owned up) .portA 0x0C00 (wput [(F.ORC_CMD_NUMBER, 0), (F.ORC_CMD_OP, 2)]) ((owned up).ensBusy 0) = true ∧
    accepting (owned up) .portA 0x0C00 (wput [(F.ORC_CMD_NUMBER, 255), (F.ORC_CMD_OP, 3)]) false = true ∧
    ([1, 2].all (fun op => accepting (owned up) .portA 0x0D00 (wput [(F.MAT_CMD_NUMBER, 0), (F.MAT_CMD_OP, op)]) ((owned up).msetBusy 0))) = true ∧
    accepting (owned up) .portA 0x0D00 (wput [(F.MAT_CMD_NUMBER, 1023), (F.MAT_CMD_OP, 3)]) false = true := by decide +kernel

/-- An offset of no register; a register only to be read; one to be written whole; a field of each class. -/
theorem witness_registerWrites : up.alive = true ∧ findReg 4 = none ∧
    (∃ r, findReg 0 = some r ∧ (up.run? || ownRules 0) = true ∧ up.regTest .portA r 0 1 false ≠ 0) ∧
    accepting (owned up) .portA 0x1030 0 false = true ∧ opOf 0x1030 0 = 0 ∧ ¬ (0x1100 ≤ 0x1030 ∧ 0x1030 < 0x1200) ∧
    ([Acc.rw, .rwi, .w1c, .ro, .rwt, .rwg].all (fun a =>
      let f : FDesc := { lo := 0, wid := 64, acc := a, resv := false, bad := [], counter := false, img := false, keep := false }
      !f.resv && decide (f.lo + f.wid ≤ 64) && (opFld 0x1030).map (·.lo) != some f.lo)) = true := by
  refine ⟨by decide, by decide, ⟨_, rfl, by decide, by decide⟩, ?_⟩
  decide

/-- Groups whose check fails and passes, for the first and the last group. -/
theorem witness_commitAndAbort : (owned up).alive = true ∧ (owned up).run? = true ∧
    ([0, 14, 15].all (fun g => accepting (owned up) .portA 0x1008 (cmdWord [(0, g), (8, 1)]) false && accepting (owned up) .portA 0x1008 (cmdWord [(0, g), (8, 2)]) false)) = true ∧
    (let b := (owned up).written .portA 0x1008 (cmdWord [(0, 15), (8, 1)])
     ((b.candidate 15).groupCheck b 15 true (b.candidate 15).tableBytes).1 ≠ 0) ∧
    (let a := owned { up with regs := { up.regs with staged := [(0x1D00, 0xFFFFFF, 0x03706E)] } }
     let b := a.written .portA 0x1008 (cmdWord [(0, 14), (8, 1)])
     accepting a .portA 0x1008 (cmdWord [(0, 14), (8, 1)]) false = true ∧ ((b.candidate 14).groupCheck b 14 true (b.candidate 14).tableBytes).1 = 0) := by decide +kernel

/-- The last semaphore free, held by the port, and by the other; leases at the ends of the range and just outside. -/
theorem witness_semaphores : up.alive = true ∧ up.run? = true ∧
    (((up.respond .portA 0).semFresh 31).semAt 31).holder = 0 ∧ portNo .portA ≠ 0 ∧
    ((((owned up).respond .portA 0).semFresh 31).semAt 31).holder = portNo .portA ∧
    ((((owned up).respond .portB 0).semFresh 31).semAt 31).holder ≠ portNo .portB ∧ ((((owned up).respond .portB 0).semFresh 31).semAt 31).holder ≠ 0 ∧
    ((owned up).semAt 31).holder ≠ 0 ∧ (up.semAt 31).holder = 0 ∧ ((100 : Nat) ≤ 100 ∧ (1000000 : Nat) ≤ 1000000) ∧ ((99 : Nat) < 100 ∧ (1000000 : Nat) < 1000001) ∧
    (1048575 : Nat) < 1048576 := by decide

theorem witness_semaphoreExclusion : ((owned up).semAt 31).holder = 1 ∧ (owned up).clk.timeUs < ((owned up).semAt 31).expiry ∧
    ∀ c ∈ [Instr.semAcquire .portB 31 100, .semRenew (.stem 0) 0 1, .semRelease .portB 31], ∃ src m lease, src ≠ RegSrc.portA ∧
      (c = .semAcquire src m lease ∨ c = .semRenew src m lease ∨ c = .semRelease src m) := by
  refine ⟨by decide, by decide, fun c h => ?_⟩
  simp only [List.mem_cons, List.not_mem_nil, or_false] at h
  rcases h with rfl | rfl | rfl
  · exact ⟨.portB, 31, 100, by decide, .inl rfl⟩
  · exact ⟨.stem 0, 0, 1, by decide, .inr (.inl rfl)⟩
  · exact ⟨.portB, 31, 0, by decide, .inr (.inr rfl)⟩

theorem witness_commandRegisters : (owned up).alive = true ∧
    ([1, 2].all (fun op => accepting (owned up) .portA 0x0330 (wput [(F.PG_CMD_PAGE, 134217727), (F.PG_CMD_OP, op)]) false)) = true ∧
    accepting (owned up) .portA 0x0820 (wput [(F.PIP_CMD_CLUSTER, 63), (F.PIP_CMD_PIP, 31), (F.PIP_CMD_OP, 1)]) false = true ∧
    accepting (owned up) .portA 0x0820 (wput [(F.PIP_CMD_CLUSTER, 63), (F.PIP_CMD_OP, 2)]) false = true ∧
    accepting (owned up) .portA 0x0168 (wput [(F.TICK_SEQ_CMD_SEQ, 7), (F.TICK_SEQ_CMD_OP, 1)]) false = true ∧
    ([1, 2].all (fun op => accepting (owned up) .portA 0x1408 (lnkWord op 4 63 3) ((owned up).fget F.LNK_CMD_STATUS == 1) &&
      accepting (owned up) .portA 0x1908 (memWord op 1 11 63) ((owned up).fget F.MEM_CMD_STATUS == 1))) = true := by decide +kernel

/-- A block of a Pair in a role and a pair state. -/
def paired (stage role state : Nat) : Block :=
  (((inStage stage).fset F.STA_IDENT_CONFIG 4).fset F.STA_IDENT_PAIR_ROLE role).fset F.STA_PAIR_STATE state

/-- Each stage the commands tell apart, in a block whose register of commands may be written. -/
theorem witness_startCommands :
    ([1, 8, 9, 10, 0, 11].all (fun n => [1, 2, 3].all (fun op => let b := owned (inStage n)
      b.alive && b.stage == n && accepting b .portA 0x0008 (wput [(F.STA_CMD_OP, op)]) (decide (2 ≤ b.stage ∧ b.stage ≤ 7))))) = true ∧
    (let b := (owned (paired 9 1 4)).written .portA 0x0008 (wput [(F.STA_CMD_OP, 3)])
     b.isPair = true ∧ b.standby = true ∧ b.fget F.STA_PAIR_STATE = 4) ∧
    (let b := (owned (paired 9 0 3)).written .portA 0x0008 (wput [(F.STA_CMD_OP, 3)])
     b.isPair = true ∧ b.standby = false ∧ b.fget F.STA_PAIR_STATE ≠ 4) ∧
    ((owned up).written .portA 0x0008 (wput [(F.STA_CMD_OP, 3)])).isPair = false ∧
    (let b : Block := { (inStage 11) with sa := { up.sa with retryAt := some 5 } }
     b.alive = true ∧ b.sa.retryAt = some 5 ∧ b.stage = 11) ∧
    up.sa.retryAt = none ∧ (inStage 2).stage = 2 ∧ (inStage 7).stage = 7 ∧ (inStage 1).stage < 2 ∧ 7 < (inStage 8).stage ∧ (inStage 2).alive = true := by decide +kernel

/-- A time-of-day frame for a second, and one with its CRC broken. -/
def tod (secs crc : Nat) : BitVec 112 := BitVec.ofNat 112 (0xA55A + secs * 2 ^ 16 + crc * 2 ^ 80)
/-- A block in a stage that has seen the frame of second 0, with a calendar. -/
def seen (stage cal : Nat) : Block :=
  let b := (inStage stage).fset F.LIF_CAL_OFFSET_US cal
  { b with sa := { b.sa with lastTod := some 0, ckptCal := some 7 } }

theorem witness_calendar :
    (bits (tod 1 2844319735).toNat 0 16 = 0xA55A ∧ bits (tod 1 2844319735).toNat 80 32 = crc32 (leBytes 8 (bits (tod 1 2844319735).toNat 16 64)) ∧
      bits (tod 1 2844319735).toNat 16 64 = 1) ∧
    ¬ (bits (tod 1 2844319734).toNat 80 32 = crc32 (leBytes 8 (bits (tod 1 2844319734).toNat 16 64))) ∧
    ([6, 7, 8, 9, 10].all (fun n => (seen n 0).alive && (seen n 0).stage == n && (seen n 0).sa.lastTod == some 0)) = true ∧ up.sa.lastTod = none ∧
    (seen 9 998999).calendar + 1000 < 1 * 1000000 ∧ 1 * 1000000 + 1000 < (seen 9 1001001).calendar ∧ (seen 9 0).sa.calDiff = false ∧
    ¬ ((seen 9 999000).calendar + 1000 < 1 * 1000000 ∨ 1 * 1000000 + 1000 < (seen 9 999000).calendar) ∧
    ((seen 7 0).advance 3000000).sa.ckptCal = some 7 ∧ ((inStage 7).advance 3000000).sa.ckptCal = none ∧ (inStage 9).stage ≠ 7 ∧
    up.run? = true ∧ (inStage 8).run? = false := by decide +kernel

/-- A block with one stack of memory and fresh lifetime counters, and a lifetime record of this chip in it. -/
def recorded (m : Memory) : Block :=
  let b := owned (((up.fset F.LNK_NODE_STACKS 1).fset F.LNK_RM_USABLE_BYTES 4096).fset F.LIF_CKPT_FRESH 1)
  { b with
    mem := { b.mem with stack := m }
    io := { b.io with stks := [(0, { Stack.reset with up := true })] } }
def lifeBody : List Byte := leBytes 4 0x4C494645 ++ zeros 4088

theorem witness_lifRestore :
    accepting (recorded []) .portA 0x2010 (wput [(F.LIF_CMD_OP, 1)]) false = true ∧
    ((recorded []).written .portA 0x2010 (wput [(F.LIF_CMD_OP, 1)])).fget F.LIF_CKPT_FRESH ≠ 0 ∧
    ((owned up).written .portA 0x2010 (wput [(F.LIF_CMD_OP, 1)])).fget F.LIF_CKPT_FRESH = 0 ∧
    accepting (owned up) .portA 0x2010 (wput [(F.LIF_CMD_OP, 1)]) false = true ∧
    ((owned up).written .portA 0x2010 (wput [(F.LIF_CMD_OP, 1)])).readable 0 4096 = false := by decide +kernel

theorem recorded_stack (m : Memory) : (recorded m).mem.stack = m := rfl

theorem lifeBody_length : (withCrc lifeBody).length = 4096 := by
  rw [withCrc, List.length_append, leBytes_length, lifeBody, List.length_append, leBytes_length, zeros, List.length_replicate]

/-- The block with that record at the address of LIF_ARG, its write carried out. -/
def restored : Block := (recorded (mwrN [] 0 (withCrc lifeBody))).written .portA 0x2010 (wput [(F.LIF_CMD_OP, 1)])

/-- The record holds: its magic number, its CRC, and the serial number 0 of the key store. -/
theorem witness_lifRecord : let l := restored.rd0 (restored.fget F.LIF_ARG_BASE) 4096
    restored.readable (restored.fget F.LIF_ARG_BASE) 4096 = true ∧ crcHolds l = true ∧ lefld l 0 4 = 0x4C494645 ∧ lefld l 16 8 = restored.sa.key.serial := by
  have hr : restored.rd0 (restored.fget F.LIF_ARG_BASE) 4096 = withCrc lifeBody := by
    have h := mrdN_mwrN 0 (withCrc lifeBody) (m := []) rfl
    rw [lifeBody_length] at h
    have ha : restored.fget F.LIF_ARG_BASE = 0 := by decide +kernel
    have hm : restored.mem = (recorded (mwrN [] 0 (withCrc lifeBody))).mem := Block.written_mem _ _ _ _
    rw [ha, Block.rd0, hm, recorded_stack]
    exact h
  rw [hr]
  exact ⟨by decide +kernel, crcHolds_withCrc _ (by decide +kernel), by decide +kernel, by decide +kernel⟩

/-- A block waiting for its peer; the active, the standby, and a block of neither role. -/
theorem witness_pairCommands : (inStage 8).alive = true ∧ (inStage 8).stage = 8 ∧ (inStage 8).fget F.STA_IMGID_IMAGE_ID = 0 ∧ (inStage 8).node < 1 ∧
    ¬ (inStage 8).node < 0 ∧ (1 : Nat) ≠ (inStage 8).fget F.STA_IMGID_IMAGE_ID ∧
    (let a := paired 9 0 3
     a.alive = true ∧ a.stage ≠ 8 ∧ a.run? = true ∧ a.isPair = true ∧ a.fget F.STA_IDENT_PAIR_ROLE = 0 ∧ a.fget F.STA_IMGID_IMAGE_ID = 0 ∧ a.mirrors = true ∧
       a.standby = false) ∧
    (let b := paired 9 1 4
     b.alive = true ∧ b.standby = true ∧ b.fget F.STA_PAIR_STATE = 4 ∧ b.mirrors = false ∧ b.pair.taking = false) ∧
    (let c : Block := { paired 9 1 4 with pair := { up.pair with taking := true } }
     c.alive = true ∧ c.run? = true ∧ c.pair.taking = true) := by decide +kernel

/-- A block whose port 7 is up, with an operation outstanding on it. -/
def ported (o : List OutOp) : Block :=
  { up with rm := { up.rm with out := o }, io := { up.io with stem := [(7, { StemPort.reset with up := true })] } }
/-- A block with link 63 in a given form. -/
def linked (k : Link) : Block := { up with io := { up.io with links := [(63, k)] } }
def live : Link := { Link.reset with state := 2 }

/-- The last port up and one down; parity of each sort; a response that answers and one that does not; a live link; a request to each space. -/
theorem witness_stemPackets : (ported []).alive = true ∧ (pkt 7).port < 8 ∧ ((ported []).stemAt (pkt 7).port).up = true ∧ (pkt 7).headerOk = true ∧
    (pkt 7).payloadOk = true ∧ ({ pkt 7 with payloadOk := false } : Pkt).payloadOk = false ∧ ({ pkt 7 with headerOk := false } : Pkt).headerOk = false ∧
    8 ≤ (pkt 8).port ∧ (up.stemAt 0).up = false ∧
    (let o := { outOp with route := 7 }
     (ported [o]).answered 7 8 (pkt 7) = some o ∧ ((ported [o]).count (F.MGT_STEM_ERR_RSP.at 7)).answered 7 10 (pkt 7) = some o) ∧
    (let o := { outOp with route := 7, kind := 1 }
     (ported [o]).answered 7 9 (pkt 7) = some o) ∧
    (ported []).answered 7 8 (pkt 7) = none ∧ (ported []).answered 7 9 (pkt 7) = none ∧
    (linked live).alive = true ∧ ((linked live).linkAt 63).live = true ∧
    (let o := { outOp with route := 127 }
     let b : Block := { linked live with rm := { up.rm with out := [o] } }
     (b.freeRx 63 1 []).answered (64 + 63) 8 (pkt 0) = some o) ∧
    ([1, 2, 3, 5, 6].all (fun n => ([1, 2, 3, 5, 6] : List Nat).contains (gaSpace ({ pkt 7 with addr := BitVec.ofNat 64 (n * 2 ^ 52) } : Pkt).addr.toNat))) = true ∧
    F.MGT_STEM_ERR_RSP.off ∉ [F.LNK_RM_EVT_CODE.off, F.LNK_RM_CNT_A_FAR.off, F.LNK_RM_CNT_B_TIMEOUT.off] := by decide +kernel

/-- The ends of a credit return, a port down, a retired one, a flit with the expected SEQ and flits that are not taken, a replay, a link that trains. -/
theorem witness_stemPortsAndFlits : (ported []).alive = true ∧ ((ported []).stemAt 7).up = true ∧ (up.stemAt 7).up = false ∧ (up.stemAt 7).retired = false ∧
    ((linked live).linkAt 63).live = true ∧ flit.crcOk = true ∧ flit.seq = (((linked live).linkReturns 63 flit).linkAt 63).rxSeq ∧ flit.vc ≤ 1 ∧
    ({ flit with crcOk := false } : Flit).crcOk = false ∧ ({ flit with seq := 1 } : Flit).seq ≠ (((linked live).linkReturns 63 { flit with seq := 1 }).linkAt 63).rxSeq ∧
    1 < ({ flit with vc := 2 } : Flit).vc ∧
    ((linked { live with retry := [(4095, 0, 1)] }).linkAt 63).retry = (4095, 0, 1) :: [] ∧ (up.linkAt 63).retry = [] ∧ ctrl.crcOk = true ∧
    ((linked { live with state := 1 }).linkAt 63).state = 1 ∧ ((linked { live with state := 4, testing := true }).linkAt 63).testing = true ∧
    ({ ctrl with crcOk := false } : Ctrl).crcOk = false ∧ ((linked live).linkAt 63).state ≠ 1 ∧ ((linked live).linkAt 63).testing = false := by decide +kernel

/-- Light lost on a lane in use and on one that is not, light returning on two lanes and on one, a training that completes, one whose peer has not
come, one tested; a lane just over its limit and one at it. -/
theorem witness_linkTraining : (linked live).alive = true ∧ (63 : Nat) < 64 ∧
    (live.state ≠ 4 ∧ (8#4).toNat &&& lanesUsed live.lanes ≠ 0) ∧
    (({ live with lanes := 7 } : Link).state ≠ 4 ∧ (8#4).toNat &&& lanesUsed ({ live with lanes := 7 } : Link).lanes = 0) ∧
    (let k := { live with state := 4, los := 15 }
     k.state = 4 ∧ 2 ≤ popcount 4 (k.los &&& (15 - (12#4).toNat)) ∧ k.testing = false ∧ popcount 4 (k.los &&& (15 - (14#4).toNat)) < 2) ∧
    (let k := { live with state := 1, ctrl := some ctrl }
     (linked k).linkAt 63 = k ∧ k.ctrl = some ctrl ∧ k.signal = true ∧ k.testing = false ∧ k.state = 1 ∧ k.lanes = 15 ∧ k.fresh = true ∧ ctrl.fresh = true ∧
       (linked k).pairLink 63 = false) ∧
    (let b := (linked { live with state := 1, ctrl := some { ctrl with node := 0 } }).fset F.STA_IDENT_CONFIG 4
     b.pairLink 63 = true ∧ ({ ctrl with node := 0 } : Ctrl).node = b.fget F.LNK_NODE_PEER ∧ ctrl.link = 63) ∧
    live.ctrl = none ∧ ({ live with oeReady := false } : Link).signal = false ∧ ({ live with testing := true } : Link).testing = true ∧
    live.lanes.testBit 3 = true ∧ live.live = true ∧ up.fget F.LNK_CTRL_SER_MAX < 1 ∧ (lanesUsed live.lanes).testBit 3 = true ∧
    (0 : Nat) ≤ up.fget F.LNK_CTRL_SER_MAX ∧ live.state ≠ 4 := by decide +kernel

/-- A stack of two lines to a gang, whose last gang is rebuilt at a line, or released there. -/
def stacked (ps : List Nat) (line : Nat) : Block :=
  { window with io := { up.io with stks := [(11, { Stack.reset with up := true, lines := 2, rebuild := [(2, ps, line)] })] } }

/-- A read of a line with no error, and one that more erasures meet than the code corrects. -/
def clean : LineRead := { first := burst, second := burst }
def lost : LineRead := { first := { burst with sev := [0, 1, 2] }, second := { burst with sev := [0, 1, 2] } }

/-- The last line of a rebuild and the one before it, a rebuild that reads its line and one that cannot, a scrub of each sort, a stack in service, CATTRIP
high and low. -/
theorem witness_stacks : (stacked [] 1).alive = true ∧ (stacked [] 1).run? = true ∧ (stacked [] 1).clk.mainWindow = true ∧
    ((stacked [] 1).stackAt 11).rebuild.find? (fun y => y.1 == 2) = some (2, [], 1) ∧
    (((stacked [] 1).zeroLine 11 2 1).stackAt 11).rebuild.contains (2, [], 1) = true ∧ (((stacked [] 1).zeroLine 11 2 1).stackAt 11).lines ≤ 1 + 1 ∧
    (((stacked [] 0).zeroLine 11 2 0).stackAt 11).rebuild.contains (2, [], 0) = true ∧ 0 + 1 < (((stacked [] 0).zeroLine 11 2 0).stackAt 11).lines ∧
    ((stacked [3] 0).stackAt 11).rebuild.find? (fun y => y.1 == 2) = some (2, [3], 0) ∧ ((stacked [3] 0).lineRead 11 2 0 lost).1 = false ∧
    (let k := (stacked [] 1).stackAt 11
     k.up = true ∧ k.lines ≠ 0 ∧ ((List.range 3).map (fun i => (k.scrub + i) % (3 * k.lines))).find? (fun l => k.gangs.getD (l % 3) false) = some 0 ∧
       (((stacked [] 1).setStack 11 { k with scrub := 1 }).lineRead 11 0 0 clean).1 = true ∧
       (((stacked [] 1).setStack 11 { k with scrub := 1 }).lineRead 11 0 0 lost).1 = false) ∧
    (up.stackAt 11).cattrip = false ∧
    (({ up with io := { up.io with stks := [(11, { Stack.reset with cattrip := true })] } } : Block).stackAt 11).cattrip = true := by decide +kernel

theorem witness_duty : let b := (up.fset F.PWR_CTRL_DUTY_MIN 16).fset F.PWR_STAT_DUTY 16
    b.fget F.PWR_CTRL_DUTY_MIN ≤ 16 ∧ b.fget F.PWR_CTRL_DUTY_MIN ≤ b.fget F.PWR_STAT_DUTY ∧ b.fget F.PWR_STAT_DUTY ≤ 16 ∧
    (760 ≤ 760 ∧ 760 < 761) ∧ 2 ≤ ({ up with pw := { up.pw with badRun := List.replicate 96 2 } } : Block).pw.badRun.getD 95 0 := by decide +kernel

/-- A tree of 16 nodes, each the child of the one before, the first of the root. -/
def chain : List Node :=
  (List.range 16).map (fun i => { tok := i, parent := if i = 0 then 0xFF else i - 1, level := i, score := 0, cfg := { state := 0, stack := [] }, masked := true })

theorem witness_ancestry : chain.length ≤ 16 ∧ ∀ i (n : Node), chain[i]? = some n → n.parent = 0xFF ∨ n.parent < i := by
  refine ⟨by decide, fun i n h => ?_⟩
  simp only [chain, List.getElem?_map] at h
  rcases Nat.lt_or_ge i 16 with hi | hi
  · simp only [List.getElem?_range hi, Option.map_some, Option.some.injEq] at h
    subst h
    by_cases h0 : i = 0
    · simp [h0]
    · simp [h0]; omega
  · rw [List.getElem?_eq_none (by simpa using hi)] at h
    cases h

theorem witness_thermalLimits : (up.setReg 0x1D00 0x03706E).checkThm = (0, 0) := by decide +kernel

/-! Single steps. Each expected result is the specification's own worked example where it has one, else worked out from its rule by hand. -/

/-- The block after a command. -/
def after (c : Instr) (b : Block) : Block := effect c (st b)
/-- The answer last given to port A. -/
def rspA (b : Block) : Option Nat := (tget b.mgt.rsp (srcKey .portA)).map (·.1)

/-- The front command runs, and the rest of the queue waits (00_scope.md). -/
theorem test_step_front : (match step { pending := [.punnetTaken 1, .logTaken 1], blk := up } with
    | .next t => t.pending.length == 1 && t.blk.fget F.TOK_PUN_TAKEN_TAKEN == 1
    | _ => false) = true := by decide

/-- 2^64 - 1 plus 1 is 0 (R349). -/
theorem test_add_wraps : ((after (.nsiAdd seq0 (wd [(15, 3), (20, 1), (25, 2)]) 0) (withEx seq0 (regs [(1, 0xFFFFFFFFFFFFFFFF), (2, 1), (3, 9)]))).ex seq0).rs 3 = 0 := by decide

/-- An immediate is sign-extended from 32 bits (R348). -/
theorem test_sub_immediate : ((after (.nsiSub seq0 (wd [(15, 1), (20, 1), (30, 1), (31, 0xFFFFFFFF)]) 0) (withEx seq0 (regs [(1, 5)]))).ex seq0).rs 1 = 6 := by decide

/-- A shift amount is taken modulo 64, and SRA keeps the sign (R349). -/
theorem test_sra_amount : ((after (.nsiSra seq0 (wd [(15, 3), (20, 1), (25, 2)]) 0) (withEx seq0 (regs [(1, 0x8000000000000000), (2, 65)]))).ex seq0).rs 3 = 0xC000000000000000 := by decide

theorem test_mulhu : ((after (.nsiMulhu seq0 (wd [(15, 3), (20, 1), (25, 1)]) 0) (withEx seq0 (regs [(1, 0xFFFFFFFFFFFFFFFF)]))).ex seq0).rs 3 = 0xFFFFFFFFFFFFFFFE := by decide

/-- BEXT of 8 bits from bit 4 (R349). -/
theorem test_bext : ((after (.nsiBext seq0 (wd [(15, 3), (20, 1), (30, 1), (31, 7 * 64 + 4)]) 0) (withEx seq0 (regs [(1, 0xABCDE)]))).ex seq0).rs 3 = 0xCD := by decide

/-- LI with an extension word is 16 bytes long (R340, R342). -/
theorem test_li_extension : let e := (after (.nsiLi seq0 (wd [(10, 1), (15, 3), (30, 1)]) 0x123456789) up).ex seq0
    e.rs 3 = 0x123456789 ∧ e.pc = 16 := by decide

/-- CLT compares signed, CLTU unsigned (R349). -/
theorem test_clt : let b := withEx seq0 (regs [(1, 0xFFFFFFFFFFFFFFFF), (2, 1)])
    ((after (.nsiClt seq0 (wd [(15, 4), (20, 1), (25, 2)]) 0) b).ex seq0).rp 4 = true ∧
    ((after (.nsiCltu seq0 (wd [(15, 4), (20, 1), (25, 2)]) 0) b).ex seq0).rp 4 = false := by decide

/-- A branch target is IMM words of 8 bytes from the branch (R342). -/
theorem test_br_back : ((after (.nsiBr seq0 (wd [(30, 1), (31, 0xFFFFFFFE)]) 0) (withEx seq0 { Exec.clear with pc := 40 })).ex seq0).pc = 24 := by decide

/-- TRAP goes to byte 0x0100 with code 8 and its immediate (R344, R346). -/
theorem test_trap : let e := (after (.nsiTrap seq0 (wd [(30, 1), (31, 77)]) 0) (ticks.setEx seq0 { Exec.clear with pc := 48 })).ex seq0
    e.pc = 0x100 ∧ e.cause = 8 ∧ e.epc = 48 ∧ e.einfo = 77 ∧ e.trap = true := by decide

/-- A PUT copies, when it completes, from the address in RB to the address in RA (R383). -/
theorem test_put : let g2 : Word := BitVec.ofNat 64 (2 * 2 ^ 52)
    let c : Block := { up with cp := { up.cp with enabled := 1 }, mem := { up.mem with slices := [(64, 0xAA), (67, 0xBB)] } }
    let d := after (.nsiPut seq0 rw 0) (c.setEx seq0 (rmEx (g2 + 128) (g2 + 64) 4))
    (d.ex seq0).posted.length = 1 ∧ mrdN d.mem.slices 128 4 = [0, 0, 0, 0] ∧
    mrdN (after (.remoteOpComplete seq0) d).mem.slices 128 4 = [0xAA, 0, 0, 0xBB] := by decide +kernel

/-- FADD gives the value before and leaves the sum (R383). -/
theorem test_fadd : let b := { withEx seq0 (rmEx g3 5 0) with rq := { up.rq with table := [(0, [7])] } }
    let c := after (.nsiFadd seq0 (wd [(15, 4), (20, 1), (25, 2), (35, 1)]) 0) b
    (c.ex seq0).rs 4 = 7 ∧ (c.ex seq0).rp 1 = true ∧ (c.entry 0).getD 0 0 = 12 := by decide +kernel

/-- The example of 08_pip_arithmetic.md: 96 products in MXFP4, 2^24 + 1 + 1 rounded after each block, gives 0x4B800000. -/
theorem test_mma_order : let row := List.replicate 16 (0x66#8) ++ 2#8 :: List.replicate 15 0 ++ 2#8 :: List.replicate 15 0
    let d := mkWord [(21, 2), (29, 6), (33, 1)]
    let a := d ||| mkWord [(46, 2)]
    let b := d ||| mkWord [(0, 1), (46, 3)]
    let m := mwrN (mwrN (mwrN (mwrN [] 0 row) 64 row) 128 [0x87, 0x7F, 0x7F]) 192 [0x86, 0x7F, 0x7F]
    let s : Block := { withEx pip0 { Exec.clear with t := [(0, (a, false)), (1, (b, false))] } with mem := { up.mem with slices := m } }
    ((after (.nsiMma pip0 (wd [(19, 0), (23, 1)]) 0 false) s).ex pip0).accAt 0 0 0 = 0x4B800000 := by decide +kernel

/-- The example of 08_pip_arithmetic.md: 1000.0, 3.3 and zeros in MXFP8 E4M3 give 0x7E, 0x3D and 0x00 with scale byte 0x80 and one element
saturated. -/
theorem test_conversion_saturates : convRow 2 ([0x447A0000#32, 0x40533333#32].map dec32 ++ List.replicate 30 (dec32 0)) =
    (0x7E :: 0x3D :: List.replicate 30 0, [0x80], 0, 1) := by decide +kernel

/-- 1.5 + 2.25 = 3.75, in the last element of a row; the other elements add zeros (R252). -/
theorem test_vadd : let m := mwrN (mwrN [] 124 (leBytes 4 0x3FC00000)) 252 (leBytes 4 0x40100000)
    let t := fun (base : Nat) => (mkWord [(0, base), (33, 2)], false)
    let s : Block := { withEx pip0 { Exec.clear with t := [(0, t 4), (1, t 0), (2, t 2)] } with mem := { up.mem with slices := m } }
    let n := (after (.nsiVadd pip0 (wd [(15, 0), (19, 1), (23, 2)]) 0) s).mem.slices
    mrdN n (256 + 124) 4 = leBytes 4 0x40700000 ∧ mrdN n 256 4 = [0, 0, 0, 0] := by decide +kernel

/-- The tree of the example of 07_speculative_path.md and its ancestry rows. -/
theorem test_ancestry : ancestry ([0xFF, 0xFF, 0xFF, 0, 1, 3, 3, 5].map (fun p =>
    { tok := 0, parent := p, level := 0, score := 0, cfg := { state := 0, stack := [] }, masked := true })) =
    [0x0001, 0x0002, 0x0004, 0x0009, 0x0012, 0x0029, 0x0049, 0x00A9] := by decide

/-- The example of 02_tick_and_scheduling.md: 150,000 tokens admitted at 1,000 ms with d 8 ms, i 6 ms and TOKEN_CAP 8,192 are released at 1,026 ms. -/
theorem test_release_time : let prof := leBytes 4 0 ++ leBytes 4 8000 ++ leBytes 4 8192 ++ leBytes 4 6000
    let b := (entered up 0 (List.replicate 32 0)).eset 0 E.ADMIT_TIME 1000000
    ({ b with mem := { b.mem with stack := mwrN [] (b.fget F.VRD_PROF_BASE_BASE + 512 * b.eget 0 E.PROFILE) prof } } : Block).releaseTime 0 150000 = 1026000 := by decide +kernel

/-- The first boundary is tick 0, the next tick 1 (R55). -/
theorem test_tick_numbers : let b := up.fset F.TICK_PERIOD_PERIOD_US 1000
    let c := after .internalTick b
    c.fget F.TICK_COUNT_COUNT = 0 ∧ c.clk.timeUs = 1000 ∧ (after .internalTick c).fget F.TICK_COUNT_COUNT = 1 := by decide +kernel

/-- An early edge is counted (R48). -/
theorem test_early_edge : (after (.tickInEdge 5) edged).fget F.TICK_CNT_A_EARLY = 1 := by decide +kernel

/-- A doorbell adds modulo 2^64. -/
theorem test_doorbell_wraps : (after (.admDoorbell 2) (up.setReg 0x0220 0xFFFFFFFFFFFFFFFF)).fget F.RQT_ADM_DB_POSTED = 1 := by decide

/-- Port B's acquire of a semaphore port A holds is answered SEM_HELD (5), and a write of a guarded register without it SEM_NOT_HELD (4) (R417, R421). -/
theorem test_semaphores : let a := after (.semAcquire .portA 3 1000) up
    rspA a = some 0 ∧ (a.semAt 3).expiry = 1000 ∧ (tget (after (.semAcquire .portB 3 1000) a).mgt.rsp (srcKey .portB)).map (·.1) = some 5 ∧
    rspA (after (.modelFetch .portA 1) up) = some 4 := by decide +kernel

/-- A write where no register is, and a write of a read-only register (R417). -/
theorem test_register_write : rspA (after (.registerWrite .portA 4 0 true) up) = some 6 ∧ rspA (after (.registerWrite .portA 0 1 true) up) = some 1 ∧
    rspA (after (.registerWrite .portA 0x1030 0 false) up) = some 7 ∧ (after (.registerWrite .portA 0x1030 0x5 true) up).fget F.MGT_MASK_A_MASK = 5 := by decide +kernel

/-- Reset leaves stage WAIT and the identification instruction in the test port (R484, R522). -/
theorem test_reset : let b := after .resetRelease (after .resetAssert window)
    b.stage = 1 ∧ b.clk.ticking = false ∧ b.tap = 2 ∧ (after .resetAssert window).stage = 0 := by decide +kernel

/-- A DATA flit out of sequence is not taken, and a NAK goes back (R436). -/
theorem test_flit_sequence : let b := linked live
    ((after (.linkDataFlit 63 flit) b).linkAt 63).rxSeq = 1 ∧ ((after (.linkDataFlit 63 { flit with seq := 5 }) b).linkAt 63).rxSeq = 0 ∧
    ((after (.linkDataFlit 63 { flit with seq := 5 }) b).linkAt 63).nakSent = true := by decide +kernel

/-- Credits come to a port that is up, and are gone when it goes down (R408). -/
theorem test_stem_credits : ((after (.stemCreditReturn 7 0 15) (ported [])).stemAt 7).req = 15 ∧ ((after (.stemPortDown 7) (ported [])).stemAt 7).up = false := by
  decide +kernel

/-- The address of the example of 18_register_summary.md: node 3, space 4, offset 0x0220. -/
theorem test_global_address : gaNode 0x0340000000000220 = 3 ∧ gaSpace 0x0340000000000220 = 4 ∧ gaOff 0x0340000000000220 = 0x220 := by decide

/-- The IDCODE of R522 is selected after a test port reset. -/
theorem test_tap : (after .tapReset { up with tap := 0x10 }).tapReg = .idcode ∧ (after .tapBypass up).tapReg = .bypass := by decide

/-- The CRC of one byte string, the check value of the polynomial that R432 names. -/
theorem test_crc : crc32 [0x31, 0x32, 0x33, 0x34, 0x35, 0x36, 0x37, 0x38, 0x39] = 0xCBF43926 := by decide +kernel

/-- One wrong symbol of a codeword of RS(72,64) is put right (R450, R451). -/
theorem test_outer_code : rsDecode ((List.replicate 72 0).set 5 7) [] = some (List.replicate 72 0) := by decide +kernel

/-! Witnesses for the statements that say what a command leaves: each hypothesis of each clause met. -/

/-- A block with memory, whose entry 5 is in SCREEN_IN with one screen, and with a job at the head of a unit. -/
def working (kind n : Nat) (j : Job) : Block :=
  let b := recorded []
  { b with
    rq := { b.rq with table := [(5, [2])], side := [(5, { Side.reset with screens := [Screen.new 0 false false 0 0 0 [] [] 0] })] }
    cp := { b.cp with units := [(kind * 64 + n, { TextUnit.reset with jobs := [j] })] } }
/-- The block once that job has left the unit. -/
def taken (kind n : Nat) (j : Job) : Block := ((working kind n j).setUnit kind n { ((working kind n j).unit kind n) with jobs := [] }).retryLater kind
/-- A job of the block's own, of entry 5; a descriptor job with an image at an offset. -/
def own (k : Nat) : Job := { job with kind := k, entry := 5 }
def placed (o : Nat) (d : List Byte) : Job := { job with img := some o, desc := d }
/-- A descriptor whose text of one byte lies on another node, and one whose stack of one word does. -/
def farText : List Byte := zeros 15 ++ [1] ++ [1, 0, 0, 0] ++ zeros 28
def farStack : List Byte := 1 :: 0 :: 1 :: farText.drop 3

/-- For each kind of unit a descriptor job whose image and input can be read, one whose image cannot and one whose input cannot; jobs of the
block's own still wanted and no longer. -/
theorem witness_textUnitsFinish_jobs :
    ([0, 1, 2, 3].all (fun k => (working k 7 job).alive && ((working k 7 job).unit k 7).jobs == [job] && job.kind == 0)) = true ∧
    ([0, 1, 2].all (fun k =>
      ((taken k 7 (placed 0 [])).imgRead k 0).isSome && ((taken k 7 (placed 4096 [])).imgRead k 4096).isNone &&
      ((taken k 7 (placed 0 [])).unitRead [] (dfld [] 8 8) (dfld [] 16 4)).isOk &&
      !((taken k 7 (placed 0 farText)).unitRead [] (dfld farText 8 8) (dfld farText 16 4)).isOk)) = true ∧
    ([0, 1, 2, 3].all (fun op => dfld [BitVec.ofNat 8 op] 0 1 == op)) = true ∧
    (((taken 2 7 (placed 0 [])).unitRead [] (dfld [] 8 8) (4 * dfld [] 2 1)).isOk &&
      !((taken 2 7 (placed 0 farStack)).unitRead [] (dfld farStack 8 8) (4 * dfld farStack 2 1)).isOk) = true ∧
    (({ job with rerr := [0] } : Job).rerr.contains 0 = true ∧ job.rerr.contains 0 = false ∧
      (((taken 3 7 job).headVectors 7).treeFaults 7 []).groupsUp 7 ≠ [] ∧ (((taken 3 7 job).headVectors 7).treeFaults 7 []).isHome (vecAddr [] 0) = true) ∧
    ([1, 2, 3, 4, 5, 6].all (fun k => let c := taken 0 7 (own k)
      c.eget 5 E.STATE == 2 && c.eget 5 E.GENERATION == (own k).gen && (own k).tick == c.tick && (c.scr 5 0).isSome && (own k).entry == 5)) = true ∧
    (taken 0 7 (own 1)).eget 6 E.STATE = 0 := by decide +kernel

/-- A model image of 128 bytes, its header alone. -/
def image : List Byte := leBytes 4 0x4D4F444C ++ leBytes 2 1 ++ [1, 0] ++ zeros 56 ++ leBytes 8 128 ++ leBytes 8 128 ++ leBytes 8 128 ++ zeros 36 ++ leBytes 4 1252207558
/-- A block in the main window whose memory holds that image at 1024 and a record at 0, of model 0 or of adapter 0, and with loads under way. -/
def storing (rec_ : List Byte) (loads : List (Bool × Nat × Option Nat)) : Block :=
  let b := recorded (mwrN (mwrN [] 1024 image) 0 rec_)
  { b with clk := { b.clk with mainWindow := true }, st := { b.st with loads := loads } }
/-- The record of model 0 in a state, from a source to 2048, with a digest; the record of an adapter from 1024 to 2048. -/
def modelRec (state src : Nat) (digest : List Byte) : List Byte :=
  [BitVec.ofNat 8 state, 0, 0, 0] ++ leBytes 4 0 ++ leBytes 8 src ++ leBytes 8 128 ++ leBytes 8 2048 ++ zeros 32 ++ digest
def adapterRec : List Byte := zeros 16 ++ leBytes 8 1024 ++ leBytes 8 2048 ++ leBytes 4 128
/-- The block once a load has left those under way and its bytes are written. -/
def copied (b : Block) : Block := { b with st := { b.st with loads := [] } }.wr0 2048 image

/-- A load under way whose source can be read, here and elsewhere, and whose source cannot; a digest that holds and one that does not. -/
theorem witness_storeEvents_loads :
    (let b := storing (modelRec 2 1024 (sha384 image)) [(false, 0, some 0)]
     b.alive = true ∧ b.run? = true ∧ b.loading false 0 = some 0 ∧ b.loading true 0 = none ∧ b.objHere false 0 = true ∧ b.objData false 0 [] = some image ∧
       b.objWarm false 0 = 2048 ∧
       (sha384 image == (copied b).rd0 ((copied b).objAddr false 0 + 64) 48 && modelHeaderOk (imgOf image) 128) = true) ∧
    (let b := storing (modelRec 2 1024 []) [(false, 0, some 0)]
     (sha384 image == (copied b).rd0 ((copied b).objAddr false 0 + 64) 48) = false) ∧
    (let b := storing (modelRec 2 4096 []) [(false, 0, some 0)]
     b.loading false 0 = some 0 ∧ b.objHere false 0 = true ∧ b.objData false 0 [] = none) ∧
    (let b := storing (modelRec 2 (5 * 2 ^ 52) []) [(false, 0, some 0)]
     b.clk.mainWindow = true ∧ b.objHere false 0 = false ∧ b.objData false 0 [] = none) ∧
    (let b := storing adapterRec [(true, 0, some 0)]
     b.loading true 0 = some 0 ∧ b.objHere true 0 = true ∧ b.objData true 0 [] = some image ∧ sha384 image ≠ (tget (copied b).st.adpDigest 0).getD [] ∧
       sha384 image = (tget ({ copied b with st := { b.st with adpDigest := [(0, sha384 image)] } } : Block).st.adpDigest 0).getD []) := by decide +kernel

/-- A context of one granule. -/
def granule (resident : Bool) : Ctx := { adapter := false, num := 0, granules := [0], resident := resident, filledTick := 0, began := 0 }
/-- A block with the banks of cluster 0, where model 0 is WARM and of a number of granules. -/
def warmed (granules : Nat) : Block :=
  let b := storing ([3, 0, 0, 0] ++ zeros 28 ++ leBytes 4 granules) []
  { b with cp := { b.cp with enabled := 1 } }

/-- A WARM object that something waits for and one that nothing does; a fill under way, one done, none; room for a fill, and none. -/
theorem witness_storeEvents_fills :
    ((warmed 1).alive = true ∧ (warmed 1).run? = true ∧ (warmed 1).objState false 0 = 3 ∧ (warmed 1).itemsFor false 0 = [] ∧ (0 : Nat) ∉ (warmed 1).st.pinned ∧
      (0 : Nat) ∈ ({ warmed 1 with st := { up.st with pinned := [0] } } : Block).st.pinned ∧ up.objState false 0 ≠ 3 ∧
      ({ warmed 1 with cp := { up.cp with items := [item false] } } : Block).itemsFor false 0 ≠ []) ∧
    (let b : Block := { warmed 1 with st := { up.st with hot := [granule false] } }
     b.ctx false 0 = some (granule false) ∧ (granule false).resident = false ∧ b.clk.mainWindow = true) ∧
    (({ warmed 1 with st := { up.st with hot := [granule true] } } : Block).ctx false 0 = some (granule true) ∧ (warmed 1).ctx false 0 = none ∧ up.clk.mainWindow = false) ∧
    ((warmed 1).st.fillWait = [] ∧ (warmed 1).adaptersFull false = false ∧ (warmed 1).evictOrder false = [] ∧ (warmed 128).objGranules false 0 ≤ (warmed 128).freeCount ∧
      (warmed 129).freeCount < (warmed 129).objGranules false 0 ∧ (warmed 129).evictOrder false = []) := by decide +kernel

/-- An ensemble of one tree, which is one leaf. -/
def forest : List Byte :=
  leBytes 4 0x4F524348 ++ [1, 0, 0, 1] ++ leBytes 2 1 ++ leBytes 2 1 ++ leBytes 4 1 ++ zeros 8 ++ leBytes 8 192 ++ leBytes 8 208 ++ leBytes 8 224 ++
    leBytes 8 240 ++ leBytes 8 240 ++ zeros 124 ++ leBytes 4 1989826233 ++ zeros 16 ++ leBytes 4 0 ++ leBytes 4 1 ++ [0, 1] ++ zeros 6 ++ zeros 16
/-- A block whose memory holds that image at 1024, with a check of it under way. -/
def checking (kind n base : Nat) : Block :=
  let b := recorded (mwrN [] 1024 forest)
  { b with ob := { b.ob with checks := [(kind, n, base)] } }

/-- A check that passes, one that fails, none; an image that can be read, of each kind, and one that cannot. -/
theorem witness_storeEvents_checks :
    (let b := checking 4 255 1024
     b.ob.checks.find? (fun c => c.1 == kindNum .ensemble && c.2.1 == 255) = some (4, 255, 1024) ∧
       ({ b with ob := { b.ob with checks := [] } } : Block).checkStatus 4 255 1024 = 0 ∧ b.ob.checks.find? (fun c => c.1 == kindNum .vocab && c.2.1 == 31) = none) ∧
    (checking 0 31 1024).checkStatus 0 31 1024 ≠ 0 ∧
    ([0, 1, 2, 3, 4].all (fun k => (checking k 0 1024).readable 1024 128 && (checking k 0 1024).readable 1024 ((checking k 0 1024).imgBytes k 1024))) = true ∧
    (checking 0 0 1024).readable 4096 128 = false := by decide +kernel

/-- A block with memory from a list of bytes at 0, its semaphores held by port A. -/
def holding (l : List Byte) : Block := recorded (mwrN [] 0 l)
/-- What remains of a command's register write that is accepted. -/
def mdl (b : Block) (op n : Nat) : Block := b.written .portA 0x0B38 (wput [(F.MDL_CMD_NUMBER, n), (F.MDL_CMD_OP, op)])
def adp (b : Block) (op n : Nat) : Block := b.written .portA 0x0B50 (wput [(F.MDL_ADP_CMD_NUMBER, n), (F.MDL_ADP_CMD_OP, op)])
/-- A registration record from an address, kept COLD or not: of a model, and of an adapter of model 1 with rank 64. -/
def modelArg (space cold : Nat) : List Byte := leBytes 8 (space * 2 ^ 52) ++ zeros 8 ++ [BitVec.ofNat 8 cold] ++ zeros 111
def adapterArg (space cold : Nat) : List Byte := leBytes 8 (space * 2 ^ 52) ++ zeros 6 ++ [64, BitVec.ofNat 8 cold] ++ leBytes 4 1 ++ zeros 108
/-- Records of models 0 and 1, in a state each, at 0, and the header of model 1 with its greatest rank. -/
def based (arg : List Byte) (st1 : Nat) : Block :=
  let b := holding (arg ++ [BitVec.ofNat 8 st1])
  { b with st := { b.st with heads := [(1, zeros 44 ++ [64] ++ zeros 83)] } }

/-- Each STATE of a model and of an adapter; a record that may be registered, loaded at once or kept COLD, and one that may not; pins firmware holds and may not
take; a load under way, and room for one or none. -/
theorem witness_modelCommands_states :
    ([0, 1, 2, 3, 4].all (fun k => let b := holding [BitVec.ofNat 8 k, 0, 0, BitVec.ofNat 8 k]
      (mdl b 2 0).objState false 0 == k && (adp b 3 0).objState true 0 == k && accepting b .portA 0x0B38 (wput [(F.MDL_CMD_NUMBER, 0), (F.MDL_CMD_OP, 2)]) false)) = true ∧
    ([(0, 0), (5, 1), (6, 1)].all (fun c => let b := mdl (based (modelArg c.1 c.2) 0) 1 8191
      let r := b.rd0 (b.fget F.MDL_ARG_BASE) 128
      b.objState false 8191 == 0 && b.fget F.MDL_ARG_BASE % 64 == 0 && b.readable (b.fget F.MDL_ARG_BASE) 128 && lefld r 16 1 == c.2 && allZero ((r.drop 17).take 47) &&
        allZero (r.drop 112) && gaSpace (lefld r 0 8) == c.1 && gaNode (lefld r 0 8) == b.node)) = true ∧
    (mdl (based (modelArg 5 0) 0) 1 8191).readable 0 128 = true ∧ gaSpace (lefld (modelArg 5 0) 0 8) = 5 ∧
    ([(0, 0), (5, 1)].all (fun c => [1, 3].all (fun st => let b := adp (based (adapterArg c.1 c.2) st) 1 262143
      let r := b.rd0 (b.fget F.MDL_ARG_BASE) 128
      b.objState true 262143 == 0 && b.readable (b.fget F.MDL_ARG_BASE) 128 && lefld r 15 1 == c.2 && allZero ((r.drop 20).take 44) && allZero (r.drop 112) &&
        gaSpace (lefld r 0 8) == c.1 && lefld r 14 1 == 64 && lefld r 16 4 == 1 && b.objState false 1 == st && (st == 3 || b.header 1 44 1 == 64)))) = true ∧
    (let b := mdl (holding [3, 0, 0, 2]) 3 0
     b.objState false 0 = 3 ∧ (b.cat 0 3 1).testBit 1 = true ∧ (mdl (holding [3]) 3 0).objState false 0 ≠ 0 ∧ ((mdl (holding [3]) 3 0).cat 0 3 1).testBit 1 = false) ∧
    (let b := mdl { holding [3] with cp := { up.cp with enabled := 1 } } 4 0
     b.pinOk [0] = true ∧ (b.cat 0 3 1).testBit 0 = false ∧ (mdl (holding [3, 0, 0, 1]) 5 0).cat 0 3 1 = 1 ∧ (mdl (holding [3]) 5 0).cat 0 3 1 = 0) ∧
    (up.loading false 0 = none ∧ ({ up with st := { up.st with loads := [(false, 0, some 0)] } } : Block).loading false 0 ≠ none ∧
      (up.fset F.MDL_WARM_SIZE_UNITS 1).warmRoom 2 = none ∧ firstFit (up.st.warm.map (fun w => (w.2.2.1, w.2.2.2))) ((up.fset F.MDL_WARM_SIZE_UNITS 1).fget F.MDL_WARM_SIZE_UNITS) 1 = some 0) := by
  decide +kernel

/-- A profile whose screens run models 0 and 1, which are COLD, and no Sloe model. -/
def profile : List Byte :=
  leBytes 4 0 ++ leBytes 4 2000 ++ leBytes 4 512 ++ leBytes 4 1000 ++ zeros 16 ++ (leBytes 2 0 ++ leBytes 2 0xFFFF ++ zeros 60) ++ (leBytes 2 1 ++ leBytes 2 0xFFFF ++ zeros 60) ++
    leBytes 4 0xFFFFFFFF ++ zeros 88 ++ leBytes 4 2944135301 ++ zeros 256
/-- A block with that record at 1024, and the records of its models at 0. -/
def profiled (arg : Nat) : Block :=
  (recorded (mwrN (mwrN [] 1024 profile) 0 ([1, 2] ++ zeros 126 ++ [1, 3]))).fset F.VRD_ARG_BASE arg
def vrd (b : Block) (op n : Nat) : Block := b.written .portA 0x0E08 (wput [(F.VRD_CMD_PROFILE, n), (F.VRD_CMD_OP, op)])
/-- A block with one object of each kind loaded. -/
def loaded : Block :=
  { up with ob := { up.ob with vocabs := [(31, 0)], grammars := [(65535, 0)], stops := [(65535, 0)], msets := [(1023, 0)], ensembles := [(255, [])] } }

theorem profile_crc : crc32 (profile.take 252 ++ profile.drop 256) = 2944135301 := by
  have h1 : (profile.take 126).foldl crcByte 0xFFFFFFFF = 1826724568 := by decide +kernel
  have h2 : ((profile.drop 126).take 126).foldl crcByte 1826724568 = 3914084630 := by decide +kernel
  have h3 : ((profile.drop 256).take 128).foldl crcByte 3914084630 = 1143381167 := by decide +kernel
  have h4 : ((profile.drop 256).drop 128).foldl crcByte 1143381167 ^^^ 0xFFFFFFFF = 2944135301 := by decide +kernel
  rw [crc32, ← List.take_append_drop 126 (profile.take 252), ← List.take_append_drop 128 (profile.drop 256), List.foldl_append, List.foldl_append,
    List.foldl_append, List.take_take, List.drop_take, show min 126 252 = 126 from rfl, show 252 - 126 = 126 from rfl, h1, h2, h3, h4]

/-- The record passes the checks, and lies at the address of VRD_ARG. -/
theorem witness_profileOk : (vrd (profiled 1024) 1 4095).profileOk profile = true ∧
    (vrd (profiled 1024) 1 4095).rd0 ((vrd (profiled 1024) 1 4095).fget F.VRD_ARG_BASE) 512 = profile := by
  refine ⟨?_, by decide +kernel⟩
  have h : profile.length = 512 := by
    simp only [profile, List.length_append, leBytes_length, zeros, List.length_replicate]
  rw [Block.profileOk, profile_crc, h]
  decide +kernel

/-- Objects loaded and not; a profile that may be defined, whose pins fit and do not, and one that may not; a profile defined and not. -/
theorem witness_objectCommands_states :
    (tget loaded.ob.vocabs 31 ≠ none ∧ tget loaded.ob.grammars 65535 ≠ none ∧ tget loaded.ob.stops 65535 ≠ none ∧ tget loaded.ob.msets 1023 ≠ none ∧
      tget loaded.ob.ensembles 255 ≠ none ∧ tget up.ob.vocabs 31 = none ∧ tget up.ob.grammars 65535 = none ∧ tget up.ob.stops 65535 = none ∧
      tget up.ob.msets 0 = none ∧ tget up.ob.ensembles 0 = none) ∧
    (accepting (owned up) .portA 0x0600 (wput [(F.GRM_CMD_NUMBER, 0), (F.GRM_CMD_OP, 1)]) false = true ∧
      accepting (owned up) .portA 0x0600 (wput [(F.GRM_CMD_NUMBER, 0), (F.GRM_CMD_OP, 2)]) false = true ∧
      accepting (owned up) .portA 0x0680 (wput [(F.STP_CMD_NUMBER, 0), (F.STP_CMD_OP, 1)]) false = true ∧
      accepting (owned up) .portA 0x0680 (wput [(F.STP_CMD_NUMBER, 0), (F.STP_CMD_OP, 2)]) false = true) ∧
    (let b := vrd (profiled 1024) 1 4095
     let a := b.fget F.VRD_ARG_BASE
     a = 1024 ∧ b.readable a 512 = true ∧ b.profNow 4095 = none ∧ sloesOf profile = [] ∧ b.profileOk [] = false ∧
       b.pinsFit (b.fget F.MDL_CTRL_FREE_MIN) [] [] = true ∧ (b.fset F.MDL_CTRL_FREE_MIN 1).pinsFit ((b.fset F.MDL_CTRL_FREE_MIN 1).fget F.MDL_CTRL_FREE_MIN) [] [] = false) ∧
    ((vrd (owned up) 2 4095).profNow 4095 = none ∧ (vrd (holding [1]) 2 0).profNow 0 ≠ none) := by decide +kernel

/-- An active with room in the journal and one without; one that serves no start. -/
theorem witness_pairCommands_sync :
    (let a := (paired 9 0 3).fset F.STA_PAIR_JRNL_SIZE_LOG2 16
     let room := 2 ^ a.fget F.STA_PAIR_JRNL_SIZE_LOG2 - (a.pair.journalHead - a.pair.journalAcked)
     a.alive = true ∧ a.run? = true ∧ a.mirrors = true ∧ 16 ≤ room ∧
       (let c : Block := { a with pair := { a.pair with journalHead := 65521 } }
        c.mirrors = true ∧ 2 ^ c.fget F.STA_PAIR_JRNL_SIZE_LOG2 - (c.pair.journalHead - c.pair.journalAcked) < 16)) ∧
    up.mirrors = false ∧ (inStage 8).run? = false ∧ (paired 9 1 4).mirrors = false ∧
    (let b := ((paired 9 1 4).fset F.STA_PAIR_JRNL_SIZE_LOG2 16).fset F.STA_PAIR_EPOCH_EPOCH 1
     b.pair.epoch < b.fget F.STA_PAIR_EPOCH_EPOCH ∧ up.fget F.STA_PAIR_EPOCH_EPOCH ≤ up.pair.epoch ∧
     ([0, 8, 65536].all (fun k => let c : Block := { b with mem := { b.mem with stack := mwrN [] 0 (zeros 8 ++ leBytes 4 k ++ leBytes 4 1) } }
        let h := c.journalBytes c.pair.applied 16
        lefld h 8 4 == k && lefld h 12 4 == (c.pair.epoch + 1) % 2 ^ 32)) = true ∧ lefld (b.journalBytes b.pair.applied 16) 12 4 ≠ (b.pair.epoch + 1) % 2 ^ 32) := by
  decide +kernel

/-- As many prompts in input screening as the Compact part allows, and one fewer. -/
def crowd (n : Nat) : Block := { up with rq := { up.rq with table := (List.range n).map (fun e => (e, [2])) } }

theorem witness_admissionHeld :
    (crowd 1024).admHeld = true ∧ (crowd 1023).admHeld = false ∧ up.fget F.STA_IDENT_CONFIG ≤ 1 ∧
    (up.rq.admTaken < (up.fset F.RQT_ADM_DB_POSTED 1).fget F.RQT_ADM_DB_POSTED ∧ (up.fset F.RQT_ADM_DB_POSTED 1).admHeld = false) := by decide +kernel

/-- A release whose tokenization has not completed; the write of VRD_LOG_TAKEN; a cluster of a quad that is off, and one of a quad that is on. -/
theorem witness_releaseLogAndQuad :
    (let b := entered up 0 [2]
     b.eget 0 E.STATE = 2 ∧ b.eget 0 E.RELEASE_TIME = 0 ∧ b.seqHalted (seqOf 0) = false) ∧
    accepting (owned up) .portA 0x0E30 0 false = true ∧
    (let c : Block := { up.fset F.PWR_PD_ON 0 with cp := { up.cp with retired := 2 ^ 63 } }
     c.ob.acts = [] ∧ (c.fget F.PWR_PD_ON).testBit (63 / 4) = false ∧ c.cp.retired.testBit 63 = true ∧ (c.fget F.STA_MFG_FAIL_CLUSTERS).testBit 63 = false ∧
       ((c.fset F.PWR_PD_ON 0x8000).fget F.PWR_PD_ON).testBit (63 / 4) = true ∧ c.cp.retired.testBit 62 = false ∧
       ((c.fset F.STA_MFG_FAIL_CLUSTERS (2 ^ 63)).fget F.STA_MFG_FAIL_CLUSTERS).testBit 63 = true) := by decide +kernel

end Sys2Proof.Tests
end

section
/-! PROOF. The ancestry mask of a candidate tree (R217): a mask's bytes are read back row by row, a row is its parent's row with the node's own bit added, and so a row's bits are the node and its ancestors. -/
namespace Sys2Proof.Machine
open Sys2Proof

/-! A record of rows of n bytes each, padded with zeros to k rows. -/

theorem leBytes_zero (n : Nat) : leBytes n 0 = zeros n := by
  induction n with
  | zero => rfl
  | succ n ih =>
    rw [leBytes, Nat.zero_div, ih]
    rfl

theorem length_flatMap_leBytes (n : Nat) (rows : List Nat) : (rows.flatMap (leBytes n)).length = n * rows.length := by
  induction rows with
  | nil => rfl
  | cons r rows ih => rw [List.flatMap_cons, List.length_append, leBytes_length, ih, List.length_cons, Nat.mul_succ, Nat.add_comm]

/-- Zero bytes are zero rows. -/
theorem flatMap_leBytes_replicate_zero (n k : Nat) : (List.replicate k 0).flatMap (leBytes n) = zeros (n * k) := by
  induction k with
  | zero => rfl
  | succ k ih =>
    rw [List.replicate_succ, List.flatMap_cons, ih, leBytes_zero, zeros, zeros, zeros, List.replicate_append_replicate, Nat.mul_succ,
      Nat.add_comm]

theorem padTo_flatMap_leBytes (n k : Nat) (rows : List Nat) :
    padTo (rows.flatMap (leBytes n)) (n * k) = (rows ++ List.replicate (k - rows.length) 0).flatMap (leBytes n) := by
  rw [padTo, List.flatMap_append, flatMap_leBytes_replicate_zero, length_flatMap_leBytes, zeros, Nat.mul_sub]

theorem padTo_length {l : List Byte} {n : Nat} (h : l.length ≤ n) : (padTo l n).length = n := by
  rw [padTo, List.length_append, List.length_replicate, Nat.add_sub_cancel' h]

/-- Row i of a record of rows of n bytes; past the rows nothing is read. -/
theorem lefld_flatMap_leBytes (n : Nat) (rows : List Nat) (i : Nat) :
    lefld (rows.flatMap (leBytes n)) (n * i) n = rows.getD i 0 % 256 ^ n := by
  induction rows generalizing i with
  | nil => rw [List.flatMap_nil, lefld, List.drop_nil, List.take_nil, leNat, List.getD_nil, Nat.zero_mod]
  | cons r rows ih =>
    cases i with
    | zero =>
      rw [List.flatMap_cons, lefld, Nat.mul_zero, List.drop_zero, List.take_left' (leBytes_length n r), leNat_leBytes, List.getD_cons_zero]
    | succ i =>
      have skip : (leBytes n r ++ rows.flatMap (leBytes n)).drop (n * (i + 1)) = (rows.flatMap (leBytes n)).drop (n * i) := by
        rw [List.drop_append, leBytes_length, List.drop_of_length_le (by rw [leBytes_length, Nat.mul_succ]; omega), List.nil_append,
          Nat.mul_succ, Nat.add_sub_cancel]
      rw [List.flatMap_cons, lefld, skip, ← lefld, ih, List.getD_cons_succ]

theorem getD_append_replicate (rows : List Nat) (k i : Nat) : (rows ++ List.replicate k 0).getD i 0 = rows.getD i 0 := by
  rw [List.getD_eq_getElem?_getD, List.getD_eq_getElem?_getD]
  rcases Nat.lt_or_ge i rows.length with h | h
  · rw [List.getElem?_append_left h]
  · rw [List.getElem?_append_right h, List.getElem?_eq_none h, List.getElem?_replicate]
    split <;> rfl

/-- Row i of a padded record: the row where there is one, 0 past them. -/
theorem lefld_padTo_flatMap_leBytes (n k : Nat) (rows : List Nat) (i : Nat) :
    lefld (padTo (rows.flatMap (leBytes n)) (n * k)) (n * i) n = rows.getD i 0 % 256 ^ n := by
  rw [padTo_flatMap_leBytes, lefld_flatMap_leBytes, getD_append_replicate]

/-! The rows of a tree. -/

/-- The row of a node that becomes node i, the rows of the nodes before it being r. -/
def ancestryRow (r : List Nat) (n : Node) (i : Nat) : Nat := (if n.parent = 0xFF then 0 else r.getD n.parent 0) + 2 ^ i

/-- The rows r of the nodes before, with the rows of the nodes of l after them. -/
def ancestryFrom (r : List Nat) : List Node → List Nat
  | [] => r
  | n :: l => ancestryFrom (r ++ [ancestryRow r n r.length]) l

theorem foldl_eq_ancestryFrom (r : List Nat) (l : List Node) :
    l.foldl (fun (r : List Nat) n => r ++ [(if n.parent = 0xFF then 0 else r.getD n.parent 0) + 2 ^ r.length]) r = ancestryFrom r l := by
  induction l generalizing r with
  | nil => rfl
  | cons n l ih => exact ih _

theorem ancestry_eq_ancestryFrom (l : List Node) : ancestry l = ancestryFrom [] l := foldl_eq_ancestryFrom [] l

theorem ancestryFrom_length (r : List Nat) (l : List Node) : (ancestryFrom r l).length = r.length + l.length := by
  induction l generalizing r with
  | nil => rfl
  | cons n l ih =>
    rw [ancestryFrom, ih, List.length_append, List.length_singleton, List.length_cons]
    omega

/-- Rows of later nodes leave the rows before them as they are. -/
theorem ancestryFrom_getD_of_lt {r : List Nat} {i : Nat} (hi : i < r.length) (l : List Node) : (ancestryFrom r l).getD i 0 = r.getD i 0 := by
  induction l generalizing r with
  | nil => rfl
  | cons n l ih =>
    rw [ancestryFrom, ih (by rw [List.length_append]; omega), List.getD_eq_getElem?_getD, List.getElem?_append_left hi,
      ← List.getD_eq_getElem?_getD]

theorem ancestryRow_ancestryFrom {r : List Nat} {n : Node} (h : n.parent = 0xFF ∨ n.parent < r.length) (l : List Node) (i : Nat) :
    ancestryRow (ancestryFrom r l) n i = ancestryRow r n i := by
  rw [ancestryRow, ancestryRow]
  rcases h with h | h
  · rw [if_pos h, if_pos h]
  · rw [ancestryFrom_getD_of_lt h]

/-- The row of node i of l is its parent's row among all the rows, with the node's own bit added. -/
theorem ancestryFrom_getD {l : List Node} {i : Nat} {n : Node} (hn : l[i]? = some n) (r : List Nat)
    (hp : n.parent = 0xFF ∨ n.parent < r.length + i) :
    (ancestryFrom r l).getD (r.length + i) 0 = ancestryRow (ancestryFrom r l) n (r.length + i) := by
  induction l generalizing r i with
  | nil => cases hn
  | cons m l ih =>
    have hr : (r ++ [ancestryRow r m r.length]).length = r.length + 1 := by rw [List.length_append, List.length_singleton]
    cases i with
    | zero =>
      obtain rfl : m = n := Option.some.inj hn
      rw [ancestryRow_ancestryFrom hp, ancestryFrom, ancestryFrom_getD_of_lt (by omega), List.getD_eq_getElem?_getD, Nat.add_zero,
        List.getElem?_concat_length]
      rfl
    | succ i =>
      have later := ih hn (r ++ [ancestryRow r m r.length]) (hp.imp_right fun h => by omega)
      rwa [hr, Nat.add_assoc, Nat.add_comm 1 i] at later

theorem ancestry_length (l : List Node) : (ancestry l).length = l.length := by
  rw [ancestry_eq_ancestryFrom, ancestryFrom_length, List.length_nil, Nat.zero_add]

/-- Each node's parent is the root or an earlier node. -/
def ParentsFirst (l : List Node) : Prop := ∀ i (n : Node), l[i]? = some n → n.parent = 0xFF ∨ n.parent < i

/-- Each row is its parent's row in the finished mask, with the node's own bit added. -/
theorem ancestry_getD {l : List Node} (hl : ParentsFirst l) {i : Nat} {n : Node} (hn : l[i]? = some n) :
    (ancestry l).getD i 0 = ancestryRow (ancestry l) n i := by
  have first : ([] : List Nat).length + i = i := by rw [List.length_nil, Nat.zero_add]
  have row := ancestryFrom_getD hn [] (by rw [first]; exact hl i n hn)
  rwa [first, ← ancestry_eq_ancestryFrom] at row

/-- A row past the nodes is 0. -/
theorem ancestry_getD_of_length_le {l : List Node} {i : Nat} (h : l.length ≤ i) : (ancestry l).getD i 0 = 0 := by
  rw [List.getD_eq_getElem?_getD, List.getElem?_eq_none (by rwa [ancestry_length])]
  rfl

/-- A row holds no bit above its own node's. -/
theorem ancestry_getD_lt {l : List Node} (hl : ParentsFirst l) (i : Nat) : (ancestry l).getD i 0 < 2 ^ (i + 1) := by
  induction i using Nat.strongRecOn with
  | _ i ih =>
    cases hn : l[i]? with
    | none =>
      rw [ancestry_getD_of_length_le (List.getElem?_eq_none_iff.1 hn)]
      exact Nat.two_pow_pos _
    | some n =>
      have pos : 0 < 2 ^ i := Nat.two_pow_pos i
      rw [ancestry_getD hl hn, ancestryRow, Nat.pow_succ]
      split
      next => omega
      next hp =>
        have lt : n.parent < i := (hl i n hn).resolve_left hp
        have bound : (ancestry l).getD n.parent 0 < 2 ^ i := Nat.lt_of_lt_of_le (ih _ lt) (Nat.pow_le_pow_right (by decide) lt)
        omega

theorem ancestry_getD_lt_of_lt {l : List Node} (hl : ParentsFirst l) {i j : Nat} (h : i < j) : (ancestry l).getD i 0 < 2 ^ j :=
  Nat.lt_of_lt_of_le (ancestry_getD_lt hl i) (Nat.pow_le_pow_right (by decide) h)

/-- The ancestors of a node are its parent and the parent's ancestors; the root is none. -/
theorem ancestor_iff {l : List Node} {i : Nat} {n : Node} (hn : l[i]? = some n) (j : Nat) :
    Ancestor l j i ↔ n.parent ≠ 0xFF ∧ (j = n.parent ∨ Ancestor l j n.parent) := by
  constructor
  · rintro (⟨h, hp⟩ | ⟨h, hp, ha⟩) <;> obtain rfl := Option.some.inj (hn.symm.trans h)
    · exact ⟨hp, .inl rfl⟩
    · exact ⟨hp, .inr ha⟩
  · rintro ⟨hp, rfl | ha⟩
    · exact .parent hn hp
    · exact .above hn hp ha

theorem testBit_add_two_pow_of_lt {r i : Nat} (h : r < 2 ^ i) (j : Nat) : (r + 2 ^ i).testBit j = true ↔ j = i ∨ r.testBit j = true := by
  have e : r + 2 ^ i = 2 ^ i * 1 ||| r := by rw [← Nat.two_pow_add_eq_or_of_lt h, Nat.mul_one, Nat.add_comm]
  rw [e, Nat.mul_one, Nat.testBit_or, Nat.testBit_two_pow, Bool.or_eq_true, decide_eq_true_iff, eq_comm]

/-- Bit j of row i is set exactly for the node itself and its ancestors (R217). -/
theorem ancestry_testBit {l : List Node} (hl : ParentsFirst l) {i : Nat} (hi : i < l.length) (j : Nat) :
    ((ancestry l).getD i 0).testBit j = true ↔ j = i ∨ Ancestor l j i := by
  induction i using Nat.strongRecOn with
  | _ i ih =>
    have hn : l[i]? = some l[i] := List.getElem?_eq_getElem hi
    rw [ancestry_getD hl hn, ancestryRow, ancestor_iff hn]
    split
    next hp =>
      rw [testBit_add_two_pow_of_lt (Nat.two_pow_pos i)]
      simp only [Nat.zero_testBit, Bool.false_eq_true, hp, ne_eq, not_true_eq_false, false_and]
    next hp =>
      have lt : l[i].parent < i := (hl i _ hn).resolve_left hp
      rw [testBit_add_two_pow_of_lt (ancestry_getD_lt_of_lt hl lt), ih _ lt (Nat.lt_trans lt hi)]
      simp only [ne_eq, hp, not_false_eq_true, true_and]

/-- Settles O59: the mask's bytes are read back as the rows of the tree, whose bits the induction on the node's number gives. -/
theorem ancestryMask : Obligations.AncestryMask := by
  intro l hlen hl
  have fits : ((ancestry l).flatMap (leBytes 2)).length ≤ 32 := by
    rw [length_flatMap_leBytes, ancestry_length]
    omega
  refine ⟨padTo_length fits, fun i j _ hj => ?_⟩
  have row : lefld (padTo ((ancestry l).flatMap (leBytes 2)) 32) (2 * i) 2 = (ancestry l).getD i 0 % 2 ^ 16 :=
    lefld_padTo_flatMap_leBytes 2 16 (ancestry l) i
  rw [row, Nat.testBit_mod_two_pow, decide_eq_true hj, Bool.true_and]
  rcases Nat.lt_or_ge i l.length with hil | hil
  · refine ⟨by rw [ancestry_testBit hl hil, and_iff_right hil], fun h => ?_⟩
    exact Nat.testBit_lt_two_pow (ancestry_getD_lt_of_lt hl (by omega))
  · rw [ancestry_getD_of_length_le hil, Nat.zero_testBit]
    exact ⟨⟨fun h => absurd h Bool.false_ne_true, fun h => absurd h.1 (Nat.not_lt.2 hil)⟩, fun _ => rfl⟩

end Sys2Proof.Machine
end

section
/-! PROOF. How an executor issues an instruction (R341): its encoding is checked before its guard, and its guard before its class. -/
namespace Sys2Proof.Machine
open Sys2Proof

theorem guardOn_eq_bne (e : Exec) (w : NsiBody) : guardOn e w = (e.rp (nf w 11 3) != (nf w 14 1 == 1)) := rfl

/-- p0 reads 1 (R339), so the guard of PG 0 and PN 0 is on. -/
theorem guardOn_of_pg_zero (e : Exec) {w : NsiBody} (hg : nf w 11 3 = 0) (hn : nf w 14 1 = 0) : guardOn e w = true := by
  rw [guardOn_eq_bne, hg, hn]
  rfl

section
variable {b : Block} {x : ExecId} {w : NsiBody} (hrun : b.run? = true) (hready : (b.ex x).ready = true)
  (hkernel : ((b.ex x).item.isSome && (b.ex x).code == 0) = false) (has : Bool) (run : Exec → Block)
include hrun hready hkernel

theorem issue_bad_encoding : b.issue x w false has run = b.raise x w 1 0 := by
  simp only [Block.issue, hrun, hready, hkernel, Bool.not_true, Bool.not_false, Bool.or_self, Bool.false_eq_true, if_false, if_true]

theorem issue_good_encoding : b.issue x w true has run =
    if guardOn (b.ex x) w then (if has then run (b.ex x) else b.raise x w 1 0)
    else b.setEx x { b.ex x with pc := (b.ex x).pc + nfLen w } := by
  simp only [Block.issue, hrun, hready, hkernel, Bool.not_true, Bool.or_self, Bool.false_eq_true, if_false]
  cases guardOn (b.ex x) w <;> cases has <;> rfl

end

/-- Settles O18: the checks of an issue in their order, and p0 for the guard that is always on. -/
theorem guardsAndEncodings : Obligations.GuardsAndEncodings := by
  intro b x w enc has run hrun hready hkernel
  dsimp only
  rw [← guardOn_eq_bne]
  have good := issue_good_encoding (w := w) hrun hready hkernel has run
  refine ⟨?_, ?_, ?_, ?_, guardOn_of_pg_zero _⟩
  · rintro rfl
    exact issue_bad_encoding hrun hready hkernel has run
  · rintro rfl hoff
    rw [good, hoff, if_neg Bool.false_ne_true]
  · rintro rfl hon rfl
    rw [good, if_pos hon, if_pos rfl]
  · rintro rfl hon rfl
    rw [good, if_pos hon, if_neg Bool.false_ne_true]

end Sys2Proof.Machine
end

section
/-! PROOF. Exceptions of a sequencer (R346): TICK_SEQ_STATn notes each one; the first goes to the handler, and one in the handler restarts the
sequencer, which halts only past HALT_MAX (R347). -/
namespace Sys2Proof.Machine
open Sys2Proof

@[simp] theorem Block.ex_setEx (b : Block) (x : ExecId) (e : Exec) : (b.setEx x e).ex x = e := tgetD_tset_same _ _ _ _

@[simp] theorem Block.seqState_ex (b : Block) (n st : Nat) (x : ExecId) : (b.seqState n st).ex x = b.ex x := rfl

/-! The status words of the sequencers stand between TICK_SEQ_CTRL and TICK_SEQ_EVT (R371). -/

theorem seqCtrl_lt_seqStat (n : Fin 8) : F.TICK_SEQ_CTRL_HALT_MAX.off < (F.TICK_SEQ_STAT_STATE.at n).off := by
  change 0x0160 < 0x0170 + 8 * n.val
  omega

theorem seqStat_lt_seqEvt (n : Fin 8) : (F.TICK_SEQ_STAT_STATE.at n).off < F.TICK_SEQ_EVT_TRAP.off := by
  change 0x0170 + 8 * n.val < 0x01B0
  omega

theorem seqRestarts_field (n : Fin 8) :
    32 ≤ (F.TICK_SEQ_STAT_RESTARTS.at n).lo ∧ (F.TICK_SEQ_STAT_RESTARTS.at n).lo + (F.TICK_SEQ_STAT_RESTARTS.at n).wid ≤ 48 := by
  change 32 ≤ 32 ∧ 32 + 16 ≤ 48
  decide

theorem seqRestarts_fits (n : Fin 8) : (F.TICK_SEQ_STAT_RESTARTS.at n).lo + (F.TICK_SEQ_STAT_RESTARTS.at n).wid ≤ 64 :=
  Nat.le_trans (seqRestarts_field n).2 (by decide)

/-! What raising a counter or an event leaves. -/

theorem fget_count_off (b : Block) (f : Fld) {g : Fld} (k : Nat) (h : g.off ≠ f.off) : (b.count f k).fget g = b.fget g :=
  Block.fget_fset_off b f g _ h

theorem fget_evt_off (b : Block) (f : Fld) {g : Fld} (x : Nat) (h : g.off ≠ f.off) : (b.evt f x).fget g = b.fget g :=
  Block.fget_fset_off b f g _ h

/-- A counter raised by one stops at its field's highest value (R520). -/
theorem fget_count_same (b : Block) (f : Fld) (hf : f.lo + f.wid ≤ 64) : (b.count f).fget f = min (b.fget f + 1) (2 ^ f.wid - 1) := by
  rw [Block.count, fget_fset_same _ _ _ hf]
  exact Nat.mod_eq_of_lt (Nat.lt_of_le_of_lt (Nat.min_le_right _ _) (Nat.sub_one_lt (Nat.ne_of_gt (Nat.two_pow_pos _))))

/-- An event's bit reads 1 once raised. -/
theorem fget_evt_testBit (b : Block) (f : Fld) {i : Nat} (hf : f.lo + f.wid ≤ 64) (hi : i < f.wid) :
    ((b.evt f (2 ^ i)).fget f).testBit i = true := by
  rw [Block.evt, fget_fset_same _ _ _ hf, Nat.testBit_mod_two_pow, Nat.testBit_or, Nat.testBit_two_pow_self, Bool.or_true, decide_eq_true hi]
  rfl

/-! A report leaves the executors, the compute plane and the sequencers' registers, and sets the unit's cause bit at both ports. -/

theorem report_ex (b : Block) (unit code detail : Nat) (x : ExecId) : (b.report unit code detail).ex x = b.ex x := by
  obtain ⟨hexecs, -⟩ := report_quiet b unit code detail
  rw [Block.ex, hexecs, Block.ex]

theorem report_cp (b : Block) (unit code detail : Nat) : (b.report unit code detail).cp = b.cp := by
  obtain ⟨-, hcp, -⟩ := report_quiet b unit code detail
  exact hcp

/-- The registers a report writes are those of its own ring, of failed remote operations, and the two cause registers. -/
theorem report_fget (b : Block) (unit code detail : Nat) {f : Fld}
    (h : f.off ∉ [F.LNK_RM_EVT_CODE.off, F.LNK_RM_CNT_A_FAR.off, F.LNK_RM_CNT_B_TIMEOUT.off, F.MGT_RPT_SEQ_SEQ.off, F.MGT_CNT_RPT_LOST.off]) :
    (b.report unit code detail).fget f = ((b.evt F.MGT_CAUSE_A_CAUSE (2 ^ unit)).evt F.MGT_CAUSE_B_CAUSE (2 ^ unit)).fget f := by
  obtain ⟨-, -, -, -, -, -, -, -, hfget⟩ := report_quiet b unit code detail
  exact hfget f (fun m => h (List.mem_append_left [_, _] m)) (fun m => h (List.mem_append_right [_, _, _] m))

/-- The tick registers, as every register below those of remote operations, read as before a report. -/
theorem report_fget_of_lt (b : Block) (unit code detail : Nat) {f : Fld} (h : f.off < F.LNK_RM_EVT_CODE.off) :
    (b.report unit code detail).fget f = b.fget f := by
  have above : ∀ o ∈ [F.LNK_RM_EVT_CODE.off, F.LNK_RM_CNT_A_FAR.off, F.LNK_RM_CNT_B_TIMEOUT.off, F.MGT_RPT_SEQ_SEQ.off,
      F.MGT_CNT_RPT_LOST.off], F.LNK_RM_EVT_CODE.off ≤ o := by decide
  rw [report_fget _ _ _ _ (fun hm => Nat.not_le.2 h (above _ hm)), fget_evt_off _ _ _ (Nat.ne_of_lt (Nat.lt_trans h (by decide))),
    fget_evt_off _ _ _ (Nat.ne_of_lt (Nat.lt_trans h (by decide)))]

theorem report_cause_a (b : Block) {unit : Nat} (code detail : Nat) (h : unit < 20) :
    ((b.report unit code detail).fget F.MGT_CAUSE_A_CAUSE).testBit unit = true := by
  rw [report_fget _ _ _ _ (by decide), fget_evt_off _ _ _ (by decide)]
  exact fget_evt_testBit b _ (by decide) h

theorem report_cause_b (b : Block) {unit : Nat} (code detail : Nat) (h : unit < 20) :
    ((b.report unit code detail).fget F.MGT_CAUSE_B_CAUSE).testBit unit = true := by
  rw [report_fget _ _ _ _ (by decide)]
  exact fget_evt_testBit _ _ (by decide) h

/-! An exception past the first tick boundary. -/

/-- TICK_SEQ_STATn and the trap event as an exception leaves them, whatever the sequencer does next. -/
def Block.noteTrap (b : Block) (n : Fin 8) (code : Nat) : Block :=
  (((b.count (F.TICK_SEQ_STAT_TRAPS.at n)).evt F.TICK_SEQ_EVT_TRAP (2 ^ n.val)).fset (F.TICK_SEQ_STAT_CAUSE.at n) code).fset
    (F.TICK_SEQ_STAT_EPC.at n) (b.ex (.seq n)).pc

theorem raise_seq (b : Block) (n : Fin 8) (w : NsiBody) (code info : Nat) (ht : b.clk.ticking = true) :
    b.raise (.seq n) w code info =
      if (b.ex (.seq n)).trap then (b.noteTrap n code).seqRestart n
      else ((b.noteTrap n code).setEx (.seq n) { b.ex (.seq n) with
        cause := code, epc := (b.ex (.seq n)).pc, einfo := info, trap := true,
        resume := (b.ex (.seq n)).pc + nfLen w, pc := 0x100 }).seqState n 1 := by
  have on : (b.noteTrap n code).clk.ticking = true := ht
  unfold Block.raise
  dsimp only
  rw [← Block.noteTrap, on]
  rfl

@[simp] theorem noteTrap_ex (b : Block) (n : Fin 8) (code : Nat) (x : ExecId) : (b.noteTrap n code).ex x = b.ex x := rfl

@[simp] theorem noteTrap_cp (b : Block) (n : Fin 8) (code : Nat) : (b.noteTrap n code).cp = b.cp := rfl

/-- Noting an exception writes CAUSE, EPC and TRAPS of the sequencer's status word, and the event register. -/
theorem noteTrap_fget (b : Block) (n : Fin 8) (code : Nat) {g : Fld} (hg : g.lo + g.wid ≤ 64) (hevt : g.off ≠ F.TICK_SEQ_EVT_TRAP.off)
    (hstat : g.off = (F.TICK_SEQ_STAT_STATE.at n).off → 32 ≤ g.lo ∧ g.lo + g.wid ≤ 48) : (b.noteTrap n code).fget g = b.fget g := by
  have below : (F.TICK_SEQ_STAT_CAUSE.at n).lo + (F.TICK_SEQ_STAT_CAUSE.at n).wid ≤ 32 := by
    change 8 + 8 ≤ 32
    decide
  rw [Block.noteTrap, fget_fset_other _ (F.TICK_SEQ_STAT_EPC.at n) _ _ hg (fun h => .inr (hstat h).1),
    fget_fset_other _ (F.TICK_SEQ_STAT_CAUSE.at n) _ _ hg (fun h => .inr (Nat.le_trans below (hstat h).1)),
    fget_evt_off _ _ _ hevt, Block.count,
    fget_fset_other _ (F.TICK_SEQ_STAT_TRAPS.at n) _ _ hg (fun h => .inl (hstat h).2)]

theorem noteTrap_fget_haltMax (b : Block) (n : Fin 8) (code : Nat) :
    (b.noteTrap n code).fget F.TICK_SEQ_CTRL_HALT_MAX = b.fget F.TICK_SEQ_CTRL_HALT_MAX :=
  noteTrap_fget b n code (by decide) (by decide) (fun h => absurd h (Nat.ne_of_lt (seqCtrl_lt_seqStat n)))

theorem noteTrap_fget_restarts (b : Block) (n : Fin 8) (code : Nat) :
    (b.noteTrap n code).fget (F.TICK_SEQ_STAT_RESTARTS.at n) = b.fget (F.TICK_SEQ_STAT_RESTARTS.at n) :=
  noteTrap_fget b n code (seqRestarts_fits n) (Nat.ne_of_lt (seqStat_lt_seqEvt n)) (fun _ => seqRestarts_field n)

/-! A restart. -/

/-- The block with a sequencer restarted, its status word and the event set, and nothing reported yet. -/
def Block.seqCleared (b : Block) (n : Fin 8) : Block :=
  let e := b.ex (.seq n)
  (((b.setEx (.seq n) { Exec.clear with posted := e.posted, rmErr := e.rmErr, restarts := e.restarts + 1 }).count
    (F.TICK_SEQ_STAT_RESTARTS.at n)).evt F.TICK_SEQ_EVT_RESTART (2 ^ n.val)).seqState n 0

@[simp] theorem seqCleared_ex (b : Block) (n : Fin 8) : (b.seqCleared n).ex (.seq n) =
    { Exec.clear with posted := (b.ex (.seq n)).posted, rmErr := (b.ex (.seq n)).rmErr, restarts := (b.ex (.seq n)).restarts + 1 } :=
  Block.ex_setEx b _ _

@[simp] theorem seqCleared_cp (b : Block) (n : Fin 8) : (b.seqCleared n).cp = b.cp := rfl

theorem seqCleared_fget_haltMax (b : Block) (n : Fin 8) :
    (b.seqCleared n).fget F.TICK_SEQ_CTRL_HALT_MAX = b.fget F.TICK_SEQ_CTRL_HALT_MAX := by
  have apart := Nat.ne_of_lt (seqCtrl_lt_seqStat n)
  rw [Block.seqCleared, Block.seqState, Block.fget_fset_off _ _ _ _ apart, fget_evt_off _ _ _ (by decide),
    fget_count_off _ (F.TICK_SEQ_STAT_RESTARTS.at n) _ apart]
  rfl

theorem seqCleared_fget_restarts (b : Block) (n : Fin 8) : (b.seqCleared n).fget (F.TICK_SEQ_STAT_RESTARTS.at n) =
    min (b.fget (F.TICK_SEQ_STAT_RESTARTS.at n) + 1) (2 ^ F.TICK_SEQ_STAT_RESTARTS.wid - 1) := by
  have above_state : (F.TICK_SEQ_STAT_STATE.at n).lo + (F.TICK_SEQ_STAT_STATE.at n).wid ≤ (F.TICK_SEQ_STAT_RESTARTS.at n).lo := by
    change 0 + 2 ≤ 32
    decide
  rw [Block.seqCleared, Block.seqState, fget_fset_other _ _ _ _ (seqRestarts_fits n) (fun _ => .inr above_state),
    fget_evt_off (g := F.TICK_SEQ_STAT_RESTARTS.at n) _ F.TICK_SEQ_EVT_RESTART _ (Nat.ne_of_lt (seqStat_lt_seqEvt n)),
    fget_count_same _ _ (seqRestarts_fits n)]
  rfl

/-- Within HALT_MAX a restart halts nothing (R347). -/
theorem seqRestart_within_haltMax {b : Block} {n : Fin 8} (h : (b.ex (.seq n)).restarts < b.fget F.TICK_SEQ_CTRL_HALT_MAX) :
    b.seqRestart n = (b.seqCleared n).report 0 3 n := by
  have haltMax : ((b.seqCleared n).report 0 3 n).fget F.TICK_SEQ_CTRL_HALT_MAX = b.fget F.TICK_SEQ_CTRL_HALT_MAX := by
    rw [report_fget_of_lt _ _ _ _ (by decide), seqCleared_fget_haltMax]
  refine if_neg ?_
  exact haltMax ▸ Nat.not_lt.2 h

/-- A second exception within HALT_MAX restarts the sequencer. -/
theorem raise_seq_restarts {b : Block} {n : Fin 8} (w : NsiBody) (code info : Nat) (ht : b.clk.ticking = true)
    (htrap : (b.ex (.seq n)).trap = true) (h : (b.ex (.seq n)).restarts < b.fget F.TICK_SEQ_CTRL_HALT_MAX) :
    b.raise (.seq n) w code info = ((b.noteTrap n code).seqCleared n).report 0 3 n := by
  rw [raise_seq b n w code info ht, if_pos htrap]
  exact seqRestart_within_haltMax (by rwa [noteTrap_ex, noteTrap_fget_haltMax])

theorem exec_nsiTrap (x : ExecId) (w : NsiBody) (ext : BitVec 64) (s : State) : exec (.nsiTrap x w ext) s =
    s.run (fun b => b.issue x w (scalarEnc w false true false) true (fun _ => b.raise x w 8 (sext32 (nfImm w)).toNat)) := rfl

theorem exec_nsiRft (x : ExecId) (w : NsiBody) (ext : BitVec 64) (s : State) : exec (.nsiRft x w ext) s =
    s.run (fun b => b.issue x w (scalarEnc w false false false) (isSeq x && (b.ex x).trap) (fun e =>
      (b.setEx x { e with trap := false, pc := e.resume }).seqState (xkey x) 0)) := rfl

/-- Settles O17: what `raise_seq` and `raise_seq_restarts` leave is read field by field; TRAP and RFT are issues whose effects these are. -/
theorem sequencerExceptions : Obligations.SequencerExceptions := by
  intro n w code info b ht
  refine ⟨fun htrap => ?_, fun htrap hmax => ?_, ?_, ?_⟩
  · rw [raise_seq b n w code info ht, htrap, if_neg Bool.false_ne_true, Block.seqState_ex, Block.ex_setEx]
  · rw [raise_seq_restarts w code info ht htrap hmax]
    refine ⟨?_, ?_, ?_, report_cause_a _ _ _ (by decide), report_cause_b _ _ _ (by decide)⟩
    · rw [report_ex, seqCleared_ex, noteTrap_ex]
    · rw [report_cp, seqCleared_cp, noteTrap_cp]
    · have low := Nat.lt_trans (seqStat_lt_seqEvt n) (by decide : F.TICK_SEQ_EVT_TRAP.off < F.LNK_RM_EVT_CODE.off)
      rw [report_fget_of_lt (f := F.TICK_SEQ_STAT_RESTARTS.at n) _ _ _ _ low, seqCleared_fget_restarts, noteTrap_fget_restarts]
  · rintro ext s rfl hi
    exact does_issue (exec_nsiTrap (.seq n) w ext s) hi rfl
  · rintro ext s rfl hi htrap
    exact does_issue (exec_nsiRft (.seq n) w ext s) hi htrap

end Sys2Proof.Machine
end

section
/-! PROOF. The semaphores (R421): a management port's write of SEMnn passes every test of R417 and touches no stored field, so that it is
the procedure of R421 and nothing else. -/
namespace Sys2Proof.Machine
open Sys2Proof

theorem tset_tset {α : Type} (t : Tbl α) (k : Nat) (x y : α) : tset (tset t k x) k y = tset t k y := by
  induction t with
  | nil => simp only [tset, Nat.lt_irrefl, if_false, if_true]
  | cons p r ih =>
    obtain ⟨j, z⟩ := p
    rcases Nat.lt_trichotomy k j with h | rfl | h
    · simp only [tset, h, Nat.lt_irrefl, if_false, if_true]
    · simp only [tset, Nat.lt_irrefl, if_false, if_true]
    · simp only [tset, Nat.lt_asymm h, Nat.ne_of_gt h, if_false, ih]

/-- A source sees the last response given to it. -/
theorem respond_respond (b : Block) (src : RegSrc) (st st' : Nat) (d d' : Word) :
    (b.respond src st d).respond src st' d' = b.respond src st' d' := by
  simp only [Block.respond, tset_tset]

/-! The word a semaphore command writes. -/

/-- The value an operation writes to SEMnn (R428). -/
def semCommand (op lease : Nat) : Word := wput [(F.SEM_OP, op), (F.SEM_LEASE_US, lease)]

theorem semCommand_toNat {op lease : Nat} (hop : op < 4) (hlease : lease < 2 ^ 20) : (semCommand op lease).toNat = op + lease * 16 := by
  simp only [semCommand, wput, mkWord, List.map, List.foldl, BitVec.toNat_ofNat]
  omega

theorem wfld_semCommand {op lease : Nat} (hop : op < 4) (hlease : lease < 2 ^ 20) :
    wfld (semCommand op lease) F.SEM_OP = op ∧ wfld (semCommand op lease) F.SEM_LEASE_US = lease :=
  wfld_wput 0x1100 op lease 0 2 4 20 (by decide) (by decide) hop hlease

/-! SEMnn in the register table (R428). -/

/-- The row of the register table that the semaphores are. -/
def semDesc : RDesc := ⟨0x1100, 32, none, none, [fd 0 2 .rw, fr 2 2, fd 4 20 .rw, fd 24 2 .ro, fr 26 6, fd 32 32 .ro]⟩

theorem findReg_sem (n : Fin 32) : findReg (0x1100 + 8 * n) = some semDesc := by
  revert n
  decide +kernel

theorem opFld_sem {n : Nat} (hn : n < 32) : opFld (0x1100 + 8 * n) = some (F.SEM_OP.at n) := by
  rw [opFld, if_pos (by omega), Nat.add_sub_cancel_left, Nat.mul_div_cancel_left _ (by decide)]

theorem opOf_sem {n : Nat} (hn : n < 32) (v : Word) : opOf (0x1100 + 8 * n) v = wfld v F.SEM_OP := by
  rw [opOf, opFld_sem hn]
  rfl

/-- Where the reserved fields are written 0, a write of SEMnn touches only OP and LEASE_US, which take any value. -/
theorem touched_semDesc {f : FDesc} (hf : f ∈ semDesc.fields) {v : Word} (h2 : bits v.toNat 2 2 = 0) (h26 : bits v.toNat 26 6 = 0)
    {isOp : Bool} {old : Nat} (ht : touched false f isOp old (bits v.toNat f.lo f.wid) = true) :
    f.acc = .rw ∧ f.resv = false ∧ f.bad = [] := by
  simp only [semDesc, List.mem_cons, List.not_mem_nil, or_false] at hf
  rcases hf with rfl | rfl | rfl | rfl | rfl | rfl
  · exact ⟨rfl, rfl, rfl⟩
  · simp [touched, fr, h2] at ht
  · exact ⟨rfl, rfl, rfl⟩
  · simp [touched, fd] at ht
  · simp [touched, fr, h26] at ht
  · simp [touched, fd] at ht

theorem regTest_sem (b : Block) (src : RegSrc) {n : Nat} {v : Word} (h2 : bits v.toNat 2 2 = 0) (h26 : bits v.toNat 26 6 = 0) :
    b.regTest src semDesc (0x1100 + 8 * n) v false = 0 := by
  unfold Block.regTest
  have allRo : semDesc.fields.all (fun f => f.acc == .ro) = false := rfl
  simp only [allRo]
  generalize htch : semDesc.fields.filter _ = tch
  have plain : ∀ f ∈ tch, f.acc = .rw ∧ f.resv = false ∧ f.bad = [] := by
    subst htch
    intro f hf
    obtain ⟨hmem, ht⟩ := List.mem_filter.1 hf
    exact touched_semDesc hmem h2 h26 ht
  have noGroup : tch.any (fun f => f.acc == .rwg) = false := List.any_eq_false.2 fun f hf => by simp [plain f hf]
  have noRo : tch.any (fun f => f.resv || f.acc == .ro) = false := List.any_eq_false.2 fun f hf => by simp [plain f hf]
  have noBad : tch.any (fun f => f.bad.any (fun g => decide (g.1 ≤ bits v.toNat f.lo f.wid ∧ bits v.toNat f.lo f.wid ≤ g.2))) = false :=
    List.any_eq_false.2 fun f hf => by simp [plain f hf]
  have h1008 : 0x1100 + 8 * n ≠ 0x1008 := by omega
  have h1020 : 0x1100 + 8 * n ≠ 0x1020 := by omega
  have h1028 : 0x1100 + 8 * n ≠ 0x1028 := by omega
  simp only [noGroup, noRo, noBad, h1008, h1020, h1028, semDesc, Option.toList_none, Bool.false_eq_true, if_false, ite_self, List.append_nil,
    List.any_nil, decide_false, Bool.false_and, Bool.or_self]

theorem accepts_sem {b : Block} (hrun : b.run? = true) (src : RegSrc) {n : Nat} (hn : n < 32) {v : Word} (h2 : bits v.toNat 2 2 = 0)
    (h26 : bits v.toNat 26 6 = 0) : b.accepts src (0x1100 + 8 * n) v false :=
  ⟨semDesc, findReg_sem ⟨n, hn⟩, by rw [hrun, Bool.true_or], regTest_sem b src h2 h26⟩

theorem putField_sem (b : Block) {n : Nat} (hn : n < 32) (v : Word) (f : FDesc) : b.putField (0x1100 + 8 * n) v f = b := by
  have sem : 0x1100 ≤ 0x1100 + 8 * n ∧ 0x1100 + 8 * n < 0x1200 := by omega
  simp only [Block.putField, decide_eq_true sem, Bool.or_true, if_true]

/-- A write of SEMnn that stands stores nothing: SEMnn reads what the semaphore is. -/
theorem written_sem (b : Block) (src : RegSrc) {n : Nat} (hn : n < 32) (v : Word) :
    b.written src (0x1100 + 8 * n) v = b.respond src 0 := by
  have plain : 0x1100 + 8 * n ≠ 0x03B0 := by omega
  have fields : semDesc.fields.foldl (fun c f => c.putField (0x1100 + 8 * n) v f) b = b := by
    simp only [semDesc, List.foldl_cons, List.foldl_nil, putField_sem _ hn]
  simp only [Block.written, findReg_sem ⟨n, hn⟩, fields, if_neg plain]

/-! A port's command, and the lease that expires. -/

theorem semCmd_semCommand {b : Block} (hrun : b.run? = true) {src : RegSrc} (hport : portNo src ≠ 0) {n op lease : Nat} (hn : n < 32)
    (hop : op < 4) (hop0 : op ≠ 0) (hlease : lease < 2 ^ 20) :
    b.semCmd src n (semCommand op lease) =
      if op < 3 ∧ (lease < 100 ∨ 1000000 < lease) then b.respond src 1 else (b.respond src 0).semOp src n op lease := by
  have value := semCommand_toNat hop hlease
  have h2 : bits (semCommand op lease).toNat 2 2 = 0 := by
    rw [value, bits, Nat.shiftRight_eq_div_pow]
    omega
  have h26 : bits (semCommand op lease).toNat 26 6 = 0 := by
    rw [value, bits, Nat.shiftRight_eq_div_pow]
    omega
  obtain ⟨hopf, hleasef⟩ := wfld_semCommand hop hlease
  rw [Block.semCmd, if_neg hport, regWrite_accepts (accepts_sem hrun src hn h2 h26), opOf_sem hn, hopf, if_neg hop0, written_sem b src hn,
    hleasef, respond_respond]

theorem report_clk (b : Block) (unit code detail : Nat) : (b.report unit code detail).clk = b.clk := by
  obtain ⟨-, -, hclk, -⟩ := report_quiet b unit code detail
  exact hclk

theorem semAbort_clk (b : Block) (n : Nat) : (b.semAbort n).clk = b.clk := by
  unfold Block.semAbort
  split <;> rfl

theorem semExpire_clk (b : Block) (n : Nat) : (b.semExpire n).clk = b.clk := by
  rw [Block.semExpire, report_clk, Block.count_clk, semAbort_clk, Block.setSem_clk]

/-- No time passes when an expired lease goes. -/
theorem semFresh_clk (b : Block) (n : Nat) : (b.semFresh n).clk = b.clk := by
  unfold Block.semFresh
  dsimp only
  split
  · exact semExpire_clk b n
  · rfl

theorem advance_semAt (b : Block) (t n : Nat) : (b.advance t).semAt n = b.semAt n := by
  unfold Block.advance
  split <;> rfl

/-! The procedure of R421 by its operation, the expired lease gone first. -/

theorem semOp_acquire (b : Block) (src : RegSrc) (n lease : Nat) : b.semOp src n 1 lease =
    if ((b.semFresh n).semAt n).holder = 0 ∨ ((b.semFresh n).semAt n).holder = portNo src then
      ((b.semFresh n).setSem n { holder := portNo src, expiry := b.clk.timeUs + lease, lease := lease }).respond src 0
    else ((b.semFresh n).count F.SEM_CNT_REFUSED).respond src 5 := by
  rw [← semFresh_clk b n]
  rfl

theorem semOp_renew (b : Block) (src : RegSrc) (n lease : Nat) : b.semOp src n 2 lease =
    if ((b.semFresh n).semAt n).holder = portNo src then
      ((b.semFresh n).setSem n { holder := portNo src, expiry := b.clk.timeUs + lease, lease := lease }).respond src 0
    else ((b.semFresh n).count F.SEM_CNT_REFUSED).respond src 4 := by
  rw [← semFresh_clk b n]
  rfl

theorem semOp_release (b : Block) (src : RegSrc) (n lease : Nat) : b.semOp src n 3 lease =
    if ((b.semFresh n).semAt n).holder = portNo src then
      (((b.semFresh n).setSem n { ((b.semFresh n).semAt n) with holder := 0 }).semAbort n).respond src 0
    else ((b.semFresh n).count F.SEM_CNT_REFUSED).respond src 4 := rfl

/-! The commands. -/

theorem exec_semAcquire (src : RegSrc) (n lease : Nat) (s : State) :
    exec (.semAcquire src n lease) s = s.run (fun b => b.semCmd src (n % 32) (semCommand 1 lease)) := rfl

theorem exec_semRenew (src : RegSrc) (n lease : Nat) (s : State) :
    exec (.semRenew src n lease) s = s.run (fun b => b.semCmd src (n % 32) (semCommand 2 lease)) := rfl

theorem exec_semRelease (src : RegSrc) (n : Nat) (s : State) :
    exec (.semRelease src n) s = s.run (fun b => b.semCmd src (n % 32) (semCommand 3 0)) := rfl

theorem exec_semLeaseExpire (n : Nat) (s : State) : exec (.semLeaseExpire n) s = s.run (fun b =>
    if (b.semAt n).holder = 0 then b else ((b.advance (b.semAt n).expiry).semExpire n).settled) := rfl

/-- A command that writes SEMnn is the procedure of R421, unless it acquires or renews with a lease out of range. -/
theorem does_semCommand {c : Instr} {s : State} {src : RegSrc} {n op lease : Nat}
    (hexec : exec c s = s.run (fun b => b.semCmd src (n % 32) (semCommand op lease))) (halive : s.blk.alive = true)
    (hrun : s.blk.run? = true) (hport : portNo src ≠ 0) (hn : n < 32) (hop : op < 4) (hop0 : op ≠ 0) (hlease : lease < 2 ^ 20) :
    Does c s (if op < 3 ∧ (lease < 100 ∨ 1000000 < lease) then s.blk.respond src 1 else (s.blk.respond src 0).semOp src n op lease) := by
  have h := does_run hexec halive
  rwa [Nat.mod_eq_of_lt hn, semCmd_semCommand hrun hport hn hop hop0 hlease] at h

/-- Settles O49: a port's command is the procedure of R421, read off operation by operation; the lease that expires is one change of the block. -/
theorem semaphoreProcedure : Obligations.SemaphoreProcedure := by
  intro s src n lease halive hrun hn hsrc
  dsimp only
  have hport : portNo src ≠ 0 := by rcases hsrc with rfl | rfl <;> decide
  have acquire := does_semCommand (exec_semAcquire src n lease s) halive hrun hport hn (by decide) (by decide)
  have renew := does_semCommand (exec_semRenew src n lease s) halive hrun hport hn (by decide) (by decide)
  have release := does_semCommand (exec_semRelease src n s) halive hrun hport hn (by decide) (by decide) (by decide)
  rw [if_neg (by decide), semOp_release] at release
  refine ⟨fun hlo hhi => ?_, fun hlease hout => ?_, fun h => ?_, fun h => ?_, fun b => ⟨rfl, rfl⟩, fun h => ?_, fun h => ?_⟩
  · have granted := acquire (by omega)
    have renewed := renew (by omega)
    rw [if_neg (by omega), semOp_acquire, Block.respond_clk] at granted
    rw [if_neg (by omega), semOp_renew, Block.respond_clk] at renewed
    refine ⟨fun h => ?_, fun h0 hp => ?_, fun h => ?_, fun h => ?_⟩
    · rwa [if_pos h] at granted
    · rwa [if_neg (not_or.2 ⟨h0, hp⟩)] at granted
    · rwa [if_pos h] at renewed
    · rwa [if_neg h] at renewed
  · have refusedAcquire := acquire hlease
    have refusedRenew := renew hlease
    rw [if_pos ⟨by decide, hout⟩] at refusedAcquire refusedRenew
    exact ⟨refusedAcquire, refusedRenew⟩
  · rwa [if_pos h] at release
  · rwa [if_neg h] at release
  · have expired := does_run (exec_semLeaseExpire n s) halive
    rwa [if_neg h, Block.semExpire, advance_semAt] at expired
  · have free := does_run (exec_semLeaseExpire n s) halive
    rwa [if_pos h] at free

end Sys2Proof.Machine
end

section
/-! PROOF. The consistency check of the THM group (R482): a list of conditions passes exactly when every one of them holds, and those of THM are the ranges of R481 and the two inequalities. -/
namespace Sys2Proof.Machine
open Sys2Proof

/-- A condition that fails is answered with its number, and numbers begin at 1. -/
theorem firstFail_eq_pass_iff (l : List (Bool × Nat)) : firstFail l = (0, 0) ↔ ∀ c ∈ l, c.1 = true := by
  have none_fails : firstFail l = (0, 0) ↔ (List.range l.length).find? (fun i => !(l.getD i (true, 0)).1) = none := by
    unfold firstFail
    split
    · next h => exact iff_of_true rfl h
    · next i h => exact iff_of_false (by simp) (by rw [h]; nofun)
  rw [none_fails, List.find?_range_eq_none, List.forall_mem_iff_forall_getElem]
  refine forall₂_congr fun i hi => ?_
  rw [List.getD_eq_getElem?_getD, List.getElem?_eq_getElem hi, Option.getD_some, Bool.not_not]

theorem within_iff {x lo hi : Nat} : within x lo hi = true ↔ lo ≤ x ∧ x ≤ hi := by
  rw [within, Bool.and_eq_true, decide_eq_true_iff, decide_eq_true_iff]

/-- Settles O60: the check is three conditions, the first of them the three ranges. -/
theorem thermalLimits : Obligations.ThermalLimits := by
  intro c
  rw [Block.checkThm, firstFail_eq_pass_iff]
  simp only [List.forall_mem_cons, List.not_mem_nil, false_imp_iff, implies_true, Bool.and_eq_true, within_iff, decide_eq_true_iff,
    and_true, and_assoc]

end Sys2Proof.Machine
end

section
/-! PROOF. The queue: every command completes and leaves the queue to the step, which takes the command at its front. -/
namespace Sys2Proof.Machine
open Sys2Proof

/-- Every command is a change of the block alone. -/
theorem exec_eq_next (c : Instr) : ∃ f : Block → Block, ∀ s, exec c s = .next { s with blk := f s.blk } := exec_always c

/-- Settles O1: a step with a command at the front is that command. -/
theorem stepRunsFront : Obligations.StepRunsFront := fun c s => step_cons { s with pending := c :: s.pending } c s.pending rfl

/-- Settles O3: a command is a change of the block, in which the queue has no part. -/
theorem everyCommandCompletes : Obligations.EveryCommandCompletes := by
  intro c s
  obtain ⟨f, hf⟩ := exec_eq_next c
  exact ⟨_, hf s, rfl⟩

/-- A step with a command waiting answers a state whose queue is the rest. -/
theorem step_takes_front {s : State} {c : Instr} {q : List Instr} (h : s.pending = c :: q) : ∃ t, step s = .next t ∧ t.pending = q := by
  rw [step_cons s c q h]
  exact everyCommandCompletes c { s with pending := q }

theorem run_succ (M : Host.Core) {k : Nat} {s t : M.State} (h : M.step s = .next t) : M.run (k + 1) s = M.run k t := by
  rw [Host.Core.run, h]

/-- A predicate that every command of a kind keeps, the queue apart, holds after a run of such commands. -/
theorem run_keeps (P : Block → Prop) (kind : Instr → Prop)
    (keeps : ∀ c s, kind c → P s.blk → ∃ b, exec c s = .next { s with blk := b } ∧ P b) (s : State) (hkind : ∀ c ∈ s.pending, kind c)
    (hP : P s.blk) : ∃ t : State, Host.Core.run core s.pending.length s = .next t ∧ t.pending = [] ∧ P t.blk := by
  generalize hq : s.pending = q at hkind
  induction q generalizing s with
  | nil => exact ⟨s, rfl, hq, hP⟩
  | cons c q ih =>
    obtain ⟨b, hb, hPb⟩ := keeps c { s with pending := q } (hkind c List.mem_cons_self) hP
    rw [← step_cons s c q hq] at hb
    rw [List.length_cons, run_succ core hb]
    exact ih _ hPb rfl (fun d hd => hkind d (List.mem_cons_of_mem _ hd))

/-- Settles O4: each step takes one command, by induction on the queue. -/
theorem queueDrains : Obligations.QueueDrains := by
  intro s
  obtain ⟨t, hrun, hnil, -⟩ := run_keeps (fun _ => True) (fun _ => True)
    (fun c s _ _ => (exec_eq_next c).elim fun _ hf => ⟨_, hf s, trivial⟩) s (fun _ _ => trivial) trivial
  exact ⟨t, hrun, hnil⟩

/-- The time base moved on by one microsecond. -/
theorem advance_one (b : Block) : b.advance (b.clk.timeUs + 1) =
    { b with clk := { b.clk with timeUs := b.clk.timeUs + 1, cycles := b.clk.cycles + b.clk.mhz } } := by
  rw [Block.advance, if_neg (Nat.not_succ_le_self _), Nat.add_sub_cancel_left, Nat.one_mul]

/-- Settles O2: an empty queue is one microsecond of the time base, in a block that has a clock. -/
theorem emptyQueueLetsTimePass : Obligations.EmptyQueueLetsTimePass := by
  intro s h
  refine ⟨_, step_nil s h, h, ?_⟩
  change s.blk.idle = _
  rw [Block.idle, advance_one]

/-! A block that does not operate. -/

theorem idle_alive (b : Block) : b.idle.alive = b.alive := by
  unfold Block.idle Block.advance
  split
  · rfl
  · split <;> rfl

/-- A step with no command changes the clock alone. -/
theorem idle_clk (b : Block) (k : Clock) : { b.idle with clk := k } = { b with clk := k } := by
  unfold Block.idle Block.advance
  split
  · rfl
  · split <;> rfl

/-- Settles O5: every command but those of reset, supply and test port is held back where the block does not operate. -/
theorem inertBlockUnchanged : Obligations.InertBlockUnchanged := by
  intro c s hdead hc
  obtain ⟨f, hf⟩ := exec_run c hc
  rw [hf, run_dead f hdead]

/-- Settles O6: with no command the clock alone moves on; a command that waits is one that the block ignores. -/
theorem inertBlockStaysInert : Obligations.InertBlockStaysInert := by
  rintro b s t ⟨hdead, heq, hq⟩ hstep
  cases hp : s.pending with
  | nil =>
    rw [step_nil s hp] at hstep
    cases hstep
    exact ⟨(idle_alive _).trans hdead, (idle_clk _ _).trans heq, hq⟩
  | cons c q =>
    rw [hp] at hq
    rw [step_cons s c q hp, inertBlockUnchanged c { s with pending := q } hdead (hq c List.mem_cons_self)] at hstep
    cases hstep
    exact ⟨hdead, heq, fun d hd => hq d (List.mem_cons_of_mem _ hd)⟩

end Sys2Proof.Machine
end

section
/-! PROOF. Reset and the loss of the core supply (R484, R513): what is left is the reset block with the key store and the Keep regions. -/
namespace Sys2Proof.Machine
open Sys2Proof

theorem exec_resetAssert (s : State) : exec .resetAssert s = s.always (fun b =>
    { ((Block.reset b.sa.key b.mem.keep).fset F.STA_STAT_STAGE 0) with
      sa := { Start.reset b.sa.key with inReset := true }, tap := b.tap, net := b.net }) := rfl

theorem exec_resetRelease (s : State) : exec .resetRelease s = s.always (fun b => if b.sa.inReset || b.sa.railLost then
    { ((Block.reset b.sa.key b.mem.keep).showKeys.fset F.STA_STAT_STAGE 1) with tap := b.tap, net := b.net } else b) := rfl

theorem exec_coreRailLoss (s : State) : exec .coreRailLoss s = s.always (fun b =>
    { ((Block.reset b.sa.key b.mem.keep).fset F.STA_STAT_STAGE 0) with sa := { Start.reset b.sa.key with railLost := true } }) := rfl

theorem effect_always {c : Instr} {s : State} {f : Block → Block} (h : exec c s = s.always f) : effect c s = f s.blk := by
  rw [effect, h, always_eq]

/-- Settles O7: a block held in reset or without supply does not operate. -/
theorem resetMakesInert : Obligations.ResetMakesInert := by
  intro s q hq
  rw [effect_always (exec_resetAssert s), effect_always (exec_coreRailLoss s)]
  exact ⟨⟨rfl, rfl, hq⟩, rfl, rfl, hq⟩

/-- Settles O8: the three commands, the release by whether the block is held in reset or without supply. -/
theorem resetsKeepKeyStoreAndKeep : Obligations.ResetsKeepKeyStoreAndKeep := by
  intro s
  refine ⟨exec_resetAssert s, fun h => ?_, fun hr hl => ?_, exec_coreRailLoss s⟩
  · rw [Does, exec_resetRelease, always_eq, if_pos (Bool.or_eq_true_iff.2 h)]
  · rw [exec_resetRelease, always_eq, if_neg (by rw [hr, hl]; exact Bool.false_ne_true)]

/-- Settles O9: what either command leaves is made of the key store, the Keep regions and the test port. -/
theorem resetForgets : Obligations.ResetForgets := by
  intro s t hkey hkeep htap hnet
  have same : effect .resetAssert s = effect .resetAssert t := by
    rw [effect_always (exec_resetAssert s), effect_always (exec_resetAssert t), hkey, hkeep, htap, hnet]
  refine ⟨same, ?_⟩
  rw [effect_always (exec_resetRelease _), effect_always (exec_resetRelease _), same]

/-- Settles O10: the reset state is a literal. -/
theorem resetState : Obligations.ResetState :=
  ⟨rfl, by decide, by decide, by decide, fun _ => rfl, rfl, rfl, rfl, rfl⟩

end Sys2Proof.Machine
end

section
/-! PROOF. The test port (R521 to R524). -/
namespace Sys2Proof.Machine
open Sys2Proof

/-- Which instruments may be read (R524): the self-test and the sequencer dump in reset only. -/
theorem tapMay_read_iff (inReset : Bool) (i : Instrument) :
    (tapMay inReset i).1 = true ↔ inReset = true ∨ i = .thermal ∨ i = .monitors ∨ i = .margin := by
  cases i <;> simp [tapMay]

theorem tapMay_selfTest_run (inReset : Bool) : (tapMay inReset .selfTest).2 = inReset := rfl

/-- What an access leaves in the network. -/
theorem tapAccess_net (b : Block) (segs : List Instrument) (run : Bool) (seen : List (Instrument × List Word)) :
    b.tapAccess segs run seen = { b with net := (b.tapAccess segs run seen).net } := rfl

theorem tapAccess_out (b : Block) (segs : List Instrument) (run : Bool) (seen : List (Instrument × List Word)) (i : Instrument) :
    i ∈ (b.tapAccess segs run seen).net.out.map (·.1) ↔ i ∈ segs ∧ (tapMay b.sa.inReset i).1 = true := by
  simp [Block.tapAccess]

theorem tapAccess_test (b : Block) {segs : List Instrument} {run : Bool} (seen : List (Instrument × List Word))
    (h : b.sa.inReset = false ∨ run = false ∨ Instrument.selfTest ∉ segs) : (b.tapAccess segs run seen).net.test = b.net.test := by
  have off : (run && segs.contains .selfTest && (tapMay b.sa.inReset .selfTest).2) = false := by
    rw [tapMay_selfTest_run]
    rcases h with h | h | h <;> simp [h]
  exact if_neg (by rw [off]; exact Bool.false_ne_true)

theorem tapAccess_dump (b : Block) (segs : List Instrument) (run : Bool) (seen : List (Instrument × List Word)) {l : List Word}
    (h : (.seqDump, l) ∈ (b.tapAccess segs run seen).net.out) : l = b.seqDump := by
  obtain ⟨i, -, hi⟩ := List.mem_map.1 h
  obtain ⟨rfl, rfl⟩ := Prod.mk.inj hi
  rfl

theorem seqDump_tapLoad (b : Block) (code : Nat) : (b.tapLoad code).seqDump = b.seqDump := rfl

/-- The data register of a code in a block held in reset (R522). -/
theorem tapDr_tapActs_reset (code : Nat) : tapDr (tapActs true code) =
    if code = 0 ∨ code = 1 then .boundary else if code = 2 then .idcode else if code = 0x10 then .network else .bypass := by
  by_cases h0 : code = 0
  · subst h0; rfl
  by_cases h1 : code = 1
  · subst h1; rfl
  by_cases h2 : code = 2
  · subst h2; rfl
  by_cases h3 : code = 3
  · subst h3; rfl
  by_cases h4 : code = 4
  · subst h4; rfl
  by_cases h16 : code = 0x10
  · subst h16; rfl
  simp [tapActs, tapDr, h0, h1, h2, h3, h4, h16]

/-- Settles O11: each command loads its code; an access is read off the four lemmas on `tapAccess`. -/
theorem testPortLoads : Obligations.TestPortLoads := by
  intro s
  refine ⟨rfl, rfl, rfl, rfl, rfl, rfl, rfl, fun segs run seen => ?_, fun hreset => ?_⟩
  · let b := s.blk.tapLoad 0x10
    refine ⟨(b.tapAccess segs run seen).net, rfl, rfl, fun i => ?_, fun h => ?_, fun l h => ?_⟩
    · rw [tapAccess_out, tapMay_read_iff]
      rfl
    · exact tapAccess_test b seen h
    · exact tapAccess_dump b segs run seen h
  · rw [Block.tapReg, hreset, tapDr_tapActs_reset]

/-- Settles O12: out of reset the codes that would drive act as BYPASS. -/
theorem testPortCannotDrive : Obligations.TestPortCannotDrive := by
  intro b hreset
  constructor
  · rw [Block.tapDrives, hreset, tapActs]
    by_cases hdrive : b.tap = 0 ∨ b.tap = 3 ∨ b.tap = 4
    · rw [if_pos hdrive]
      rfl
    · obtain ⟨h0, h3, h4⟩ : b.tap ≠ 0 ∧ b.tap ≠ 3 ∧ b.tap ≠ 4 := by simpa [not_or] using hdrive
      rw [if_neg hdrive]
      split <;> simp [h0, h3, h4]
  · rintro h
    rw [Block.tapReg, hreset, tapActs, if_pos h]
    rfl

end Sys2Proof.Machine
end

section
/-! PROOF. Exclusion by a semaphore (R421): an operation by another source grants and frees only a semaphore its own, free or expired. -/
namespace Sys2Proof.Machine
open Sys2Proof

theorem report_mgt (b : Block) (unit code detail : Nat) : (b.report unit code detail).mgt = b.mgt := by
  obtain ⟨-, -, -, -, hmgt, -⟩ := report_quiet b unit code detail
  exact hmgt

theorem semAbort_mgt (b : Block) (n : Nat) : (b.semAbort n).mgt = b.mgt := by
  unfold Block.semAbort
  split <;> rfl

theorem semAt_of_mgt {b c : Block} (h : c.mgt = b.mgt) (n : Nat) : c.semAt n = b.semAt n := by rw [Block.semAt, h, Block.semAt]

theorem semAt_respond (b : Block) (src : RegSrc) (st : Nat) (d : Word) (n : Nat) : (b.respond src st d).semAt n = b.semAt n := rfl

theorem semAt_count (b : Block) (f : Fld) (k n : Nat) : (b.count f k).semAt n = b.semAt n := rfl

theorem semAt_setSem_other (b : Block) {m n : Nat} (k : Sem) (h : n ≠ m) : (b.setSem m k).semAt n = b.semAt n := tgetD_tset_other _ _ _ h

/-- An expiry of one semaphore leaves the others. -/
theorem semAt_semExpire_other (b : Block) {m n : Nat} (h : n ≠ m) : (b.semExpire m).semAt n = b.semAt n := by
  rw [Block.semExpire, semAt_of_mgt (report_mgt _ _ _ _), semAt_count, semAt_of_mgt (semAbort_mgt _ _),
    semAt_setSem_other b _ h]

/-- A write of SEMnn is refused, does nothing more than answer, or is the procedure of R421. -/
theorem semCmd_cases (b : Block) (src : RegSrc) {n : Nat} (hn : n < 32) (v : Word) (hport : portNo src ≠ 0) :
    (∃ st, b.semCmd src n v = b.respond src st) ∨ ∃ op lease, b.semCmd src n v = (b.respond src 0).semOp src n op lease := by
  have hown : (b.run? || ownRules (0x1100 + 8 * n)) = true := by
    have : 0x1000 ≤ 0x1100 + 8 * n ∧ 0x1100 + 8 * n < 0x1400 := by omega
    simp only [ownRules, decide_eq_true this, Bool.or_true, Bool.true_or]
  rw [Block.semCmd, if_neg hport]
  by_cases htest : b.regTest src semDesc (0x1100 + 8 * n) v false = 0
  · rw [regWrite_accepts ⟨semDesc, findReg_sem ⟨n, hn⟩, hown, htest⟩, written_sem b src hn]
    split
    · exact .inl ⟨0, rfl⟩
    dsimp only
    split
    · exact .inl ⟨1, respond_respond _ _ _ _ _ _⟩
    · exact .inr ⟨_, _, rfl⟩
  · exact .inl ⟨_, regWrite_refuses (findReg_sem ⟨n, hn⟩) hown htest _⟩

section
variable {b : Block} {n : Nat} (hlease : b.clk.timeUs < (b.semAt n).expiry)
include hlease

/-- A lease that lasts is not gone when an operation, on whatever semaphore, looks for expired ones. -/
theorem semAt_semFresh_held (m : Nat) : (b.semFresh m).semAt n = b.semAt n := by
  unfold Block.semFresh
  dsimp only
  split
  case isFalse => rfl
  case isTrue hexp =>
    by_cases h : n = m
    · subst h
      exact absurd hexp.2 (Nat.not_le.2 hlease)
    · exact semAt_semExpire_other b h

/-- The procedure of R421 by a source other than port A leaves what port A holds. -/
theorem semAt_semOp_held (hheld : (b.semAt n).holder = 1) {src : RegSrc} (hsrc : portNo src ≠ 1) (m op lease : Nat) : (b.semOp src m op lease).semAt n = b.semAt n := by
  have hfresh := semAt_semFresh_held hlease m
  have other (h : ((b.semFresh m).semAt m).holder = 0 ∨ ((b.semFresh m).semAt m).holder = portNo src) : n ≠ m := by
    rintro rfl
    rw [hfresh, hheld] at h
    exact h.elim (by decide) (fun e => hsrc e.symm)
  have refused (st : Nat) : ((b.semFresh m).semRefuse src st).semAt n = b.semAt n := hfresh
  have granted (k : Sem) (h : n ≠ m) : (((b.semFresh m).setSem m k).respond src 0).semAt n = b.semAt n :=
    (semAt_setSem_other _ k h).trans hfresh
  unfold Block.semOp
  dsimp only
  split
  · split
    · next h => exact granted _ (other h)
    · exact refused 5
  · split
    · next h => exact granted _ (other (.inr h))
    · exact refused 4
  · split
    · next h =>
      rw [semAt_respond, semAt_of_mgt (semAbort_mgt _ _), semAt_setSem_other _ _ (other (.inr h)), hfresh]
    · exact refused 4

end

/-- No operation of R421 takes time. -/
theorem semOp_clk (b : Block) (src : RegSrc) (n op lease : Nat) : (b.semOp src n op lease).clk = b.clk := by
  have hfresh := semFresh_clk b n
  unfold Block.semOp
  dsimp only
  split
  · split <;> exact hfresh
  · split <;> exact hfresh
  · split
    · rw [Block.respond_clk, semAbort_clk, Block.setSem_clk, hfresh]
    · exact hfresh

/-- A source other than port A that writes SEMnn leaves what port A holds, and the time. -/
theorem semCmd_keeps_held {b : Block} {n : Nat} (hheld : (b.semAt n).holder = 1) (hlease : b.clk.timeUs < (b.semAt n).expiry)
    {src : RegSrc} (hsrc : portNo src ≠ 1) {m : Nat} (hm : m < 32) (v : Word) :
    (b.semCmd src m v).semAt n = b.semAt n ∧ (b.semCmd src m v).clk = b.clk := by
  by_cases hport : portNo src = 0
  · rw [Block.semCmd, if_pos hport]
    exact ⟨rfl, rfl⟩
  · obtain ⟨st, h⟩ | ⟨op, lease, h⟩ := semCmd_cases b src hm v hport
    · rw [h]
      exact ⟨rfl, rfl⟩
    · rw [h]
      exact ⟨semAt_semOp_held (b := b.respond src 0) hlease hheld hsrc m op lease, semOp_clk _ _ _ _ _⟩

theorem portNo_ne_one {src : RegSrc} (h : src ≠ .portA) : portNo src ≠ 1 := by
  cases src
  case portA => exact absurd rfl h
  case portB => decide
  all_goals exact Nat.zero_ne_one

/-- A semaphore command of a source other than port A. -/
def Instr.semOfOther (c : Instr) : Prop :=
  ∃ src m lease, src ≠ RegSrc.portA ∧ (c = .semAcquire src m lease ∨ c = .semRenew src m lease ∨ c = .semRelease src m)

/-- Such a command is a write of SEMnn by that source. -/
theorem exec_semOfOther {c : Instr} (h : Instr.semOfOther c) :
    ∃ src m v, portNo src ≠ 1 ∧ m < 32 ∧ ∀ s, exec c s = s.run (fun b => b.semCmd src m v) := by
  obtain ⟨src, m, lease, hsrc, hc⟩ := h
  have hm : m % 32 < 32 := Nat.mod_lt _ (by decide)
  rcases hc with rfl | rfl | rfl
  · exact ⟨src, m % 32, _, portNo_ne_one hsrc, hm, exec_semAcquire src m lease⟩
  · exact ⟨src, m % 32, _, portNo_ne_one hsrc, hm, exec_semRenew src m lease⟩
  · exact ⟨src, m % 32, _, portNo_ne_one hsrc, hm, exec_semRelease src m⟩

/-- Settles O50: what port A holds and the time are kept by every such command, and so by a run of them. -/
theorem semaphoreExclusion : Obligations.SemaphoreExclusion := by
  intro s n hheld hlease hq
  have keeps (c : Instr) (u : State) (hc : Instr.semOfOther c)
      (hu : u.blk.semAt n = s.blk.semAt n ∧ u.blk.clk.timeUs = s.blk.clk.timeUs) :
      ∃ b, exec c u = .next { u with blk := b } ∧ b.semAt n = s.blk.semAt n ∧ b.clk.timeUs = s.blk.clk.timeUs := by
    obtain ⟨hsem, htime⟩ := hu
    obtain ⟨src, m, v, hsrc, hm, hexec⟩ := exec_semOfOther hc
    refine ⟨_, (hexec u).trans (run_eq _ _), ?_⟩
    split
    · obtain ⟨hkept, hclk⟩ := semCmd_keeps_held (b := u.blk) (n := n) (by rwa [hsem]) (by rwa [hsem, htime]) hsrc hm v
      exact ⟨hkept.trans hsem, by rw [hclk, htime]⟩
    · exact ⟨hsem, htime⟩
  obtain ⟨t, hrun, -, hsem, htime⟩ :=
    run_keeps (fun b => b.semAt n = s.blk.semAt n ∧ b.clk.timeUs = s.blk.clk.timeUs) Instr.semOfOther keeps s hq ⟨rfl, rfl⟩
  exact ⟨t, hrun, hsem, htime⟩

end Sys2Proof.Machine
end

section
/-! PROOF. The scalar class (R348 to R350): each instruction is an issue whose effect writes one register of its executor. -/
namespace Sys2Proof.Machine
open Sys2Proof

/-! The register files. -/

theorem Exec.ws_rs_same (e : Exec) {n : Nat} (v : Word) (h : n ≠ 0) : (e.ws n v).rs n = v := by
  rw [Exec.ws, if_neg h, Exec.rs, if_neg h]
  exact tgetD_tset_same _ _ _ _

theorem Exec.ws_rs_other (e : Exec) {n m : Nat} (v : Word) (hn : n ≠ 0) (hm : m ≠ n) : (e.ws n v).rs m = e.rs m := by
  rw [Exec.ws, if_neg hn, Exec.rs, Exec.rs]
  split
  · rfl
  · exact tgetD_tset_other _ _ _ hm

/-- Settles O19: s0 and p0 are fixed, and a table entry set is read back. -/
theorem hardwiredRegisters : Obligations.HardwiredRegisters := fun e v _ =>
  ⟨rfl, rfl, rfl, rfl, fun _ _ hn => ⟨e.ws_rs_same v hn, e.ws_rs_other v hn⟩⟩

/-! The shapes of the class. -/

section
variable {c : Instr} {s : State} {x : ExecId} {w : NsiBody} {ext : BitVec 64}

theorem does_alu_imm {iOnly xOk immOk : Bool} {f : Word → Word → Word} (h : exec c s = s.run (fun b => b.alu x w ext iOnly xOk immOk f))
    (hi : Issues s.blk x w (scalarEnc w xOk iOnly false && immOk)) :
    Does c s (s.blk.done x w ((s.blk.ex x).ws (nfRD w) (f ((s.blk.ex x).rs (nfRA w)) (nfOp2 (s.blk.ex x) w ext)))) :=
  does_issue (has := fun _ => true) h hi rfl

theorem does_alu {iOnly xOk : Bool} {f : Word → Word → Word} (h : exec c s = s.run (fun b => b.alu x w ext iOnly xOk true f))
    (hi : Issues s.blk x w (scalarEnc w xOk iOnly false)) :
    Does c s (s.blk.done x w ((s.blk.ex x).ws (nfRD w) (f ((s.blk.ex x).rs (nfRA w)) (nfOp2 (s.blk.ex x) w ext)))) :=
  does_alu_imm h (by rwa [Bool.and_true])

theorem does_cmpOp {f : Word → Word → Bool} (h : exec c s = s.run (fun b => b.cmpOp x w ext f))
    (hi : Issues s.blk x w (scalarEnc w true false true)) :
    Does c s (s.blk.done x w ((s.blk.ex x).wp (nf w 15 3) (f ((s.blk.ex x).rs (nfRA w)) (nfOp2 (s.blk.ex x) w ext)))) :=
  does_issue (has := fun _ => true) h hi rfl

theorem does_predOp {f : Bool → Bool → Bool} (h : exec c s = s.run (fun b => b.predOp x w f))
    (hi : Issues s.blk x w (scalarEnc w false false true)) :
    Does c s (s.blk.done x w ((s.blk.ex x).wp (nf w 15 3) (f ((s.blk.ex x).rp (nf w 20 3)) ((s.blk.ex x).rp (nf w 25 3))))) :=
  does_issue (has := fun _ => true) h hi rfl

theorem does_nop (hi : Issues s.blk x w (scalarEnc w false false false)) : Does (.nsiNop x w ext) s (s.blk.done x w (s.blk.ex x)) :=
  does_issue (has := fun _ => true) (run := fun b e => b.done x w e) rfl hi rfl

end

/-- Settles O13: seven operations of one shape. -/
theorem scalarArithmetic : Obligations.ScalarArithmetic := fun _ _ _ _ hi =>
  ⟨does_alu (f := (· + ·)) rfl hi, does_alu (f := (· - ·)) rfl hi, does_alu (f := (· &&& ·)) rfl hi, does_alu (f := (· ||| ·)) rfl hi,
   does_alu (f := (· ^^^ ·)) rfl hi, does_alu (f := (· * ·)) rfl hi, does_alu (f := aluMulhu) rfl hi⟩

/-- A field of a word taken out is a quotient's remainder. -/
theorem aluBext_eq (a : Word) (imm : Nat) : aluBext a imm = BitVec.ofNat 64 (a.toNat / 2 ^ (imm % 64) % 2 ^ (imm / 64 % 64 + 1)) := by
  rw [aluBext, Nat.shiftRight_eq_div_pow]

/-- Settles O14: the same shape, BEXT and LI with encodings of their own. -/
theorem scalarShiftsAndExtrema : Obligations.ScalarShiftsAndExtrema := by
  intro x w ext s
  refine ⟨fun hi => ?_, fun hi => ?_, fun hi => does_alu (f := fun _ c => c) rfl hi⟩
  · exact ⟨does_alu (f := aluShl) rfl hi, does_alu (f := aluShr) rfl hi, does_alu (f := aluSra) rfl hi, does_alu (f := aluMin) rfl hi,
      does_alu (f := aluMax) rfl hi, does_alu (f := aluMinu) rfl hi, does_alu (f := aluMaxu) rfl hi⟩
  · have h := does_alu_imm (c := .nsiBext x w ext) (f := fun a _ => aluBext a (nfImm w)) rfl hi
    rwa [aluBext_eq] at h

/-- Settles O15: comparisons and predicate operations, each of one shape. -/
theorem comparesAndPredicates : Obligations.ComparesAndPredicates := fun _ _ _ _ =>
  ⟨fun hi => ⟨does_cmpOp (f := cmpEq) rfl hi, does_cmpOp (f := cmpNe) rfl hi, does_cmpOp (f := cmpLt) rfl hi, does_cmpOp (f := cmpLtu) rfl hi,
      does_cmpOp (f := cmpLe) rfl hi, does_cmpOp (f := cmpLeu) rfl hi⟩,
   fun hi => ⟨does_predOp (f := fun p q => p && q) rfl hi, does_predOp (f := fun p q => p || q) rfl hi,
      does_predOp (f := fun p _ => !p) rfl hi⟩⟩

/-! Jumps. -/

theorem storeBytes_cast (x : ExecId) (e : Exec) : (storeBytes x e : Int) = if isSeq x then 65536 else (e.code : Int) := by
  unfold storeBytes
  split <;> rfl

theorem jump_inside (b : Block) (x : ExecId) (w : NsiBody) (e : Exec) {t : Int} (h0 : 0 ≤ t) (h : t < if isSeq x then 65536 else (e.code : Int)) :
    b.jump x w e t = (b.setEx x { e with pc := t.toNat }).noteProgress e.item := by
  rw [Block.jump, if_pos ⟨h0, by rwa [storeBytes_cast]⟩]

theorem jump_outside (b : Block) (x : ExecId) (w : NsiBody) (e : Exec) {t : Int}
    (h : t < 0 ∨ (if isSeq x then 65536 else (e.code : Int)) ≤ t) : b.jump x w e t = b.raise x w 7 0 := by
  rw [Block.jump, if_neg ?_]
  rintro ⟨h0, hlt⟩
  rw [storeBytes_cast] at hlt
  omega

section
variable {x : ExecId} {w : NsiBody} (ext : BitVec 64) {s : State}

theorem does_brr (hi : Issues s.blk x w (scalarEnc w false false false)) :
    Does (.nsiBrr x w ext) s (s.blk.jump x w (s.blk.ex x) ((s.blk.ex x).rs (nfRA w)).toNat) :=
  does_issue (show exec (.nsiBrr x w ext) s = execNsiBrr x w ext s from rfl) hi rfl

theorem does_ret (hi : Issues s.blk x w (scalarEnc w false false false)) :
    Does (.nsiRet x w ext) s (s.blk.jump x w (s.blk.ex x) ((s.blk.ex x).rs 31).toNat) :=
  does_issue (show exec (.nsiRet x w ext) s = execNsiRet x w ext s from rfl) hi rfl

theorem does_br (hi : Issues s.blk x w (scalarEnc w false true false)) :
    Does (.nsiBr x w ext) s (s.blk.jump x w (s.blk.ex x) (brTarget (s.blk.ex x) w)) :=
  does_issue (show exec (.nsiBr x w ext) s = execNsiBr x w ext s from rfl) hi rfl

theorem does_call (hi : Issues s.blk x w (scalarEnc w false true false)) :
    Does (.nsiCall x w ext) s (s.blk.jump x w
      { s.blk.ex x with s := tset (s.blk.ex x).s 31 (BitVec.ofNat 64 ((s.blk.ex x).pc + 8)) } (brTarget (s.blk.ex x) w)) :=
  does_issue (show exec (.nsiCall x w ext) s = execNsiCall x w ext s from rfl) hi rfl

theorem does_end (hi : Issues s.blk x w (scalarEnc w false false false)) (hx : isSeq x = false) :
    let e := s.blk.ex x
    let c := (s.blk.setEx x { e with pc := e.pc + nfLen w, halted := true }).noteProgress e.item
    Does (.nsiEnd x w ext) s (if e.item.isNone then c.dispatchItems else c) :=
  does_issue (show exec (.nsiEnd x w ext) s = execNsiEnd x w ext s from rfl) hi (by rw [hx]; rfl)

theorem does_csrr (hi : Issues s.blk x w (scalarEnc w false true false)) :
    Does (.nsiCsrr x w ext) s (match s.blk.csr x (nfImm w) with
      | some v => s.blk.done x w ((s.blk.ex x).ws (nfRD w) v)
      | none => s.blk.raise x w 1 0) :=
  does_issue (show exec (.nsiCsrr x w ext) s = execNsiCsrr x w ext s from rfl) hi rfl

theorem does_csrw (hi : Issues s.blk x w (scalarEnc w false true false)) :
    Does (.nsiCsrw x w ext) s (if 0x10 ≤ nfImm w ∧ nfImm w ≤ 0x17 then
        s.blk.done x w { s.blk.ex x with scratch := tset (s.blk.ex x).scratch (nfImm w - 0x10) ((s.blk.ex x).rs (nfRA w)) }
      else s.blk.raise x w 1 0) :=
  does_issue (show exec (.nsiCsrw x w ext) s = execNsiCsrw x w ext s from rfl) hi rfl

end

/-- Settles O16: each instruction's effect, by whether its target or its register number is in range. -/
theorem jumpsAndControl : Obligations.JumpsAndControl := by
  intro x w ext s
  dsimp only
  refine ⟨fun hi => ⟨does_nop hi, fun h => ?_, fun h => ?_, fun h => ?_, fun h => ?_, fun hx => ?_⟩,
    fun hi => ⟨fun h0 h => ⟨?_, ?_⟩, fun h => ⟨?_, ?_⟩, fun v hv => ?_, fun hn => ?_, fun hlo hhi => ?_, fun h => ?_⟩⟩
  · have hd := does_brr ext hi
    rwa [jump_inside _ _ _ _ (Int.natCast_nonneg _) h] at hd
  · have hd := does_brr ext hi
    rwa [jump_outside _ _ _ _ (.inr h)] at hd
  · have hd := does_ret ext hi
    rwa [jump_inside _ _ _ _ (Int.natCast_nonneg _) h] at hd
  · have hd := does_ret ext hi
    rwa [jump_outside _ _ _ _ (.inr h)] at hd
  · have hd := does_end ext hi hx
    simpa only [Option.isNone_iff_eq_none] using hd
  · have hd := does_br ext hi
    rw [jump_inside] at hd
    · exact hd
    · exact h0
    · exact h
  · have hd := does_call ext hi
    rw [jump_inside] at hd
    · exact hd
    · exact h0
    · exact h
  · have hd := does_br ext hi
    rw [jump_outside] at hd
    · exact hd
    · exact h
  · have hd := does_call ext hi
    rw [jump_outside] at hd
    · exact hd
    · exact h
  · have hd := does_csrr ext hi
    rwa [hv] at hd
  · have hd := does_csrr ext hi
    rwa [hn] at hd
  · have hd := does_csrw ext hi
    rwa [if_pos ⟨hlo, hhi⟩] at hd
  · have hd := does_csrw ext hi
    rwa [if_neg (by omega)] at hd

/-! The frame of a scalar instruction. -/

/-- What a scalar instruction leaves of its executor: all but the scalar registers, the predicates and the program counter. -/
structure SameFile (e f : Exec) : Prop where
  acc : f.acc = e.acc
  t : f.t = e.t
  q : f.q = e.q
  popped : f.popped = e.popped
  scratch : f.scratch = e.scratch
  item : f.item = e.item

theorem SameFile.refl (e : Exec) : SameFile e e := ⟨rfl, rfl, rfl, rfl, rfl, rfl⟩

theorem SameFile.ws (e : Exec) (n : Nat) (v : Word) : SameFile e (e.ws n v) := by
  unfold Exec.ws
  split
  · exact .refl e
  · exact ⟨rfl, rfl, rfl, rfl, rfl, rfl⟩

theorem SameFile.wp (e : Exec) (n : Nat) (v : Bool) : SameFile e (e.wp n v) := by
  unfold Exec.wp
  split
  · exact .refl e
  · exact ⟨rfl, rfl, rfl, rfl, rfl, rfl⟩

section
variable {x : ExecId} {w : NsiBody} {ext : BitVec 64} {s : State}

/-- A scalar operation is done with a scalar register or a predicate of its executor written, or nothing. -/
theorem does_scalarOps {p : Instr × Bool} (hp : p ∈ scalarOps x w ext) (hi : Issues s.blk x w p.2) :
    ∃ f, SameFile (s.blk.ex x) f ∧ Does p.1 s (s.blk.done x w f) := by
  simp only [scalarOps, List.mem_cons, List.not_mem_nil, or_false] at hp
  rcases hp with rfl | hp
  · exact ⟨_, .refl _, does_nop hi⟩
  have alu (c : Instr) (f : Word → Word → Word) (h : exec c s = s.run (fun b => b.alu x w ext false false true f))
      (hi : Issues s.blk x w (scalarEnc w false false false)) :
      ∃ f, SameFile (s.blk.ex x) f ∧ Does c s (s.blk.done x w f) := ⟨_, .ws _ _ _, does_alu h hi⟩
  have cmp (c : Instr) (f : Word → Word → Bool) (h : exec c s = s.run (fun b => b.cmpOp x w ext f))
      (hi : Issues s.blk x w (scalarEnc w true false true)) :
      ∃ f, SameFile (s.blk.ex x) f ∧ Does c s (s.blk.done x w f) := ⟨_, .wp _ _ _, does_cmpOp h hi⟩
  have pred (c : Instr) (f : Bool → Bool → Bool) (h : exec c s = s.run (fun b => b.predOp x w f))
      (hi : Issues s.blk x w (scalarEnc w false false true)) :
      ∃ f, SameFile (s.blk.ex x) f ∧ Does c s (s.blk.done x w f) := ⟨_, .wp _ _ _, does_predOp h hi⟩
  rcases hp with rfl | rfl | rfl | rfl | rfl | rfl | rfl | rfl | rfl | rfl | rfl | rfl | rfl | rfl | hp
  iterate 14 exact alu _ _ rfl hi
  rcases hp with rfl | rfl | hp
  · exact ⟨_, .ws _ _ _, does_alu_imm rfl hi⟩
  · exact ⟨_, .ws _ _ _, does_alu rfl hi⟩
  rcases hp with rfl | rfl | rfl | rfl | rfl | rfl | hp
  iterate 6 exact cmp _ _ rfl hi
  rcases hp with rfl | rfl | rfl
  all_goals exact pred _ _ rfl hi

end

theorem done_ex_same (b : Block) (x : ExecId) (w : NsiBody) (f : Exec) : (b.done x w f).ex x = { f with pc := f.pc + nfLen w } := by
  obtain ⟨hrm, -⟩ := stackOnly_noteProgress (b.setEx x { f with pc := f.pc + nfLen w }) f.item
  rw [Block.done, Block.ex, hrm]
  exact Block.ex_setEx _ _ _

theorem done_ex_other (b : Block) {x y : ExecId} (w : NsiBody) (f : Exec) (h : y ≠ x) : (b.done x w f).ex y = b.ex y := by
  obtain ⟨hrm, -⟩ := stackOnly_noteProgress (b.setEx x { f with pc := f.pc + nfLen w }) f.item
  rw [Block.done, Block.ex, hrm]
  exact tgetD_tset_other _ _ _ (fun hk => h (xkey_inj hk))

/-- Where an item's progress is noted does not depend on the executors. -/
theorem progressAt_setEx (b : Block) (x : ExecId) (f : Exec) (item : Option Nat) : (b.setEx x f).progressAt item = b.progressAt item := rfl

/-- Settles O20: a scalar operation is done with its executor's file as before but for a register, and noting progress writes stack memory. -/
theorem scalarFrame : Obligations.ScalarFrame := by
  intro x w ext s t p hp hi hexec
  obtain ⟨f, same, hdoes⟩ := does_scalarOps hp hi
  obtain rfl : { s with blk := s.blk.done x w f } = t := by
    rw [Does, hexec] at hdoes
    exact (Host.Outcome.next.inj hdoes).symm
  obtain ⟨-, hregs, hrq, hmgt, hclk, hcp, hio, hob, hst, hdie, hslices, hkeep, hstack⟩ :=
    stackOnly_noteProgress (s.blk.setEx x { f with pc := f.pc + nfLen w }) f.item
  have hx := done_ex_same s.blk x w f
  dsimp only
  rw [hx, ← same.item]
  exact ⟨fun y hy => done_ex_other s.blk w f hy, same.acc, same.t, same.q, same.popped, same.scratch, hregs, hrq, hmgt, hclk, hcp, hio, hob,
    hst, hdie, hslices, hkeep, fun hwf => (hstack hwf).2⟩

end Sys2Proof.Machine
end

section
/-! PROOF. The tile matrix and vector classes of a Pip (R351 to R355): where the tiles named are in range and came without error, the
instruction's effect is what its operation writes. -/
namespace Sys2Proof.Machine
open Sys2Proof

/-! Tile descriptors and queues. -/

/-- Settles O21: five issues, QPOP and QREL by what the queue and the popped tokens hold. -/
theorem tileQueues : Obligations.TileQueues := by
  intro x w ext s hx
  refine ⟨fun hi => ?_, fun hi => ⟨?_, ?_, fun k rest hk => ?_, fun k rest hk => ?_, fun hk => ?_⟩⟩
  · exact does_issue (show exec (.nsiTld x w ext) s = execNsiTld x w ext s from rfl) hi hx
  · exact does_issue (show exec (.nsiTmv x w ext) s = execNsiTmv x w ext s from rfl) hi hx
  · exact does_issue (show exec (.nsiAccz x w ext) s = execNsiAccz x w ext s from rfl) hi hx
  · have hd := does_issue (show exec (.nsiQpop x w ext) s = execNsiQpop x w ext s from rfl) hi hx
    rwa [hk] at hd
  · have hd := does_issue (show exec (.nsiQrel x w ext) s = execNsiQrel x w ext s from rfl) hi hx
    rwa [hk] at hd
  · have hd := does_issue (show exec (.nsiQrel x w ext) s = execNsiQrel x w ext s from rfl) hi hx
    rwa [hk] at hd

/-! Tiles that are ready. -/

section
variable {b : Block} {x : ExecId} {regs : List Nat} (h : TilesReady b x regs)
include h

theorem TilesReady.withTiles (run : Block) : b.withTiles x (b.ex x) (regs.map (b.ex x).td) run = run := by
  obtain ⟨hacq, hagain, htiles⟩ := h
  have noErr : (regs.map (b.ex x).td).any (·.2) = false := List.any_eq_false.2 fun t ht => by
    obtain ⟨n, hn, rfl⟩ := List.mem_map.1 ht
    exact Bool.not_eq_true _ ▸ (htiles n hn).1
  have ids : (regs.map (b.ex x).td).map (·.1) = regs.map (fun n => ((b.ex x).td n).1) := List.map_map
  unfold Block.withTiles
  dsimp only
  rw [ids, hacq, hagain, Bool.or_false, if_neg Bool.false_ne_true, noErr, if_neg Bool.false_ne_true]

theorem TilesReady.tdOk {n : Nat} (hn : n ∈ regs) : tdOk ((b.ex x).td n).1 = true := (h.2.2 n hn).2

theorem TilesReady.all_tdOk : regs.all (fun n => Machine.tdOk ((b.ex x).td n).1) = true := List.all_eq_true.2 fun _ hn => h.tdOk hn

end

theorem TilesReady.withTile {b : Block} {x : ExecId} {n : Nat} (h : TilesReady b x [n]) (run : Block) :
    b.withTiles x (b.ex x) [(b.ex x).td n] run = run := TilesReady.withTiles h run

/-! The matrix unit. -/

/-- MMA on operands in range, the checks that follow still to be made. -/
theorem does_mma {x : ExecId} {w : NsiBody} {s : State} (hx : isPip x = true) (hi : Issues s.blk x w (tileEnc w false)) {a c : Word}
    {ids : List Nat} {e' : Exec} (ha : tAQ w = true → tTA w < 8) (hb : tBQ w = true → tTB w < 8)
    (hops : (s.blk.ex x).mmaOps w = some ((a, false), (c, false), ids, e')) (hacq : (s.blk.ex x).acquiring = false)
    (hagain : s.blk.refetching (xkey x) ids = false) (hoka : tdOk a = true) (hokc : tdOk c = true) (ext : BitVec 64) (f : Bool) :
    Does (.nsiMma x w ext f) s (
      if mmaPair (tdFmt a) (tdFmt c) = false then s.blk.raise x w 2 0
      else if tdKblk a ≠ tdKblk c ∨ 64 < tdRows a ∨ 64 < tdRows c then s.blk.raise x w 4 0
      else if f then (s.blk.reissue x ids).fault 5 (xkey x - 100) false
      else (s.blk.pipDone x w e').mmaRun x (s.blk.ex x) a c (tACC w) (tZ w)) := by
  have hd := does_issue (show exec (.nsiMma x w ext f) s = execNsiMma x w ext f s from rfl) hi hx
  have inRange : ((tAQ w && decide (8 ≤ tTA w)) || (tBQ w && decide (8 ≤ tTB w))) = false := by
    rw [Bool.or_eq_false_iff, Bool.and_eq_false_imp, Bool.and_eq_false_imp]
    exact ⟨fun h => decide_eq_false (Nat.not_le.2 (ha h)), fun h => decide_eq_false (Nat.not_le.2 (hb h))⟩
  simpa only [inRange, hops, hacq, hagain, hoka, hokc, Bool.or_self, Bool.and_self, Bool.not_true, Bool.false_eq_true, if_false,
    Bool.not_eq_true'] using hd

/-- ACCST of a tile that is ready. -/
theorem does_accst {x : ExecId} {w : NsiBody} {s : State} (hx : isPip x = true) (hi : Issues s.blk x w (tileEnc w false))
    (ht : TilesReady s.blk x [tTD w]) (hk : tdKblk ((s.blk.ex x).td (tTD w)).1 ≤ 2) (hr : tdRows ((s.blk.ex x).td (tTD w)).1 ≤ 64) (ext : BitVec 64) :
    let e := s.blk.ex x
    let d := (e.td (tTD w)).1
    Does (.nsiAccst x w ext) s ((List.range (tdRows d)).foldl (fun b r =>
        let l := (List.range (32 * tdKblk d)).map (fun c => e.accAt (tACC w) r c)
        if tdFmt d = 0 then b.putRaw (sliceBase x) d r (l.map (·.toNat)) else b.putRow (sliceBase x) d r (l.map dec32))
      (s.blk.pipDone x w e)) := by
  have hd := does_issue (show exec (.nsiAccst x w ext) s = execNsiAccst x w ext s from rfl) hi hx
  dsimp only at hd
  have wide : ¬ (2 < tdKblk ((s.blk.ex x).td (tTD w)).1 ∨ 64 < tdRows ((s.blk.ex x).td (tTD w)).1) := by omega
  rwa [ht.withTile, ht.tdOk List.mem_cons_self, Bool.not_true, if_neg Bool.false_ne_true, if_neg wide] at hd

/-- ACCLD of a tile that is ready, in FP32 or BF16. -/
theorem does_accld {x : ExecId} {w : NsiBody} {s : State} (hx : isPip x = true) (hi : Issues s.blk x w (tileEnc w false))
    (ht : TilesReady s.blk x [tTD w]) (hk : tdKblk ((s.blk.ex x).td (tTD w)).1 ≤ 2) (hr : tdRows ((s.blk.ex x).td (tTD w)).1 ≤ 64)
    (hf : tdFmt ((s.blk.ex x).td (tTD w)).1 ≤ 1) (ext : BitVec 64) :
    let e := s.blk.ex x
    let d := (e.td (tTD w)).1
    let cells := (List.range (tdRows d)).flatMap (fun r => (List.range (32 * tdKblk d)).map (fun c => (r, c)))
    Does (.nsiAccld x w ext) s (s.blk.pipDone x w { e with acc := cells.foldl (fun t p =>
      let raw := tileRaw s.blk.mem.slices (sliceBase x) d p.1 p.2
      tset t (accKey (tACC w) p.1 p.2) (BitVec.ofNat 32 (if tdFmt d = 0 then raw else raw * 65536))) e.acc }) := by
  have hd := does_issue (show exec (.nsiAccld x w ext) s = execNsiAccld x w ext s from rfl) hi hx
  dsimp only at hd
  have wide : ¬ (2 < tdKblk ((s.blk.ex x).td (tTD w)).1 ∨ 64 < tdRows ((s.blk.ex x).td (tTD w)).1) := by omega
  rwa [ht.withTile, ht.tdOk List.mem_cons_self, Bool.not_true, if_neg Bool.false_ne_true, if_neg (Nat.not_lt.2 hf),
    if_neg wide] at hd

/-- Settles O22: each instruction's checks pass, and what is left is its effect. -/
theorem tileMatrix : Obligations.TileMatrix := by
  intro x w ext s hx hi
  refine ⟨fun a c ids e' ha hb hops hacq hagain hoka hokc hpair hk hra hrc => ?_, fun ht hk hr => ⟨does_accst hx hi ht hk hr ext, fun hf => does_accld hx hi ht hk hr hf ext⟩⟩
  have hd := does_mma hx hi ha hb hops hacq hagain hoka hokc ext false
  rwa [hpair, if_neg (by decide), if_neg (by omega), if_neg Bool.false_ne_true] at hd

/-- The format pairs of R238. -/
theorem mmaPair_iff (a c : Nat) :
    mmaPair a c = true ↔ (2 ≤ a ∧ a ≤ 6 ∧ 2 ≤ c ∧ c ≤ 6) ∨ (a = c ∧ (a = 1 ∨ a = 7 ∨ a = 8)) := by
  simp only [mmaPair, Bool.or_eq_true, Bool.and_eq_true, decide_eq_true_eq, beq_iff_eq]
  omega

/-- Settles O23: the pairs by arithmetic, and the format is the first check after the range. -/
theorem matrixFormats : Obligations.MatrixFormats := by
  refine ⟨fun a c _ _ => mmaPair_iff a c, fun x w ext s hx hi a c ids e' ha hb hops hacq hagain hoka hokc hpair f => ?_⟩
  have hd := does_mma hx hi ha hb hops hacq hagain hoka hokc ext f
  rwa [if_pos hpair] at hd

/-! The vector class. -/

section
variable {c : Instr} {s : State} {x : ExecId} {w : NsiBody}

/-- A vector instruction whose tiles are ready and pass its checks writes what its operation gives. -/
theorem does_vecOp {regs : List Nat} {fmtOk shapeOk : (Nat → Word) → Bool} {run : Block → Exec → (Nat → Word) → Block → Block}
    (h : exec c s = s.run (fun b => b.vecOp x w regs fmtOk shapeOk (run b))) (hx : isPip x = true) (hi : Issues s.blk x w (vecEnc w))
    (ht : TilesReady s.blk x regs) (hf : fmtOk (fun n => ((s.blk.ex x).td n).1) = true)
    (hs : shapeOk (fun n => ((s.blk.ex x).td n).1) = true) :
    Does c s (run s.blk (s.blk.ex x) (fun n => ((s.blk.ex x).td n).1) (s.blk.done x w { s.blk.ex x with reissue := none })) := by
  have hd := does_run h hi.alive
  rw [Block.vecOp, issue_runs hi hx] at hd
  dsimp only at hd
  rwa [ht.withTiles, ht.all_tdOk, hf, hs, Bool.not_true, if_neg Bool.false_ne_true, if_neg Bool.false_ne_true, if_neg Bool.false_ne_true] at hd

theorem isFp_eq_true {d : Word} (h : tdFmt d ≤ 1) : isFp d = true := decide_eq_true h

theorem sameShape_eq_true {a d : Word} (hr : tdRows a = tdRows d) (hk : tdKblk a = tdKblk d) : sameShape a d = true := by
  rw [sameShape, hr, hk, beq_self_eq_true, beq_self_eq_true, Bool.and_self]

theorem rowShape_eq_true {a d : Word} (hk : tdKblk a = tdKblk d) (hr : tdRows a = tdRows d ∨ tdRows d = 1) : rowShape a d = true := by
  rw [rowShape, hk, beq_self_eq_true, Bool.true_and, Bool.or_eq_true, beq_iff_eq, beq_iff_eq]
  exact hr

theorem does_vecBin {f : BitVec 32 → BitVec 32 → BitVec 32 → BitVec 32} (h : exec c s = s.run (fun b => b.vecBin x w f)) (hx : isPip x = true)
    (hi : Issues s.blk x w (vecEnc w)) (ht : TilesReady s.blk x [tTD w, tTA w, tTB w]) :
    let e := s.blk.ex x
    let m := s.blk.mem.slices
    let g := sliceBase x
    let d := (e.td (tTD w)).1
    let p := (e.td (tTA w)).1
    let q := (e.td (tTB w)).1
    tdFmt d ≤ 1 → tdFmt p ≤ 1 → tdFmt q ≤ 1 → tdRows d = tdRows p → tdKblk d = tdKblk p → tdKblk p = tdKblk q →
    (tdRows p = tdRows q ∨ tdRows q = 1) →
    Does c s ((s.blk.done x w { e with reissue := none }).vecOut x e d 0 (fun r => (List.range (32 * tdKblk d)).map (fun i =>
      f (vElem m g p r i) (vElem m g q (if tdRows q = 1 then 0 else r) i) (vElem m g d r i)))) := by
  intro e m g d p q hfd hfp hfq hrows hkblk hkpq hrpq
  refine does_vecOp (run := fun b e d c => c.vecOut x e (d (tTD w)) 0 (fun r => (List.range (32 * tdKblk (d (tTD w)))).map (fun i =>
    f (vElem b.mem.slices g (d (tTA w)) r i) (vElem b.mem.slices g (d (tTB w)) (if tdRows (d (tTB w)) = 1 then 0 else r) i)
      (vElem b.mem.slices g (d (tTD w)) r i)))) h hx hi ht ?_ ?_
  · simp only [Bool.and_eq_true]
    exact ⟨⟨isFp_eq_true hfd, isFp_eq_true hfp⟩, isFp_eq_true hfq⟩
  · rw [Bool.and_eq_true]
    exact ⟨sameShape_eq_true hrows hkblk, rowShape_eq_true hkpq hrpq⟩

theorem does_vecUn {kind : Nat} {f : BitVec 32 → BitVec 32 → BitVec 32} (h : exec c s = s.run (fun b => b.vecUn x w kind f))
    (hx : isPip x = true) (hi : Issues s.blk x w (vecEnc w)) (ht : TilesReady s.blk x [tTD w, tTA w]) :
    let e := s.blk.ex x
    let m := s.blk.mem.slices
    let d := (e.td (tTD w)).1
    let p := (e.td (tTA w)).1
    tdFmt d ≤ 1 → tdFmt p ≤ 1 → tdRows d = tdRows p → tdKblk d = tdKblk p →
    Does c s ((s.blk.done x w { e with reissue := none }).vecOut x e d kind (fun r => (List.range (32 * tdKblk d)).map (fun i =>
      f (vElem m (sliceBase x) p r i) ((e.rs (vRS w)).setWidth 32)))) := by
  intro e m d p hfd hfp hrows hkblk
  refine does_vecOp (run := fun b e d c => c.vecOut x e (d (tTD w)) kind (fun r => (List.range (32 * tdKblk (d (tTD w)))).map (fun i =>
    f (vElem b.mem.slices (sliceBase x) (d (tTA w)) r i) ((e.rs (vRS w)).setWidth 32)))) h hx hi ht ?_ ?_
  · rw [Bool.and_eq_true]
    exact ⟨isFp_eq_true hfd, isFp_eq_true hfp⟩
  · exact sameShape_eq_true hrows hkblk

end

/-- Settles O24: seven operations of one shape. -/
theorem vectorElementwise : Obligations.VectorElementwise := by
  intro x w ext s hx hi e m g d p q b out ht hfd hfp hfq hr hk hkpq hrpq
  have bin (c : Instr) (f : BitVec 32 → BitVec 32 → BitVec 32 → BitVec 32) (h : exec c s = s.run (fun b => b.vecBin x w f)) :
      Does c s (out f) := does_vecBin h hx hi ht hfd hfp hfq hr hk hkpq hrpq
  exact ⟨bin (.nsiVadd x w ext) (fun a c _ => add32 a c) rfl, bin (.nsiVsub x w ext) (fun a c _ => sub32 a c) rfl,
    bin (.nsiVmul x w ext) (fun a c _ => mul32 a c) rfl, bin (.nsiVfma x w ext) (fun a c t => fma32 a c t) rfl,
    bin (.nsiVdiv x w ext) (fun a c _ => div32 a c) rfl, bin (.nsiVmax x w ext) (fun a c _ => max32 a c) rfl,
    bin (.nsiVmin x w ext) (fun a c _ => min32 a c) rfl⟩

/-- Settles O25: nine operations of one shape. -/
theorem vectorScalarAndFunctions : Obligations.VectorScalarAndFunctions := by
  intro x w ext s hx hi e m g d p b out ht hfd hfp hr hk
  have un (c : Instr) (kind : Nat) (f : BitVec 32 → BitVec 32 → BitVec 32) (h : exec c s = s.run (fun b => b.vecUn x w kind f)) :
      Does c s (out kind f) := does_vecUn h hx hi ht hfd hfp hr hk
  exact ⟨un (.nsiVadds x w ext) 0 (fun a c => add32 a c) rfl, un (.nsiVmuls x w ext) 0 (fun a c => mul32 a c) rfl,
    un (.nsiVsqrt x w ext) 0 (fun a _ => sqrt32 a) rfl, un (.nsiVexp x w ext) 1 (fun a _ => exp32 a) rfl,
    un (.nsiVlog x w ext) 1 (fun a _ => log32 a) rfl, un (.nsiVrsqrt x w ext) 1 (fun a _ => rsqrt32 a) rfl,
    un (.nsiVtanh x w ext) 1 (fun a _ => tanh32 a) rfl, un (.nsiVsig x w ext) 1 (fun a _ => sig32 a) rfl,
    un (.nsiVerf x w ext) 1 (fun a _ => erf32 a) rfl⟩

end Sys2Proof.Machine
end

section
/-! PROOF. Reductions, conversions and copies of the vector class (R354). -/
namespace Sys2Proof.Machine
open Sys2Proof

/-- Noting progress writes stack memory alone, so an instruction done leaves the slices. -/
theorem done_slices (b : Block) (x : ExecId) (w : NsiBody) (e : Exec) : (b.done x w e).mem.slices = b.mem.slices := by
  obtain ⟨-, -, -, -, -, -, -, -, -, -, hslices, -⟩ := stackOnly_noteProgress (b.setEx x { e with pc := e.pc + nfLen w }) e.item
  exact hslices

section
variable {c : Instr} {s : State} {x : ExecId} {w : NsiBody}

/-- A reduction of rows of one tile, or of two of one shape. -/
theorem does_vecRed {two : Bool} {kind : Nat} {f : List (BitVec 32 × BitVec 32) → BitVec 32}
    (h : exec c s = s.run (fun b => b.vecRed x w two kind f)) (hx : isPip x = true) (hi : Issues s.blk x w (vecEnc w))
    (ht : TilesReady s.blk x ([tTD w, tTA w] ++ (if two then [tTB w] else []))) :
    let e := s.blk.ex x
    let m := s.blk.mem.slices
    let g := sliceBase x
    let d := (e.td (tTD w)).1
    let p := (e.td (tTA w)).1
    let q := (e.td (tTB w)).1
    tdFmt d ≤ 1 → tdFmt p ≤ 1 → (two = true → tdFmt q ≤ 1) → tdRows d = tdRows p → tdKblk d = 1 →
    (two = true → tdRows p = tdRows q ∧ tdKblk p = tdKblk q) →
    Does c s ((List.range (tdRows d)).foldl (fun b r =>
      let l := (List.range (32 * tdKblk p)).map (fun i => (vElem m g p r i, if two then vElem m g q r i else 0))
      let v := b.vecMode e kind (f l) (redTerms two l)
      v.2.putVec g d r (v.1 :: List.replicate 31 0)) (s.blk.done x w { e with reissue := none })) := by
  intro e m g d p q hfd hfp hfq hrows hkblk hpq
  refine does_vecOp (regs := [tTD w, tTA w] ++ (if two then [tTB w] else [])) (run := fun b e d c =>
    (List.range (tdRows (d (tTD w)))).foldl (fun b' r =>
      let l := (List.range (32 * tdKblk (d (tTA w)))).map (fun i =>
        (vElem b.mem.slices g (d (tTA w)) r i, if two then vElem b.mem.slices g (d (tTB w)) r i else 0))
      let p := b'.vecMode e kind (f l) (redTerms two l)
      p.2.putVec g (d (tTD w)) r (p.1 :: List.replicate 31 0)) c) h hx hi ht ?_ ?_
  · simp only [Bool.and_eq_true, Bool.or_eq_true, Bool.not_eq_true']
    exact ⟨⟨isFp_eq_true hfd, isFp_eq_true hfp⟩, two.eq_false_or_eq_true.symm.imp_right fun h => isFp_eq_true (hfq h)⟩
  · simp only [Bool.and_eq_true, Bool.or_eq_true, Bool.not_eq_true', beq_iff_eq]
    exact ⟨⟨hrows, hkblk⟩, two.eq_false_or_eq_true.symm.imp_right fun h => sameShape_eq_true (hpq h).1 (hpq h).2⟩

theorem cvtFmt_eq_true {d a : Word} (h : tdFmt d ≤ 1 ∨ tdFmt a ≤ 1) : cvtFmt d a = true := by
  simp only [cvtFmt, isFp, Bool.or_eq_true, Bool.and_eq_true, decide_eq_true_eq]
  omega

theorem exec_nsiVsum (ext : BitVec 64) : exec (.nsiVsum x w ext) s =
    s.run (fun b => b.vecRed x w false 2 (fun l => sumRed (l.map (fun p => dec32 p.1)))) := rfl

theorem exec_nsiVrmax (ext : BitVec 64) : exec (.nsiVrmax x w ext) s =
    s.run (fun b => b.vecRed x w false 0 (fun l => (l.tail.map (·.1)).foldl max32 ((l.map (·.1)).headD 0))) := rfl

theorem exec_nsiVdot (ext : BitVec 64) : exec (.nsiVdot x w ext) s =
    s.run (fun b => b.vecRed x w true 2 (fun l => sumRed (l.map (fun p => fmul (dec32 p.1) (dec32 p.2))))) := rfl

end

/-- Settles O26: three reductions of one shape; VCVT and VCOPY with the format rule of each. -/
theorem vectorReductionsAndCopies : Obligations.VectorReductionsAndCopies := by
  intro x w ext s hx hi
  refine ⟨fun ht hfd hfp hr hk => ?_, fun ht hfd hfp hfq hr hk hrpq hkpq => ?_, fun ht hr hk => ⟨fun hf => ?_, fun hf => ?_⟩⟩
  · have sum := does_vecRed (exec_nsiVsum ext) hx hi ht hfd hfp nofun hr hk nofun
    have max := does_vecRed (exec_nsiVrmax ext) hx hi ht hfd hfp nofun hr hk nofun
    exact ⟨sum, max⟩
  · have dot := does_vecRed (exec_nsiVdot ext) hx hi ht hfd hfp (fun _ => hfq) hr hk (fun _ => ⟨hrpq, hkpq⟩)
    exact dot
  · exact does_vecOp (show exec (.nsiVcvt x w ext) s = execNsiVcvt x w ext s from rfl) hx hi ht (cvtFmt_eq_true hf) (sameShape_eq_true hr hk)
  · have hd := does_vecOp (show exec (.nsiVcopy x w ext) s = execNsiVcopy x w ext s from rfl) hx hi ht (beq_iff_eq.2 hf) (sameShape_eq_true hr hk)
    rwa [done_slices] at hd

end Sys2Proof.Machine
end

section
/-! PROOF. A vector instruction and the accumulator store write no byte outside the Pip's own slice (R241, R374). -/
namespace Sys2Proof.Machine
open Sys2Proof

/-! Blocks that agree outside one slice. -/

/-- In a canonical memory m, k has the bytes of m outside the slice at g. -/
def SameOutside (g : Nat) (m k : Memory) : Prop :=
  Memory.wf m = true → Memory.wf k = true ∧ ∀ a, a < g ∨ g + 524288 ≤ a → mrd k a = mrd m a

namespace SameOutside
variable {g : Nat} {m k n : Memory}

theorem refl : SameOutside g m m := fun hw => ⟨hw, fun _ _ => rfl⟩

theorem trans (h : SameOutside g m k) (h' : SameOutside g k n) : SameOutside g m n := fun hw =>
  have ⟨hk, hread⟩ := h hw
  have ⟨hn, hread'⟩ := h' hk
  ⟨hn, fun a ha => (hread' a ha).trans (hread a ha)⟩

/-- Bytes written within the slice. -/
theorem write {a : Nat} {l : List Byte} (hlo : g ≤ a) (hhi : a + l.length ≤ g + 524288) : SameOutside g m (mwrN m a l) :=
  fun hw => ⟨mwrN_wf a l hw, fun _ hc => mrd_mwrN_other l hw (by omega)⟩

theorem foldl {α : Type} {f : Memory → α → Memory} {l : List α} (h : ∀ m, ∀ r ∈ l, SameOutside g m (f m r)) : SameOutside g m (l.foldl f m) :=
  List.foldlRecOn l f refl fun k hk r hr => hk.trans (h k r hr)

end SameOutside

/-- c has the banks and the Keep regions of b, and the slices of b but for the slice at g. -/
def KeepsOutside (g : Nat) (b c : Block) : Prop :=
  c.mem.die = b.mem.die ∧ c.mem.keep = b.mem.keep ∧ SameOutside g b.mem.slices c.mem.slices

namespace KeepsOutside
variable {g : Nat} {b c d : Block}

theorem of_eq (hs : c.mem.slices = b.mem.slices) (hd : c.mem.die = b.mem.die) (hk : c.mem.keep = b.mem.keep) : KeepsOutside g b c :=
  ⟨hd, hk, hs ▸ SameOutside.refl⟩

theorem of_mem (h : c.mem = b.mem) : KeepsOutside g b c := of_eq (by rw [h]) (by rw [h]) (by rw [h])

theorem refl : KeepsOutside g b b := of_mem rfl

theorem trans (h : KeepsOutside g b c) (k : KeepsOutside g c d) : KeepsOutside g b d := by
  obtain ⟨hd, hk, hs⟩ := h
  obtain ⟨kd, kk, ks⟩ := k
  exact ⟨kd.trans hd, kk.trans hk, hs.trans ks⟩

theorem foldl {α : Type} {f : Block → α → Block} {l : List α} (h : ∀ b, ∀ r ∈ l, KeepsOutside g b (f b r)) : KeepsOutside g b (l.foldl f b) :=
  List.foldlRecOn l f refl fun c hc r hr => hc.trans (h c r hr)

theorem done (x : ExecId) (w : NsiBody) (e : Exec) : KeepsOutside g b (b.done x w e) := by
  obtain ⟨-, -, -, -, -, -, -, -, -, hdie, hslices, hkeep, -⟩ := stackOnly_noteProgress (b.setEx x { e with pc := e.pc + nfLen w }) e.item
  exact of_eq hslices hdie hkeep

end KeepsOutside

/-! Failures and exceptions write no memory. -/

@[simp] theorem Block.setExAt_mem (b : Block) (k : Nat) (e : Exec) : (b.setExAt k e).mem = b.mem := rfl
@[simp] theorem Block.setEx_mem (b : Block) (x : ExecId) (e : Exec) : (b.setEx x e).mem = b.mem := rfl
@[simp] theorem Block.countFail_mem (b : Block) : b.countFail.mem = b.mem := rfl
@[simp] theorem Block.free_mem (b : Block) : b.free.2.mem = b.mem := rfl

@[simp] theorem Block.failDraft_mem (b : Block) : b.failDraft.mem = b.mem := by
  unfold Block.failDraft
  split
  · rfl
  · dsimp only
    split <;> rfl

@[simp] theorem Block.failItem_mem (b : Block) (k : Nat) : (b.failItem k).mem = b.mem := by
  unfold Block.failItem
  dsimp only
  split
  · rfl
  · split
    · split
      · exact b.failDraft_mem
      · rfl
    · rfl

theorem Block.raise_mem_of_isPip (b : Block) {x : ExecId} (hx : isPip x = true) (w : NsiBody) (code info : Nat) : (b.raise x w code info).mem = b.mem := by
  cases x with
  | pip c k => exact Block.failItem_mem _ _
  | _ => exact absurd hx Bool.false_ne_true

@[simp] theorem Block.modFetch_mem (b : Block) (c id : Nat) (g : Fetch → Option Fetch) : (b.modFetch c id g).mem = b.mem := by
  simp only [Block.modFetch, List.foldl_cons, List.foldl_nil]
  split <;> split <;> rfl

@[simp] theorem Block.refetch_mem (b : Block) (k : Nat) (ids : List Nat) : (b.refetch k ids).mem = b.mem := by
  unfold Block.refetch
  induction ids generalizing b with
  | nil => rfl
  | cons id ids ih =>
    rw [List.foldl_cons, ih]
    split
    · simp only [Block.count_mem, Block.modFetch_mem]
    · rfl

@[simp] theorem Block.reissue_mem (b : Block) (x : ExecId) (ids : List Nat) : (b.reissue x ids).mem = b.mem := by
  unfold Block.reissue
  dsimp only
  split <;> simp

/-! A row written is within its tile. -/

theorem groups32_length {α : Type} (k : Nat) : ∀ l : List α, l.length = 32 * k →
    (groups32 (k + 1) l).length = k ∧ ∀ g ∈ groups32 (k + 1) l, g.length = 32 := by
  induction k with
  | zero => intro l hl; simp [groups32, List.length_eq_zero_iff.1 hl]
  | succ k ih =>
    intro l hl
    have hne : l.isEmpty = false := by cases l <;> simp_all
    obtain ⟨hlen, hall⟩ := ih (l.drop 32) (by rw [List.length_drop]; omega)
    rw [groups32, hne, if_neg Bool.false_ne_true, List.length_cons, hlen]
    refine ⟨rfl, List.forall_mem_cons.2 ⟨?_, hall⟩⟩
    rw [List.length_take]
    omega

theorem mxBlock_codes_length (f : Nat) (l : List FV) : (mxBlock f l).2.1.length = l.length := by
  unfold mxBlock
  split
  · simp
  · split <;> simp

/-- The fold of `convRow` for a format with scales. -/
theorem mxFold_length (f : Nat) (gs : List (List FV)) (r : List Nat × List Nat × Nat × Nat) (hg : ∀ g ∈ gs, g.length = 32) :
    let q := gs.foldl (fun r g =>
      let p := mxBlock f g
      (r.1 ++ p.2.1, r.2.1 ++ [p.1], r.2.2.1 + p.2.2.1, r.2.2.2 + p.2.2.2)) r
    q.1.length = r.1.length + 32 * gs.length ∧ q.2.1.length = r.2.1.length + gs.length := by
  induction gs generalizing r with
  | nil => exact ⟨rfl, rfl⟩
  | cons g gs ih =>
    obtain ⟨h1, h2⟩ := ih (r.1 ++ (mxBlock f g).2.1, r.2.1 ++ [(mxBlock f g).1], r.2.2.1 + (mxBlock f g).2.2.1, r.2.2.2 + (mxBlock f g).2.2.2)
      fun k hk => hg k (List.mem_cons_of_mem _ hk)
    simp only [List.length_append, mxBlock_codes_length, hg g List.mem_cons_self, List.length_singleton] at h1 h2
    simp only [List.foldl_cons, List.length_cons]
    omega

/-- A row of k blocks of values gives 32 k codes, and k scale bytes where the format has them. -/
theorem convRow_length {f k : Nat} {l : List FV} (hl : l.length = 32 * k) :
    (convRow f l).1.length = 32 * k ∧ (fmtScaled f = true → (convRow f l).2.1.length = k) := by
  unfold convRow
  split
  · rw [hl, Nat.mul_div_cancel_left k (by decide)]
    obtain ⟨hlen, hall⟩ := groups32_length k l hl
    obtain ⟨h1, h2⟩ := mxFold_length f _ ([], [], 0, 0) hall
    rw [hlen, List.length_nil, Nat.zero_add] at h1 h2
    exact ⟨h1, fun _ => h2⟩
  · rename_i hs
    refine ⟨?_, fun h => absurd h hs⟩
    split
    · simpa using hl
    · split <;> simpa using hl

theorem tileRowBytes_length {d : Word} {l : List Nat} (hl : l.length = 32 * tdKblk d) : (tileRowBytes (tdFmt d) l).length = tdRowBytes d := by
  rw [tileRowBytes, leBytes_length, hl, tdRowBytes]

/-- The range rule of R241 for the scale area. -/
theorem tile_scales_in_slice {d : Word} (hd : tdOk d = true) (hs : fmtScaled (tdFmt d) = true) : tdScale d + tdRows d * tdKblk d ≤ 524288 := by
  simp only [tdOk, hs, Bool.and_eq_true, Bool.not_true, Bool.false_or, decide_eq_true_eq] at hd
  exact hd.2

/-- The range rules of R241 for a row and its scale bytes. -/
theorem row_in_slice {d : Word} {r : Nat} (hd : tdOk d = true) (hr : r < tdRows d) :
    tdBase d + r * tdPitch d + tdRowBytes d ≤ 524288 ∧ (fmtScaled (tdFmt d) = true → tdScale d + r * tdKblk d + tdKblk d ≤ 524288) := by
  have hrow : tdBase d + (tdRows d - 1) * tdPitch d + tdRowBytes d ≤ 524288 := by
    simp only [tdOk, Bool.and_eq_true, decide_eq_true_eq] at hd
    exact hd.1.2
  have hp : r * tdPitch d ≤ (tdRows d - 1) * tdPitch d := Nat.mul_le_mul_right _ (by omega)
  have hk : (r + 1) * tdKblk d ≤ tdRows d * tdKblk d := Nat.mul_le_mul_right _ hr
  rw [Nat.succ_mul] at hk
  refine ⟨by omega, fun hs => ?_⟩
  have := tile_scales_in_slice hd hs
  omega

theorem mrdN_length (m : Memory) (a n : Nat) : (mrdN m a n).length = n := by rw [mrdN, List.length_map, List.length_range]

section
variable {g r : Nat} {b : Block} {d : Word} (hd : tdOk d = true) (hr : r < tdRows d)
include hd hr

theorem SameOutside.row {m : Memory} {l : List Byte} (hl : l.length = tdRowBytes d) :
    SameOutside g m (mwrN m (g + tdBase d + r * tdPitch d) l) := by
  obtain ⟨hrow, -⟩ := row_in_slice hd hr
  exact write (by omega) (by omega)

theorem KeepsOutside.putRaw {l : List Nat} (hl : l.length = 32 * tdKblk d) : KeepsOutside g b (b.putRaw g d r l) :=
  ⟨rfl, rfl, SameOutside.row hd hr (tileRowBytes_length hl)⟩

theorem KeepsOutside.putRow {l : List FV} (hl : l.length = 32 * tdKblk d) : KeepsOutside g b (b.putRow g d r l) := by
  obtain ⟨-, hscale⟩ := row_in_slice hd hr
  obtain ⟨hcodes, hscales⟩ := convRow_length (f := tdFmt d) hl
  have codes : SameOutside g b.mem.slices (mwrN b.mem.slices (g + tdBase d + r * tdPitch d) (tileRowBytes (tdFmt d) (convRow (tdFmt d) l).1)) :=
    SameOutside.row hd hr (tileRowBytes_length hcodes)
  have scales (m : Memory) : SameOutside g m (if fmtScaled (tdFmt d) then
      mwrN m (g + tdScale d + r * tdKblk d) ((convRow (tdFmt d) l).2.1.map (fun x => BitVec.ofNat 8 x)) else m) := by
    split
    · rename_i hs
      have hlen := hscales hs
      have hin := hscale hs
      exact SameOutside.write (by omega) (by rw [List.length_map]; omega)
    · exact SameOutside.refl
  unfold Block.putRow
  dsimp only
  split <;> split <;> exact ⟨rfl, rfl, codes.trans (scales _)⟩

theorem KeepsOutside.putVec {l : List (BitVec 32)} (hl : l.length = 32 * tdKblk d) : KeepsOutside g b (b.putVec g d r l) := by
  unfold Block.putVec
  split
  · exact putRaw hd hr (by rwa [List.length_map])
  · exact putRow hd hr (by rwa [List.length_map])

end

/-! The operations. -/

@[simp] theorem Block.vecMode_mem (b : Block) (e : Exec) (kind : Nat) (v : BitVec 32) (ts : List FV) : (b.vecMode e kind v ts).2.mem = b.mem := by
  unfold Block.vecMode
  split
  · rfl
  · dsimp only
    split <;> rfl

theorem vecRow_fold (e : Exec) (kind : Nat) (l : List (BitVec 32)) (r : List (BitVec 32) × Block) :
    let q := l.foldl (fun r v =>
      let p := r.2.vecMode e kind v
      (r.1 ++ [p.1], p.2)) r
    q.1.length = r.1.length + l.length ∧ q.2.mem = r.2.mem := by
  induction l generalizing r with
  | nil => exact ⟨rfl, rfl⟩
  | cons v l ih =>
    obtain ⟨h1, h2⟩ := ih (r.1 ++ [(r.2.vecMode e kind v).1], (r.2.vecMode e kind v).2)
    rw [List.length_append, List.length_singleton] at h1
    rw [Block.vecMode_mem] at h2
    exact ⟨by rw [List.foldl_cons, h1, List.length_cons]; omega, h2⟩

theorem Block.vecRow_length (b : Block) (e : Exec) (kind : Nat) (l : List (BitVec 32)) : (b.vecRow e kind l).1.length = l.length :=
  (vecRow_fold e kind l ([], b)).1.trans (Nat.zero_add _)

@[simp] theorem Block.vecRow_mem (b : Block) (e : Exec) (kind : Nat) (l : List (BitVec 32)) : (b.vecRow e kind l).2.mem = b.mem :=
  (vecRow_fold e kind l ([], b)).2

theorem KeepsOutside.next {x : ExecId} {c : Instr} {s t : State} {f : Block → Block} (h : exec c s = s.run f)
    (hf : ∀ b, KeepsOutside (sliceBase x) b (f b)) (ht : exec c s = .next t) : KeepsOutside (sliceBase x) s.blk t.blk := by
  rw [h, run_eq] at ht
  cases ht
  dsimp only
  split
  · exact hf _
  · exact refl

section
variable {x : ExecId} {b : Block} {w : NsiBody} (hx : isPip x = true)

theorem KeepsOutside.issue {g : Nat} {enc has : Bool} {run : Exec → Block} (hx : isPip x = true) (h : ∀ e, KeepsOutside g b (run e)) :
    KeepsOutside g b (b.issue x w enc has run) := by
  unfold Block.issue
  dsimp only
  split
  · exact refl
  split
  · exact of_mem (b.raise_mem_of_isPip hx w 1 0)
  split
  · exact of_mem (b.raise_mem_of_isPip hx w 1 0)
  split
  · exact of_mem rfl
  split
  · exact of_mem (b.raise_mem_of_isPip hx w 1 0)
  · exact h _

theorem KeepsOutside.withTiles {g : Nat} {e : Exec} {ts : List (Word × Bool)} {run : Block} (h : KeepsOutside g b run) :
    KeepsOutside g b (b.withTiles x e ts run) := by
  unfold Block.withTiles
  dsimp only
  split
  · exact refl
  split
  · exact of_mem (b.reissue_mem x _)
  · exact h

include hx

/-- What a vector instruction writes beyond its checks decides, and there its tiles are in range and pass the checks. -/
theorem KeepsOutside.vecOp {g : Nat} {regs : List Nat} {fmtOk shapeOk : (Nat → Word) → Bool} {run : Exec → (Nat → Word) → Block → Block}
    (h : ∀ e d c, (∀ n ∈ regs, tdOk (d n) = true) → fmtOk d = true → shapeOk d = true → KeepsOutside g c (run e d c)) :
    KeepsOutside g b (b.vecOp x w regs fmtOk shapeOk run) := by
  refine issue hx fun e => withTiles ?_
  split
  · exact of_mem (b.raise_mem_of_isPip hx w 3 0)
  split
  · exact of_mem (b.raise_mem_of_isPip hx w 2 0)
  split
  · exact of_mem (b.raise_mem_of_isPip hx w 4 0)
  · rename_i ht hf hs
    rw [Bool.not_eq_true', Bool.not_eq_false] at ht hf hs
    exact (done x w _).trans (h e _ _ (List.all_eq_true.1 ht) hf hs)

omit hx in
theorem KeepsOutside.vecOut {e : Exec} {d : Word} {kind : Nat} {f : Nat → List (BitVec 32)} (hd : tdOk d = true)
    (hf : ∀ r, (f r).length = 32 * tdKblk d) : KeepsOutside (sliceBase x) b (b.vecOut x e d kind f) :=
  foldl fun b r hr => (of_mem (b.vecRow_mem e kind (f r))).trans
    (putVec hd (List.mem_range.1 hr) ((b.vecRow_length e kind (f r)).trans (hf r)))

theorem KeepsOutside.vecBin (f : BitVec 32 → BitVec 32 → BitVec 32 → BitVec 32) : KeepsOutside (sliceBase x) b (b.vecBin x w f) :=
  vecOp hx fun _ _ _ ht _ _ => vecOut (ht _ List.mem_cons_self) fun _ => by rw [List.length_map, List.length_range]

theorem KeepsOutside.vecUn (kind : Nat) (f : BitVec 32 → BitVec 32 → BitVec 32) : KeepsOutside (sliceBase x) b (b.vecUn x w kind f) :=
  vecOp hx fun _ _ _ ht _ _ => vecOut (ht _ List.mem_cons_self) fun _ => by rw [List.length_map, List.length_range]

theorem KeepsOutside.vecRed (two : Bool) (kind : Nat) (f : List (BitVec 32 × BitVec 32) → BitVec 32) :
    KeepsOutside (sliceBase x) b (b.vecRed x w two kind f) := by
  refine vecOp hx fun e d c ht _ hs => foldl fun b r hr => (of_mem (b.vecMode_mem e kind _ _)).trans
    (putVec (ht _ List.mem_cons_self) (List.mem_range.1 hr) ?_)
  rw [Bool.and_eq_true, Bool.and_eq_true, beq_iff_eq, beq_iff_eq] at hs
  obtain ⟨⟨-, hk⟩, -⟩ := hs
  rw [List.length_cons, List.length_replicate, hk]

theorem KeepsOutside.accst : KeepsOutside (sliceBase x) b (b.issue x w (tileEnc w false) (isPip x) (fun e =>
    let d := (e.td (tTD w)).1
    b.withTiles x e [e.td (tTD w)] (
      if !tdOk d then b.raise x w 3 0
      else if 2 < tdKblk d ∨ 64 < tdRows d then b.raise x w 1 0
      else (List.range (tdRows d)).foldl (fun b r =>
        let l := (List.range (32 * tdKblk d)).map (fun c => e.accAt (tACC w) r c)
        if tdFmt d = 0 then b.putRaw (sliceBase x) d r (l.map (·.toNat)) else b.putRow (sliceBase x) d r (l.map dec32)) (b.pipDone x w e)))) := by
  refine issue hx fun e => withTiles ?_
  split
  · exact of_mem (b.raise_mem_of_isPip hx w 3 0)
  split
  · exact of_mem (b.raise_mem_of_isPip hx w 1 0)
  · rename_i ht _
    rw [Bool.not_eq_true', Bool.not_eq_false] at ht
    refine (done x w _).trans (foldl fun b r hr => ?_)
    have len : ((List.range (32 * tdKblk (e.td (tTD w)).1)).map (fun c => e.accAt (tACC w) r c)).length = 32 * tdKblk (e.td (tTD w)).1 := by
      rw [List.length_map, List.length_range]
    dsimp only
    split
    · exact putRaw ht (List.mem_range.1 hr) (by rw [List.length_map, len])
    · exact putRow ht (List.mem_range.1 hr) (by rw [List.length_map, len])

theorem KeepsOutside.vcvt (ext : BitVec 64) {s t : State} (ht : exec (.nsiVcvt x w ext) s = .next t) : KeepsOutside (sliceBase x) s.blk t.blk := by
  refine next (show _ = execNsiVcvt x w ext s from rfl) (fun b => vecOp hx fun e d c ht _ _ => ?_) ht
  have hd := ht _ List.mem_cons_self
  refine (of_mem ?_).trans (foldl fun b r hr => ?_)
  · split <;> rfl
  · dsimp only
    split
    · exact putRaw hd (List.mem_range.1 hr) (by rw [List.length_map, List.length_map, List.length_range])
    · exact putRow hd (List.mem_range.1 hr) (by rw [List.length_map, List.length_range])

theorem KeepsOutside.vcopy (ext : BitVec 64) {s t : State} (ht : exec (.nsiVcopy x w ext) s = .next t) : KeepsOutside (sliceBase x) s.blk t.blk := by
  refine next (show _ = execNsiVcopy x w ext s from rfl) (fun b => vecOp hx fun e d c ht hf hs => ⟨rfl, rfl, ?_⟩) ht
  have hd := ht _ List.mem_cons_self
  rw [beq_iff_eq] at hf
  simp only [sameShape, Bool.and_eq_true, beq_iff_eq] at hs
  obtain ⟨hrows, hkblk⟩ := hs
  have rows : SameOutside (sliceBase x) c.mem.slices ((List.range (tdRows (d (tTD w)))).foldl (fun k r =>
      mwrN k (sliceBase x + tdBase (d (tTD w)) + r * tdPitch (d (tTD w)))
        (mrdN b.mem.slices (sliceBase x + tdBase (d (tTA w)) + r * tdPitch (d (tTA w))) (tdRowBytes (d (tTA w))))) c.mem.slices) :=
    SameOutside.foldl fun m r hr => SameOutside.row hd (List.mem_range.1 hr) (by rw [mrdN_length, tdRowBytes, tdRowBytes, hf, hkblk])
  dsimp only
  split
  · rename_i hscaled
    have hin := tile_scales_in_slice hd hscaled
    exact rows.trans (SameOutside.write (by omega) (by rw [mrdN_length, ← hrows, ← hkblk]; omega))
  · exact rows

end

/-- Settles O27: three shapes of vector instruction, conversion, copy and the accumulator's store, each writing rows in range. -/
theorem vectorWritesOwnSlice : Obligations.VectorWritesOwnSlice := by
  intro x w ext s t c hx hc hw ht
  suffices h : KeepsOutside (sliceBase x) s.blk t.blk by
    obtain ⟨hdie, hkeep, hslices⟩ := h
    exact ⟨(hslices hw).2, hdie, hkeep⟩
  have bin (f) (h : exec c s = s.run (fun b => b.vecBin x w f)) : KeepsOutside (sliceBase x) s.blk t.blk := .next h (fun _ => .vecBin hx f) ht
  have un (kind f) (h : exec c s = s.run (fun b => b.vecUn x w kind f)) : KeepsOutside (sliceBase x) s.blk t.blk := .next h (fun _ => .vecUn hx kind f) ht
  have red (two kind f) (h : exec c s = s.run (fun b => b.vecRed x w two kind f)) : KeepsOutside (sliceBase x) s.blk t.blk :=
    .next h (fun _ => .vecRed hx two kind f) ht
  simp only [sliceOps, List.mem_cons, List.not_mem_nil, or_false] at hc
  rcases hc with rfl | rfl | rfl | rfl | rfl | rfl | rfl | rfl | rfl | rfl | rfl | rfl | rfl | rfl | rfl | rfl | rfl | rfl | rfl | rfl | rfl | rfl
  · exact bin _ (show _ = execNsiVadd x w ext s from rfl)
  · exact bin _ (show _ = execNsiVsub x w ext s from rfl)
  · exact bin _ (show _ = execNsiVmul x w ext s from rfl)
  · exact bin _ (show _ = execNsiVfma x w ext s from rfl)
  · exact bin _ (show _ = execNsiVdiv x w ext s from rfl)
  · exact un _ _ (show _ = execNsiVsqrt x w ext s from rfl)
  · exact bin _ (show _ = execNsiVmax x w ext s from rfl)
  · exact bin _ (show _ = execNsiVmin x w ext s from rfl)
  · exact red _ _ _ (exec_nsiVsum ext)
  · exact red _ _ _ (exec_nsiVrmax ext)
  · exact red _ _ _ (exec_nsiVdot ext)
  · exact un _ _ (show _ = execNsiVexp x w ext s from rfl)
  · exact un _ _ (show _ = execNsiVlog x w ext s from rfl)
  · exact un _ _ (show _ = execNsiVrsqrt x w ext s from rfl)
  · exact un _ _ (show _ = execNsiVtanh x w ext s from rfl)
  · exact un _ _ (show _ = execNsiVsig x w ext s from rfl)
  · exact un _ _ (show _ = execNsiVerf x w ext s from rfl)
  · exact .vcvt hx ext ht
  · exact .vcopy hx ext ht
  · exact un _ _ (show _ = execNsiVadds x w ext s from rfl)
  · exact un _ _ (show _ = execNsiVmuls x w ext s from rfl)
  · exact .next (show _ = execNsiAccst x w ext s from rfl) (fun _ => .accst hx) ht

end Sys2Proof.Machine
end

section
/-! PROOF. The Picker class and the remote memory class (R356 to R358, R383 to R401). -/
namespace Sys2Proof.Machine
open Sys2Proof

/-! Fetches. -/

section
variable {x : ExecId} {w : NsiBody} {s : State}

/-- FETCH and FETCHG with every check passed. -/
theorem does_fetchOp {c : Instr} {ids : Option Nat} (h : exec c s = s.run (fun b => b.fetchOp x w ids)) (hi : Issues s.blk x w (pkEnc w ids.isSome))
    (hx : isPkr x = true) :
    let b := s.blk
    let e := b.ex x
    let d := (e.td (pkTD w)).1
    let mask := (e.rs (pkRB w)).toNat % 2 ^ 32
    let pitch := (e.rs (pkRC w)).toNat
    mask ≠ 0 → (e.rs (pkRA w)).toNat % 4 = 0 → ids.getD 0 % 4 = 0 → tdOk d = true →
    (ids.isSome = true → tdFmt d = 0 ∨ tdFmt d = 1 ∨ tdFmt d = 8) → e.acquiring = false →
    e.fetches.length < min (b.fget F.PKR_CTRL_AHEAD) 64 → (∀ p ∈ maskPips (pkrCluster (xkey x)) mask, b.queueLoad (pkrCluster (xkey x)) p (pkQ w) < 16) →
    Does c s (({ b with rm := { b.rm with nextId := b.rm.nextId + 1 } }).done x w { e with fetches := e.fetches ++
      [({ id := b.rm.nextId, desc := d, src := (e.rs (pkRA w)).toNat, ids := ids, bank := pkBANK w,
          pitch := if pitch = 0 then cdiv (tdRowBytes d) 64 * 64 else pitch, mask := BitVec.ofNat 64 mask, queue := pkQ w,
          arrived := false, err := false, pushed := false, left := mask, again := false } : Fetch)] }) := by
  intro b e d mask pitch hmask hsrc hids hd hfmt hacq hahead hroom
  have hd' := does_run h hi.alive
  rw [Block.fetchOp, issue_runs hi hx] at hd'
  dsimp only at hd'
  have fmt : (ids.isSome && !(tdFmt d == 0 || tdFmt d == 1 || tdFmt d == 8)) = false := by
    cases hi : ids.isSome
    · rfl
    · simp only [Bool.true_and, Bool.not_eq_false', Bool.or_eq_true, beq_iff_eq]
      exact or_assoc.2 (hfmt hi)
  have ahead : (e.acquiring || decide (min (b.fget F.PKR_CTRL_AHEAD) 64 ≤ e.fetches.length)) = false := by
    rw [hacq, Bool.false_or, decide_eq_false_iff_not]
    exact Nat.not_le.2 hahead
  have room : (maskPips (pkrCluster (xkey x)) mask).any (fun p => decide (16 ≤ b.queueLoad (pkrCluster (xkey x)) p (pkQ w))) = false :=
    List.any_eq_false.2 fun p hp => by
      rw [decide_eq_true_eq]
      exact Nat.not_le.2 (hroom p hp)
  rwa [if_neg hmask, if_neg (Decidable.not_not.2 hsrc), if_neg (Decidable.not_not.2 hids), hd, Bool.not_true, if_neg Bool.false_ne_true, fmt, if_neg Bool.false_ne_true,
    ahead, if_neg Bool.false_ne_true, room, if_neg Bool.false_ne_true] at hd'

end

/-- Settles O28: one fetch for the two instructions, and an arrival whose data can be read. -/
theorem pickerFetches : Obligations.PickerFetches := by
  intro x w ext s
  refine ⟨fun hx hmask hsrc hd hacq hahead hroom => ⟨fun hi => ?_, fun hi hext hfmt => ?_⟩, fun cluster picker slot far f p ha hpk hf harr hpush hdata => ?_⟩
  · exact does_fetchOp (ids := none) (show exec (.nsiFetch x w ext) s = execNsiFetch x w ext s from rfl) hi hx hmask hsrc rfl hd nofun hacq hahead hroom
  · exact does_fetchOp (ids := some ext.toNat) (show exec (.nsiFetchg x w ext) s = execNsiFetchg x w ext s from rfl) hi hx hmask hsrc hext hd (fun _ => hfmt)
      hacq hahead hroom
  · have hd := does_run (show exec (.fetchDataArrive cluster picker slot far) s = execFetchDataArrive cluster picker slot far s from rfl) ha
    dsimp only at hd
    rw [hf] at hd
    have first : (f.arrived || decide (1 < picker)) = false := by
      rw [harr, Bool.false_or, decide_eq_false_iff_not]
      exact Nat.not_lt.2 hpk
    dsimp only at hd
    rwa [first, if_neg Bool.false_ne_true, if_neg (Bool.eq_false_iff.1 hpush), hdata] at hd

/-! Posted operations. -/

section
variable {x : ExecId} {w : NsiBody} {s : State}

theorem does_bulk {c : Instr} {op : Nat} (h : exec c s = s.run (fun b => b.bulk x w op)) (hi : Issues s.blk x w (rmEnc w false)) :
    let b := s.blk
    let e := b.ex x
    let a := (e.rs (rmRA w)).toNat
    let d := (e.rs (rmRB w)).toNat
    let n := (e.rs (rmRC w)).toNat
    Does c s (if a % 4 ≠ 0 then b.raise x w 6 a else if d % 4 ≠ 0 then b.raise x w 6 d else if n % 4 ≠ 0 then b.raise x w 6 a
      else if n < 4 ∨ 16777216 < n then b.raise x w 1 0 else b.post x w e op a d n) := by
  have hd := does_run h hi.alive
  rwa [Block.bulk, issue_runs hi rfl] at hd

theorem does_scalarOp {c : Instr} {run : Block → Exec → Nat → Nat → Block} (h : exec c s = s.run (fun b => b.scalarOp x w (run b)))
    (hi : Issues s.blk x w (rmEnc w true)) :
    let e := s.blk.ex x
    let a := (e.rs (rmRA w)).toNat
    let n := if rmSIZE w = 1 then 4 else 8
    Does c s (if a % n ≠ 0 then s.blk.raise x w 6 a else run s.blk e a n) := by
  have hd := does_run h hi.alive
  rwa [Block.scalarOp, issue_runs hi rfl] at hd

/-- A scalar operation at an aligned address. -/
theorem does_scalarOp_aligned {c : Instr} {run : Block → Exec → Nat → Nat → Block} (h : exec c s = s.run (fun b => b.scalarOp x w (run b)))
    (hi : Issues s.blk x w (rmEnc w true)) (ha : ((s.blk.ex x).rs (rmRA w)).toNat % (if rmSIZE w = 1 then 4 else 8) = 0) :
    Does c s (run s.blk (s.blk.ex x) ((s.blk.ex x).rs (rmRA w)).toNat (if rmSIZE w = 1 then 4 else 8)) := by
  have hd := does_scalarOp h hi
  dsimp only at hd
  rwa [if_neg (Decidable.not_not.2 ha)] at hd

/-- A scalar operation at an address that is not a multiple of its size. -/
theorem does_scalarOp_misaligned {c : Instr} {run : Block → Exec → Nat → Nat → Block} (h : exec c s = s.run (fun b => b.scalarOp x w (run b)))
    (hi : Issues s.blk x w (rmEnc w true)) (ha : ((s.blk.ex x).rs (rmRA w)).toNat % (if rmSIZE w = 1 then 4 else 8) ≠ 0) :
    Does c s (s.blk.raise x w 6 ((s.blk.ex x).rs (rmRA w)).toNat) := by
  have hd := does_scalarOp h hi
  dsimp only at hd
  rwa [if_pos ha] at hd

end

/-- Settles O33: the checks of bulk and of scalar operations in order. -/
theorem alignmentTraps : Obligations.AlignmentTraps := by
  intro x w ext s e b a c n
  refine ⟨fun hi => ?_, fun hi ha => ⟨?_, ?_, ?_, ?_, ?_, ?_⟩⟩
  · have put := does_bulk (show exec (.nsiPut x w ext) s = execNsiPut x w ext s from rfl) hi
    have get := does_bulk (show exec (.nsiGet x w ext) s = execNsiGet x w ext s from rfl) hi
    dsimp only at put get
    refine ⟨fun ha => ?_, fun ha hc => ?_, fun ha hc hn => ?_, fun ha hc hn hl => ?_⟩
    · rw [if_pos ha] at put get
      exact ⟨put, get⟩
    · rw [if_neg (Decidable.not_not.2 ha), if_pos hc] at put get
      exact ⟨put, get⟩
    · rw [if_neg (Decidable.not_not.2 ha), if_neg (Decidable.not_not.2 hc), if_pos hn] at put get
      exact ⟨put, get⟩
    · rw [if_neg (Decidable.not_not.2 ha), if_neg (Decidable.not_not.2 hc), if_neg (Decidable.not_not.2 hn), if_pos hl] at put get
      exact ⟨put, get⟩
  · exact does_scalarOp_misaligned (show exec (.nsiPuts x w ext) s = execNsiPuts x w ext s from rfl) hi ha
  · exact does_scalarOp_misaligned (show exec (.nsiGets x w ext) s = execNsiGets x w ext s from rfl) hi ha
  · exact does_scalarOp_misaligned (show exec (.nsiAadd x w ext) s = execNsiAadd x w ext s from rfl) hi ha
  · exact does_scalarOp_misaligned (show exec (.nsiFadd x w ext) s = execNsiFadd x w ext s from rfl) hi ha
  · exact does_scalarOp_misaligned (show exec (.nsiCas x w ext) s = execNsiCas x w ext s from rfl) hi ha
  · exact does_scalarOp_misaligned (show exec (.nsiWait x w ext) s = execNsiWait x w ext s from rfl) hi ha

/-! Posting at the own node. -/

theorem isHome_eq_of_regs {b c : Block} (h : c.regs = b.regs) (a : Nat) : c.isHome a = b.isHome a := by
  rw [Block.isHome, Block.isHome, Block.node, Block.node, Block.fget, Block.fget, Block.reg, Block.reg, h]

@[simp] theorem done_isHome (b : Block) (x : ExecId) (w : NsiBody) (e : Exec) (a : Nat) : (b.done x w e).isHome a = b.isHome a := by
  obtain ⟨-, hregs, -⟩ := stackOnly_noteProgress (b.setEx x { e with pc := e.pc + nfLen w }) e.item
  exact isHome_eq_of_regs hregs a

section
variable {b : Block} {x : ExecId} {w : NsiBody} {e : Exec} (hacq : e.acquiring = false) (hroom : e.posted.length < 64)
include hacq hroom

theorem mayIssue_posted (ord : Nat) (sp : List (Nat × Nat)) : e.mayIssue false ord sp = true := by
  simp [Exec.mayIssue, hacq, hroom]

/-- An operation whose every side is at the own node only joins the posted ones. -/
theorem post_home {op a c len : Nat} (ha : b.isHome a = true) (hc : op < 2 → b.isHome c = true) :
    b.post x w e op a c len = ({ b with rm := { b.rm with nextId := b.rm.nextId + 1 } }).done x w { e with posted := e.posted ++
      [({ id := b.rm.nextId, op := op, a := a, b := c, len := len, size4 := rmSIZE w == 1, ord := rmORD w, far := 0, err := 0 } : Posted)] } := by
  have near (p : Posted) (hp : ∀ q ∈ p.spans, b.isHome q.1 = true) : (p.spans.filter (fun q => b.isHome q.1)) = p.spans := List.filter_eq_self.2 hp
  have home (a : Nat) : ({ b with rm := { b.rm with nextId := b.rm.nextId + 1 } } : Block).isHome a = b.isHome a := rfl
  unfold Block.post
  dsimp only
  rw [near, mayIssue_posted hacq hroom, Bool.not_true, Bool.false_or, decide_eq_false (Nat.lt_irrefl _), Bool.false_and, if_neg Bool.false_ne_true]
  · simp only [done_isHome, home, ha, Bool.not_true, Bool.false_eq_true, if_false]
    by_cases hop : op < 2
    · have hs : b.isHome (if op = 0 then c else a) = true := by split; exact hc hop; exact ha
      have hd : b.isHome (if op = 0 then a else c) = true := by split; exact ha; exact hc hop
      simp only [hop, hs, hd, if_true, Bool.not_true, Bool.false_eq_true, if_false]
    · simp only [hop, if_false]
  · intro q hq
    unfold Posted.spans at hq
    split at hq
    · rename_i hop
      simp only [List.mem_cons, List.not_mem_nil, or_false] at hq
      rcases hq with rfl | rfl
      · exact ha
      · exact hc hop
    · rw [List.mem_singleton] at hq
      exact hq ▸ ha

end

/-- Settles O29: posting at the own node, and the posting the instruction makes wherever its sides are. -/
theorem remotePosted : Obligations.RemotePosted := by
  intro x w ext s e b a c n k put hacq hroom
  refine ⟨fun hi ha hc hn hlo hhi => ?_, fun hi ha => ?_⟩
  · have put := does_bulk (show exec (.nsiPut x w ext) s = execNsiPut x w ext s from rfl) hi
    have get := does_bulk (show exec (.nsiGet x w ext) s = execNsiGet x w ext s from rfl) hi
    have len : ¬ (n < 4 ∨ 16777216 < n) := by omega
    dsimp only at put get
    rw [if_neg (Decidable.not_not.2 ha), if_neg (Decidable.not_not.2 hc), if_neg (Decidable.not_not.2 hn), if_neg len] at put get
    refine ⟨fun hha hhc => ?_, put, get⟩
    rw [post_home hacq hroom hha fun _ => hhc] at put get
    exact ⟨put, get⟩
  · have puts := does_scalarOp_aligned (show exec (.nsiPuts x w ext) s = execNsiPuts x w ext s from rfl) hi ha
    have aadd := does_scalarOp_aligned (show exec (.nsiAadd x w ext) s = execNsiAadd x w ext s from rfl) hi ha
    refine ⟨fun hha => ?_, puts, aadd⟩
    rw [post_home hacq hroom hha (by omega)] at puts aadd
    exact ⟨puts, aadd⟩

/-! Blocking operations. -/

theorem priorFailed_eq_false {e : Exec} {ord : Nat} (h : ord < 2 ∨ e.rmErr = 0) (code : Nat) : e.priorFailed ord code = false := by
  unfold Exec.priorFailed
  rcases h with h | h
  · rw [decide_eq_false (Nat.not_le.2 h), Bool.false_and, Bool.false_and]
  · rw [h, bne_self_eq_false, Bool.and_false, Bool.false_and]

section
variable {b : Block} {x : ExecId} {w : NsiBody} {e : Exec} {op kind a n v cmp : Nat} (hi : e.mayIssue true (rmORD w) [(a, n)] = true)
  (hp : rmORD w < 2 ∨ e.rmErr = 0)
include hi hp

/-- A blocking operation performed at the own node. -/
theorem blockOp_ok (ha : b.isHome a = true) {loc : Except (Nat × Nat) (Nat × Bool × Block)} {old : Nat} {p : Bool} {c : Block}
    (hl : loc = .ok (old, p, c)) :
    b.blockOp x w e op kind a n v cmp loc = (c.setEx x { ((c.ex x).ws (rmRD w) (BitVec.ofNat 64 old)).wp (rmPS w) p with
      blocked := .no, pc := (c.ex x).pc + 8 }).noteProgress (c.ex x).item := by
  unfold Block.blockOp
  rw [hi, ha, hl, Bool.not_true, if_neg Bool.false_ne_true, if_pos rfl]
  dsimp only
  rw [priorFailed_eq_false hp, if_neg Bool.false_ne_true]
  rfl

/-- A blocking operation that the own node answers with a code. -/
theorem blockOp_error (ha : b.isHome a = true) {loc : Except (Nat × Nat) (Nat × Bool × Block)} {er : Nat × Nat} (hl : loc = .error er) :
    b.blockOp x w e op kind a n v cmp loc = (((b.ueAt a n er.1).rmFail er.1 false false).setEx x
      { (e.ws (rmRD w) (BitVec.ofNat 64 (0xFFFFFFFFFFFFFF00 + er.1))).wp (rmPS w) false with blocked := .no, pc := e.pc + 8 }).noteProgress e.item := by
  unfold Block.blockOp
  rw [hi, ha, hl, Bool.not_true, if_neg Bool.false_ne_true, if_pos rfl]
  dsimp only
  rw [priorFailed_eq_false hp, if_neg Bool.false_ne_true]
  rfl

/-- A blocking operation that leaves for its home. -/
theorem blockOp_far (ha : b.isHome a = false) {r : Nat} (hr : b.outErr (keyId (xkey x)) a n = .ok r) (loc : Except (Nat × Nat) (Nat × Bool × Block)) :
    b.blockOp x w e op kind a n v cmp loc = (b.setEx x { e with pc := e.pc + 8, blocked := .far op (rmRD w) (rmPS w) }).outOp
      { id := 0, kind := kind, route := r, addr := a, len := 0, value := v, compare := cmp, data := [], ord := rmORD w,
        size4 := n == 4, sent := false, issued := 0, purpose := .block (xkey x) } := by
  unfold Block.blockOp
  rw [hi, ha, Bool.not_true, if_neg Bool.false_ne_true, if_neg Bool.false_ne_true]
  dsimp only
  rw [hr]
  dsimp only
  rw [priorFailed_eq_false hp, if_neg Bool.false_ne_true]

end

/-- Settles O30: one rule for an operation the own node performs, one for an error it answers, one for an operation that leaves. -/
theorem remoteBlocking : Obligations.RemoteBlocking := by
  intro x w ext s hiss
  refine fun ha hi => ?_
  have gets := does_scalarOp_aligned (show exec (.nsiGets x w ext) s = execNsiGets x w ext s from rfl) hiss ha
  have fadd := does_scalarOp_aligned (show exec (.nsiFadd x w ext) s = execNsiFadd x w ext s from rfl) hiss ha
  have cas := does_scalarOp_aligned (show exec (.nsiCas x w ext) s = execNsiCas x w ext s from rfl) hiss ha
  refine ⟨fun hh hp => ⟨fun l hl => ?_, fun p hat => ?_, fun p hat => ?_, fun er her => ?_⟩, fun hh hp r hr => ⟨?_, ?_, ?_⟩⟩
  · rw [blockOp_ok hi hp hh (old := leNat l) (p := true) (c := s.blk.latchRead (.exec (xkey x)) _) (by rw [hl])] at gets
    simp only [Block.latchRead] at gets
    simpa only [Bool.and_eq_true, decide_eq_true_eq] using gets
  · rwa [blockOp_ok hi hp hh (old := p.1) (p := true) (c := p.2.afterRegWrite _) (by delta cut; rw [hat])] at fadd
  · replace hat : s.blk.homeAtomic (.ex (xkey x)) .cas _ _ (fun o => if o = cut _ ((s.blk.ex x).rs (rmRC w)).toNat then
        some (cut _ ((s.blk.ex x).rs (rmRB w)).toNat) else none) = .ok p := hat
    rwa [blockOp_ok hi hp hh (old := p.1) (p := p.1 == _) (c := p.2.afterRegWrite _) (by rw [hat])] at cas
  · rwa [blockOp_error hi hp hh (by rw [her])] at gets
  · rwa [blockOp_far hi hp hh hr] at gets
  · rwa [blockOp_far hi hp hh hr] at fadd
  · rwa [blockOp_far hi hp hh hr] at cas

/-! Waits and fences. -/

@[simp] theorem latchRead_rm (b : Block) (src : RegSrc) (a : Nat) : (b.latchRead src a).rm = b.rm := by
  unfold Block.latchRead
  split <;> rfl

@[simp] theorem advance_rm (b : Block) (t : Nat) : (b.advance t).rm = b.rm := by
  unfold Block.advance
  split <;> rfl

theorem advance_isHome (b : Block) (t a : Nat) : (b.advance t).isHome a = b.isHome a := by
  refine isHome_eq_of_regs ?_ a
  unfold Block.advance
  split <;> rfl

/-- With nothing outbound, no outbound operation of an executor is left to forget. -/
theorem forget_out_eq {b : Block} (h : b.rm.out = []) (f : OutOp → OutOp) : { b with rm := { b.rm with out := b.rm.out.map f } } = b := by
  rw [h, List.map_nil, ← h]

/-- A wait that observes its counter at or above its target. -/
theorem waitMet_done {b : Block} {x : ExecId} {a t rd ps size lim last : Nat} {l : List Byte} (hw : (b.ex x).blocked = .wait a t rd ps size lim last)
    (hh : b.isHome a = true) (hl : b.homeRead (.ex (xkey x)) a (if size = 1 then 4 else 8) false (size == 1) = .ok l) (ht : t ≤ leNat l) :
    b.waitMet x = ((b.latchRead (.exec (xkey x)) a).setEx x { ((b.ex x).ws rd (BitVec.ofNat 64 (leNat l))).wp ps true with blocked := .no }).noteProgress
      (b.ex x).item := by
  unfold Block.waitMet
  dsimp only
  rw [hw]
  dsimp only
  rw [if_pos hh, hl]
  dsimp only
  rw [if_pos ht]
  rfl

/-- A wait over its limit, its counter readable. -/
theorem waitOver_done {b : Block} {x : ExecId} {a t rd ps size lim last : Nat} {l : List Byte} (hw : (b.ex x).blocked = .wait a t rd ps size lim last)
    (hh : b.isHome a = true) (hlim : lim ≠ 0)
    (hl : (b.advance lim).homeRead (.ex (xkey x)) a (if size = 1 then 4 else 8) false (size == 1) = .ok l) (hout : b.rm.out = []) :
    b.waitOver x = (((b.advance lim).latchRead (.exec (xkey x)) a).setEx x
      { ((b.ex x).ws rd (BitVec.ofNat 64 (leNat l))).wp ps false with blocked := .no }).noteProgress (b.ex x).item := by
  unfold Block.waitOver
  dsimp only
  rw [hw]
  dsimp only
  rw [if_neg hlim, advance_isHome, if_pos hh, if_pos hh, hl, forget_out_eq (by rw [latchRead_rm, advance_rm, hout])]
  rfl

/-- Settles O31: the issue of each, and the two ends of a wait. -/
theorem remoteWaits : Obligations.RemoteWaits := by
  intro x w ext s
  refine ⟨fun hi ha hm hh hp l hl => ?_, fun hi => ⟨fun hpost => ?_, fun hpost => ?_, fun hx => ?_⟩, fun ha a t rd ps size lim last l hw hh => ⟨fun hl ht => ?_, fun hlim hl hout => ?_⟩⟩
  · have hd := does_scalarOp_aligned (show exec (.nsiWait x w ext) s = execNsiWait x w ext s from rfl) hi ha
    have target : cut 8 ((s.blk.ex x).rs (rmRB w)).toNat = ((s.blk.ex x).rs (rmRB w)).toNat := Nat.mod_eq_of_lt (BitVec.isLt _)
    dsimp only at hd
    rw [hm, Bool.not_true, if_neg Bool.false_ne_true, if_pos hh, hl, target] at hd
    dsimp only at hd
    rw [priorFailed_eq_false hp, if_neg Bool.false_ne_true] at hd
    refine ⟨fun ht => ?_, fun ht => ?_⟩
    · rwa [if_pos ht] at hd
    · rwa [if_neg (Nat.not_le.2 ht)] at hd
  · have hd := does_issue (show exec (.nsiFence x w ext) s = execNsiFence x w ext s from rfl) hi rfl
    rwa [if_pos (List.isEmpty_iff.2 hpost)] at hd
  · have hd := does_issue (show exec (.nsiFence x w ext) s = execNsiFence x w ext s from rfl) hi rfl
    rwa [if_neg (by rwa [List.isEmpty_iff])] at hd
  · have hd := does_issue (has := fun _ => isSeq x) (show exec (.nsiTfence x w ext) s = execNsiTfence x w ext s from rfl) hi hx
    exact hd
  · have hd := does_run (show exec (.waitConditionMet x) s = execWaitConditionMet x s from rfl) ha
    rwa [waitMet_done hw hh hl ht] at hd
  · have hd := does_run (show exec (.waitTimeout x) s = execWaitTimeout x s from rfl) ha
    rwa [waitOver_done hw hh hlim hl hout] at hd

/-- Settles O32: the operation found is the one that completes. -/
theorem remoteCompletions : Obligations.RemoteCompletions := by
  intro s ha
  refine ⟨fun x p hp => ?_, fun op o ho hr => ?_⟩
  · have hd := does_run (show exec (.remoteOpComplete x) s = execRemoteOpComplete x s from rfl) ha
    rwa [Block.opComplete, hp] at hd
  · have hd := does_run (show exec (.remoteTimeout op) s = execRemoteTimeout op s from rfl) ha
    rw [Block.opTimeout, ho] at hd
    dsimp only at hd
    rwa [if_neg (by omega)] at hd

end Sys2Proof.Machine
end

section
/-! PROOF. The tick class and the text units (R302 to R320, R359 to R368). -/
namespace Sys2Proof.Machine
open Sys2Proof

/-! Invocations. -/

theorem refusal_ne_zero (check : Nat) : ¬ (if check ≠ 0 then check else ansOut) = 0 := by
  split
  · assumption
  · exact Nat.succ_ne_zero 3

/-- What an invocation is answered is OK exactly where a unit takes the job (R359). -/
theorem unitAnswer_ok_iff (b : Block) (k unit : Nat) (any : Bool) (d : Option (List Byte)) :
    (b.unitAnswer k unit any d).1 = 0 ↔ ∃ n l, (if any then b.leastUnit k else if b.unitUp k unit then some unit else none) = some n ∧
      d = some l ∧ b.jobCheck k l = 0 ∧ (b.unit k n).jobs.length < 16 := by
  unfold Block.unitAnswer
  dsimp only
  generalize hu : (if any then b.leastUnit k else if b.unitUp k unit then some unit else none) = u
  cases u with
  | none =>
    exact iff_of_false (refusal_ne_zero _) (by simp)
  | some n =>
    cases d with
    | none => exact iff_of_false (by simp [ansBad]) (by simp)
    | some l =>
      dsimp only
      by_cases hc : b.jobCheck k l = 0
      · by_cases hj : 16 ≤ (b.unit k n).jobs.length
        · rw [if_neg (Decidable.not_not.2 hc), if_pos hj]
          refine iff_of_false Nat.one_ne_zero ?_
          rintro ⟨n', l', hn, -, -, hlen⟩
          cases hn
          omega
        · rw [if_neg (Decidable.not_not.2 hc), if_neg hj]
          exact iff_of_true rfl ⟨n, l, rfl, rfl, hc, by omega⟩
      · rw [if_pos hc]
        refine iff_of_false hc ?_
        rintro ⟨n', l', -, hl, hc', -⟩
        cases hl
        exact hc hc'

/-- An invocation that issues with no acquire outstanding. -/
theorem does_invoke {c : Instr} {s : State} {x : ExecId} {w : NsiBody} {k : Nat} (h : exec c s = s.run (fun b => b.invoke x w k))
    (hx : isSeq x = true) (hacq : (s.blk.ex x).acquiring = false) (hi : Issues s.blk x w (textEnc k w)) :
    let e := s.blk.ex x
    let d := s.blk.recordAt (e.rs (nf w 20 5)).toNat
    let r := s.blk.unitAnswer k (nf w 30 5) (nf w 35 1 == 1) d
    Does c s ((if r.1 = 0 then s.blk.pushJob k r.2 (s.blk.descJob x k (d.getD [])) else s.blk.countRefused k).done x w
      (e.ws (nf w 15 5) (BitVec.ofNat 64 (r.1 + 256 * r.2)))) := by
  have hd := does_run h hi.alive
  rw [Block.invoke, issue_runs hi hx] at hd
  dsimp only at hd
  rwa [hacq, if_neg Bool.false_ne_true] at hd

/-- Settles O34: one answer, taken or refused, for the four units. -/
theorem textInvocations : Obligations.TextInvocations := by
  intro x w ext s hx hacq
  refine ⟨fun k => unitAnswer_ok_iff _ _ _ _ _, fun hi hr => ?_, fun hi hr => ?_, fun hi hr => ?_, fun hi hr => ?_, fun hi hr => ?_, fun hi hr => ?_,
    fun hi hr => ?_, fun hi hr => ?_⟩
  · have hd := does_invoke (show exec (.nsiLattice x w ext) s = execNsiLattice x w ext s from rfl) hx hacq hi
    dsimp only at hd
    rwa [if_pos hr] at hd
  · have hd := does_invoke (show exec (.nsiMatch x w ext) s = execNsiMatch x w ext s from rfl) hx hacq hi
    dsimp only at hd
    rwa [if_pos hr] at hd
  · have hd := does_invoke (show exec (.nsiMask x w ext) s = execNsiMask x w ext s from rfl) hx hacq hi
    dsimp only at hd
    rwa [if_pos hr] at hd
  · have hd := does_invoke (show exec (.nsiTree x w ext) s = execNsiTree x w ext s from rfl) hx hacq hi
    dsimp only at hd
    rwa [if_pos hr] at hd
  · have hd := does_invoke (show exec (.nsiLattice x w ext) s = execNsiLattice x w ext s from rfl) hx hacq hi
    dsimp only at hd
    rwa [if_neg hr] at hd
  · have hd := does_invoke (show exec (.nsiMatch x w ext) s = execNsiMatch x w ext s from rfl) hx hacq hi
    dsimp only at hd
    rwa [if_neg hr] at hd
  · have hd := does_invoke (show exec (.nsiMask x w ext) s = execNsiMask x w ext s from rfl) hx hacq hi
    dsimp only at hd
    rwa [if_neg hr] at hd
  · have hd := does_invoke (show exec (.nsiTree x w ext) s = execNsiTree x w ext s from rfl) hx hacq hi
    dsimp only at hd
    rwa [if_neg hr] at hd

/-! The tick class. -/

theorem noteProgress_lgr (b : Block) (item : Option Nat) : (b.noteProgress item).lgr = b.lgr := by
  unfold Block.noteProgress
  split
  · rfl
  · dsimp only
    refine List.foldlRecOn (motive := fun c : Block => c.lgr = b.lgr) _ _ rfl fun c hc a _ => hc

theorem done_lgr (b : Block) (x : ExecId) (w : NsiBody) (e : Exec) : (b.done x w e).lgr = b.lgr := noteProgress_lgr _ _

/-- The check of a slice changes nothing but the record of its faults. -/
theorem checkSlice_eq (b : Block) (n : Nat) : ∃ g : Ledger, b.checkSlice n = { b with lgr := g } ∧ g.pages = b.lgr.pages ∧ g.phase0 = b.lgr.phase0 := by
  unfold Block.checkSlice
  dsimp only
  split
  · exact ⟨b.lgr, rfl, rfl, rfl⟩
  · exact ⟨_, rfl, rfl, rfl⟩

/-- Settles O36: TWAIT, LPG and LPHASE by the immediate, ENQ and DPASS by the answer. -/
theorem tickInstructions : Obligations.TickInstructions := by
  intro x w ext s hx hi
  have twait := does_issue (has := fun _ => isSeq x) (show exec (.nsiTwait x w ext) s = execNsiTwait x w ext s from rfl) hi hx
  have enq := does_issue (has := fun _ => isSeq x) (show exec (.nsiEnq x w ext) s = execNsiEnq x w ext s from rfl) hi hx
  have dpass := does_issue (has := fun _ => isSeq x) (show exec (.nsiDpass x w ext) s = execNsiDpass x w ext s from rfl) hi hx
  have lpg := does_issue (has := fun _ => isSeq x) (show exec (.nsiLpg x w ext) s = execNsiLpg x w ext s from rfl) hi hx
  have lphase := does_issue (has := fun _ => isSeq x) (show exec (.nsiLphase x w ext) s = execNsiLphase x w ext s from rfl) hi hx
  dsimp only at twait enq dpass lpg lphase
  refine ⟨fun h => ?_, fun h => ?_, fun h => ?_, fun h => ?_, fun h h8 => ?_, fun h => ?_, fun h => ?_, fun h => ?_⟩
  · rwa [if_neg (Nat.not_lt.2 h)] at twait
  · rwa [if_pos h] at twait
  · rwa [h, if_neg Bool.false_ne_true] at enq
  · rwa [h, if_neg Bool.false_ne_true] at dpass
  · rw [if_neg (by omega)] at lpg
    refine ⟨_, lpg, ?_, ?_⟩
    · have sign : (tickImm w).testBit 3 = true ↔ 8 ≤ tickImm w := by
        rw [Nat.testBit_eq_decide_div_mod_eq, decide_eq_true_eq]
        omega
      dsimp only
      rw [done_lgr]
      simp only [sign]
    · rw [← done_lgr s.blk x w (s.blk.ex x)]
  · rwa [if_pos h] at lpg
  · rw [if_neg (by omega), if_pos h] at lphase
    obtain ⟨g, hg, hpages, hphase⟩ := checkSlice_eq (s.blk.done x w (s.blk.ex x)) (xid x)
    rw [hg] at lphase
    rw [done_lgr] at hpages hphase
    refine ⟨_, lphase, congrArg _ hphase, hpages, ?_⟩
    rw [← done_lgr s.blk x w (s.blk.ex x)]
  · rwa [if_pos h] at lphase

/-! Items and draft passes. -/

/-- Settles O37: an item by whether it has failed and with what it ends, a pass by the queue. -/
theorem itemAndDraftEnds : Obligations.ItemAndDraftEnds := by
  intro s ha
  have item (i st outs) := does_run (show exec (.itemDone i st outs) s = execItemDone i st outs s from rfl) ha
  have pass (props) := does_run (show exec (.dpassDone props) s = execDpassDone props s from rfl) ha
  refine ⟨fun i st outs hf => ?_, fun i st outs t hf hok hst => ?_, fun i st outs t hf hok hst => ?_, fun i st outs t hf hbad => ?_, fun props j rest hq => ?_, fun props hq => ?_⟩
  · have hd := item i st outs
    rwa [hf] at hd
  · have hd := item i st outs
    rw [hf] at hd
    dsimp only at hd
    by_cases h0 : st = 0
    · subst h0
      rwa [hok] at hd
    · have read : (if st ≤ 1 then st else 3) = 3 := if_neg (by omega)
      rw [hok, if_neg Bool.false_ne_true, read] at hd
      rwa [if_neg h0]
  · have hd := item i st outs
    rw [hf] at hd
    dsimp only at hd
    subst hst
    rwa [hok] at hd
  · have hd := item i st outs
    rw [hf] at hd
    dsimp only at hd
    rwa [hbad] at hd
  · have hd := pass props
    rwa [Block.draftDone, hq] at hd
  · have hd := pass props
    rwa [Block.draftDone, hq] at hd

end Sys2Proof.Machine
end

section
/-! PROOF. The end of a text unit's head job (R302 to R320, R360 to R362). -/
namespace Sys2Proof.Machine
open Sys2Proof

/-- The block with the head job of a unit taken off it. -/
def Block.jobTaken (b : Block) (k n : Nat) (rest : List Job) : Block := (b.setUnit k n { (b.unit k n) with jobs := rest }).retryLater k

/-- A fault of a unit noted in its window. -/
def Block.faulted (b : Block) (fault : Bool) (u n : Nat) : Block := if fault = true then b.fault u n false else b

section
variable {b : Block} {n : Nat} {j : Job} {rest : List Job} {fault : Bool} {bad : List ReadFault} {far : List FarRead}

theorem jobEnd_nil {k : Nat} (hj : (b.unit k n).jobs = []) : b.jobEnd k n fault bad far = b := by
  simp only [Block.jobEnd, Block.takeJob, hj]

theorem takeJob_unit {k : Nat} (hk : k ≠ 3) (hj : (b.unit k n).jobs = j :: rest) : b.takeJob k n = some (j, b.jobTaken k n rest) := by
  simp only [Block.takeJob, hj, if_neg hk, Block.jobTaken]

theorem takeJob_tree (hj : (b.unit 3 n).jobs = j :: rest) : b.takeJob 3 n = some (j, (b.jobTaken 3 n rest).headVectors n) := by
  simp only [Block.takeJob, hj, if_pos, Block.jobTaken]

theorem jobEnd_lattice (hj : (b.unit 0 n).jobs = j :: rest) (hk : j.kind = 0) :
    b.jobEnd 0 n fault bad far = ((b.jobTaken 0 n rest).faulted fault 9 n).latticeEnd j fault far := by
  rw [Block.jobEnd, takeJob_unit (by decide) hj]
  dsimp only
  rw [if_neg (by decide), if_pos hk]
  rfl

theorem jobEnd_match (hj : (b.unit 1 n).jobs = j :: rest) (hk : j.kind = 0) :
    b.jobEnd 1 n fault bad far = ((b.jobTaken 1 n rest).faulted fault 8 n).matchEnd j fault far := by
  rw [Block.jobEnd, takeJob_unit (by decide) hj]
  dsimp only
  rw [if_neg (by decide), if_pos hk]
  rfl

theorem jobEnd_mask (hj : (b.unit 2 n).jobs = j :: rest) (hk : j.kind = 0) :
    b.jobEnd 2 n fault bad far = ((b.jobTaken 2 n rest).faulted fault 10 n).maskEnd j fault far := by
  rw [Block.jobEnd, takeJob_unit (by decide) hj]
  dsimp only
  rw [if_neg (by decide), if_pos hk]
  rfl

theorem jobEnd_tree (hj : (b.unit 3 n).jobs = j :: rest) (hk : j.kind = 0) :
    let o := (b.jobTaken 3 n rest).headVectors n
    b.jobEnd 3 n fault bad far = (o.treeFaults n bad).treeEnd j bad far ((o.treeFaults n bad).treeLoss o n) := by
  intro o
  rw [Block.jobEnd, takeJob_tree hj]
  dsimp only
  rw [if_pos rfl, if_pos hk]

theorem jobEnd_ensemble (hj : (b.unit 3 n).jobs = j :: rest) (hk : j.kind = 6) :
    let o := (b.jobTaken 3 n rest).headVectors n
    b.jobEnd 3 n fault bad far = (o.treeFaults n bad).ensembleEnd j bad ((o.treeFaults n bad).treeLoss o n) := by
  intro o
  rw [Block.jobEnd, takeJob_tree hj]
  dsimp only
  rw [if_pos rfl, if_neg (by omega)]

/-- A tokenization of the block's own. -/
theorem jobEnd_tokenization (hj : (b.unit 0 n).jobs = j :: rest) (hk : j.kind = 1) :
    let c := (b.jobTaken 0 n rest).faulted fault 9 n
    b.jobEnd 0 n fault bad far = if !c.jobLive j || c.eget j.entry E.STATE ≠ 2 then c else if fault then c.ownJob j else c.tokenized j.entry far := by
  intro c
  rw [Block.jobEnd, takeJob_unit (by decide) hj]
  dsimp only
  rw [if_neg (by decide), if_neg (by omega), if_pos hk]
  rfl

/-- A mask of the block's own. -/
theorem jobEnd_ownMask (hj : (b.unit 2 n).jobs = j :: rest) (hk : j.kind = 2 ∨ j.kind = 3) :
    let c := (b.jobTaken 2 n rest).faulted fault 10 n
    b.jobEnd 2 n fault bad far = if !c.jobLive j || j.tick ≠ c.tick then c else if fault then c.ownJob j else c.maskDone j := by
  intro c
  have own : (j.kind = 2 || j.kind = 3) = true := by simpa using hk
  rw [Block.jobEnd, takeJob_unit (by decide) hj]
  dsimp only
  rw [if_neg (by decide), if_neg (by omega), if_neg (by omega), if_pos own]
  rfl

/-- A set run of the block's own. -/
theorem jobEnd_setRun (hj : (b.unit 1 n).jobs = j :: rest) (hk : j.kind = 4 ∨ j.kind = 5) :
    b.jobEnd 1 n fault bad far = ((b.jobTaken 1 n rest).faulted fault 8 n).setEnd j fault := by
  have own : ¬ (j.kind = 2 || j.kind = 3) = true := by
    simp only [Bool.or_eq_true, decide_eq_true_eq]
    omega
  rw [Block.jobEnd, takeJob_unit (by decide) hj]
  dsimp only
  rw [if_neg (by decide), if_neg (by omega), if_neg (by omega), if_neg own]
  rfl

end

/-! What is still wanted of the block's own jobs. -/

theorem jobLive_eq_true_iff (b : Block) (j : Job) : b.jobLive j = true ↔ b.eget j.entry E.STATE ≠ 0 ∧ b.eget j.entry E.GENERATION = j.gen := by
  simp only [Block.jobLive, Bool.and_eq_true, bne_iff_ne, beq_iff_eq]

theorem side_modSide_same (b : Block) (e : Nat) (f : Side → Side) : (b.modSide e f).side e = f (b.side e) := tgetD_tset_same _ _ _ _

theorem filterMap_eq_map_of_some {α β : Type} {f : α → Option β} {g : α → β} {l : List α} (h : ∀ a ∈ l, f a = some (g a)) : l.filterMap f = l.map g := by
  induction l with
  | nil => rfl
  | cons a l ih => rw [List.filterMap_cons_some (h a (List.mem_cons_self ..)), ih (fun x hx => h x (List.mem_cons_of_mem _ hx)), List.map_cons]

/-- Marking node `sub` of a tree marks it and no other. -/
theorem masked_of_node_marked (l : List Node) (sub : Nat) :
    ((List.range l.length).filterMap (fun i => (l[i]?).map (fun n => if i = sub then { n with masked := true } else n))).map (·.masked) =
      (List.range l.length).map (fun i => i == sub || ((l[i]?).map (·.masked)).getD false) := by
  rw [List.map_filterMap]
  refine filterMap_eq_map_of_some fun i hi => ?_
  have hl := List.getElem?_eq_getElem (List.mem_range.1 hi)
  by_cases h : i = sub
  · subst h
    simp [hl]
  · simp [hl, h]

/-! Descriptor jobs. -/

section
variable {b : Block} {j : Job} {fault : Bool} {far : List FarRead}

/-- The result record of a LATTICE job (R361), and DONE. -/
def Block.latticeResult (b : Block) (j : Job) (st prod fb : Nat) : Block :=
  b.jobResult j (dfld j.desc 32 8) (dfld j.desc 40 8)
    (withCrc (leBytes 4 (dfld j.desc 4 4) ++ leBytes 4 st ++ leBytes 4 prod ++ leBytes 4 fb ++ zeros 12))

theorem latticeEnd_fault : b.latticeEnd j true far = b.latticeResult j 2 0 0 := rfl

theorem latticeEnd_unread (h : j.img.bind (b.imgRead 0) = none ∨
    ∃ e, b.unitRead far (dfld j.desc 8 8) (if dfld j.desc 0 1 = 0 then dfld j.desc 16 4 else 4 * dfld j.desc 16 4) = .error e) :
    b.latticeEnd j false far = b.latticeResult j 1 0 0 := by
  unfold Block.latticeEnd
  dsimp only
  rw [if_neg Bool.false_ne_true]
  rcases h with h | ⟨e, h⟩
  · rw [h]
    rfl
  · rw [h]
    cases j.img.bind (b.imgRead 0) <;> rfl

/-- The output of a LATTICE job where it fits, and its result. -/
def Block.latticeOut (b : Block) (j : Job) (out : List Byte) (prod fb : Nat) : Block :=
  if dfld j.desc 20 4 < prod then b.latticeResult j 3 0 0
  else (b.unitPut (dfld j.desc 24 8) out (j.seq.getD 0)).latticeResult j 0 prod fb

/-- The block with one free value used (log 2). -/
def Block.freeUsed (b : Block) (n : Nat) : Block := { b with clk := { b.clk with free := b.clk.free + n } }

section
variable {i : Img} {l : List Byte} (hi : j.img.bind (b.imgRead 0) = some i)
  (hl : b.unitRead far (dfld j.desc 8 8) (if dfld j.desc 0 1 = 0 then dfld j.desc 16 4 else 4 * dfld j.desc 16 4) = .ok l)
include hi hl

theorem latticeEnd_tokenize (hop : dfld j.desc 0 1 = 0) : b.latticeEnd j false far =
    ((b.freeUsed 1).count F.TOK_CNT_A_BYTE_FALLBACK (tokenizeText i l).2).latticeOut j ((tokenizeText i l).1.flatMap (leBytes 4))
      (tokenizeText i l).1.length (tokenizeText i l).2 := by
  unfold Block.latticeEnd
  dsimp only
  rw [if_neg Bool.false_ne_true, hi, hl]
  dsimp only
  simp only [if_pos hop]
  rfl

theorem latticeEnd_detok (hop : dfld j.desc 0 1 = 1) : b.latticeEnd j false far =
    (b.freeUsed 1).latticeOut j ((ids4 l).flatMap (detok i (Config.freeBytes b.clk.free)))
      ((ids4 l).flatMap (detok i (Config.freeBytes b.clk.free))).length 0 := by
  unfold Block.latticeEnd
  dsimp only
  rw [if_neg Bool.false_ne_true, hi, hl]
  dsimp only
  simp only [if_neg (show ¬ dfld j.desc 0 1 = 0 by omega), if_pos hop, if_neg (show ¬ dfld j.desc 0 1 = 2 by omega)]
  rfl

theorem latticeEnd_codec (hop : 1 < dfld j.desc 0 1) : b.latticeEnd j false far =
    (if dfld j.desc 0 1 = 2 then (b.freeUsed 1).count F.TOK_CNT_A_CODEC_INVALID (codecIds i (ids4 l)).2 else b.freeUsed 1).latticeOut j
      ((codecIds i (ids4 l)).1.flatMap (leBytes 4)) (codecIds i (ids4 l)).1.length (codecIds i (ids4 l)).2 := by
  unfold Block.latticeEnd
  dsimp only
  rw [if_neg Bool.false_ne_true, hi, hl]
  dsimp only
  simp only [if_neg (show ¬ dfld j.desc 0 1 = 0 by omega), if_neg (show ¬ dfld j.desc 0 1 = 1 by omega)]
  rfl

end

/-- The result record of a MATCH job (R319), its counters and DONE. -/
def Block.matchResult (b : Block) (j : Job) (m : MatchRes) : Block :=
  (b.matchCount m).jobResult j (dfld j.desc 24 8) (dfld j.desc 32 8) (matchRecord (dfld j.desc 4 4) m)

/-- The image a MATCH job runs: the automaton of a stop set, or a matcher set. -/
def Block.matchImg (b : Block) (j : Job) : Option Img :=
  j.img.bind (fun o => if j.num.testBit 16 then (b.imgRead 2 o).map stopAutomaton else b.imgRead 3 o)

theorem matchEnd_fault : b.matchEnd j true far = b.matchResult j (mFailed 2) := rfl

theorem matchEnd_noImage (h : b.matchImg j = none) : b.matchEnd j false far = b.matchResult j (mFailed 1) := by
  unfold Block.matchImg at h
  unfold Block.matchEnd
  dsimp only
  rw [if_neg Bool.false_ne_true, h]
  rfl

/-- Where the symbols of a MATCH job are read. -/
def Block.matchText (b : Block) (j : Job) (far : List FarRead) (i : Img) : Except Nat (List Byte) :=
  b.unitRead far (dfld j.desc 8 8) (if iu i 6 1 = 0 then dfld j.desc 16 4 else 4 * dfld j.desc 16 4)

theorem matchEnd_unread {i : Img} {e : Nat} (hi : b.matchImg j = some i) (he : b.matchText j far i = .error e) :
    b.matchEnd j false far = b.matchResult j (mFailed 1) := by
  unfold Block.matchImg at hi
  unfold Block.matchText at he
  unfold Block.matchEnd
  dsimp only
  rw [if_neg Bool.false_ne_true, hi]
  simp only [beq_iff_eq, he]
  rfl

theorem matchEnd_run {i : Img} {l : List Byte} (hi : b.matchImg j = some i) (hl : b.matchText j far i = .ok l) :
    b.matchEnd j false far = b.matchResult j (mRun i (if dfld j.desc 20 4 = 0xFFFFFFFF then iu i 28 4 else dfld j.desc 20 4)
      (if iu i 6 1 = 0 then l.map BitVec.toNat else ids4 l)) := by
  unfold Block.matchImg at hi
  unfold Block.matchText at hl
  unfold Block.matchEnd
  dsimp only
  rw [if_neg Bool.false_ne_true, hi]
  simp only [beq_iff_eq, hl]
  rfl

/-- The result record of a MASK job (R362), and DONE. -/
def Block.maskResult (b : Block) (j : Job) (st passes : Nat) : Block :=
  b.jobResult j (dfld j.desc 24 8) (dfld j.desc 32 8) (withCrc (leBytes 4 (dfld j.desc 40 4) ++ leBytes 2 st ++ leBytes 2 passes) ++ zeros 4)

theorem maskEnd_fault : b.maskEnd j true far = b.maskResult j 2 0 := rfl

theorem maskEnd_unread (h : j.img.bind (b.imgRead 1) = none ∨ ∃ e, b.unitRead far (dfld j.desc 8 8) (4 * dfld j.desc 2 1) = .error e) :
    b.maskEnd j false far = b.maskResult j 1 0 := by
  unfold Block.maskEnd
  dsimp only
  rw [if_neg Bool.false_ne_true]
  rcases h with h | ⟨e, h⟩
  · rw [h]
    rfl
  · rw [h]
    cases j.img.bind (b.imgRead 1) <;> rfl

theorem maskEnd_read {i : Img} {l : List Byte} (hi : j.img.bind (b.imgRead 1) = some i)
    (hl : b.unitRead far (dfld j.desc 8 8) (4 * dfld j.desc 2 1) = .ok l) :
    let g : Cfg := { state := dfld j.desc 4 4, stack := ids4 l }
    b.maskEnd j false far = ((b.unitPut (dfld j.desc 16 8) (gMask i (b.eosOf i) g) (j.seq.getD 0)).count F.GRM_CNT_A_MASKS).maskResult j 0 (gPasses i g) := by
  unfold Block.maskEnd
  dsimp only
  rw [if_neg Bool.false_ne_true, hi, hl]
  rfl

/-! Orchard jobs. -/

variable {bad : List ReadFault} {k : TreeLoss} {m v : Nat}

theorem treeVector_unread (h : j.rerr.contains v = true) : b.treeVector j m v bad far k = (1, [], [], 0, 0) := by
  unfold Block.treeVector
  dsimp only
  rw [if_pos h]

/-- A vector at the own node that was read, where nothing of the engine failed. -/
theorem treeVector_read (hr : j.rerr.contains v = false) (ha : b.isHome (vecAddr j.desc v) = true) (hits : ∀ o, k.hits bad m v o = false) :
    let r := oEval (imgOf j.store) (j.vecs.getD v [])
    b.treeVector j m v bad far k = (0, r.1, r.2.1, r.2.2.1, r.2.2.2) := by
  unfold Block.treeVector
  dsimp only
  rw [hr, if_neg Bool.false_ne_true, ha, Bool.not_true, Bool.and_false, if_neg Bool.false_ne_true]
  dsimp only
  rw [hits, if_neg Bool.false_ne_true]

/-- An engine that meets no read fault and has a thread group loses nothing. -/
theorem treeLoss_hits_nil {n : Nat} (h : b.groupsUp n ≠ []) (o : Bool) : (b.treeLoss b n).hits [] m v o = false := by
  have down : (b.groupsUp n).filter (fun g => b.groupOut (4 * n + g)) = [] := by
    rw [List.filter_eq_nil_iff]
    intro g hg
    have := (List.mem_filter.1 hg).2
    simpa using this
  have dead : (b.groupsUp n).isEmpty = false := by rwa [← Bool.not_eq_true, List.isEmpty_iff]
  simp only [TreeLoss.hits, Block.treeLoss, down, dead, List.any_nil, List.isEmpty_nil, Bool.not_true, Bool.false_and, Bool.or_self]

end

/-! Set runs and ensembles of the block's own. -/

/-- What a set run gives (R325). -/
def Block.setResult (b : Block) (j : Job) (fault : Bool) : MatchRes :=
  if fault = true then mFailed 2 else ((j.img.bind (b.imgRead 3)).map (fun i => mRun i j.start j.input)).getD (mFailed 1)

/-- The screen of a set run takes its result and is judged (R325 to R327). -/
def Block.setJudged (b : Block) (j : Job) (m : MatchRes) : Block :=
  (b.modScreen j.entry j.sub (fun x =>
    if j.kind = 4 then { x with bset := some m, bsetWait := false } else { x with tset := some m, tsetWait := false })).judge j.entry j.sub

theorem setEnd_eq (b : Block) (j : Job) (fault : Bool) : b.setEnd j fault =
    let m := b.setResult j fault
    let c := b.matchCount m
    if !c.jobLive j || (c.scr j.entry j.sub).isNone then c else c.setJudged j m := by
  unfold Block.setEnd Block.setResult
  cases fault
  · cases j.img.bind (b.imgRead 3) <;> rfl
  · rfl

/-- The screen of an ensemble takes its result and is judged (R306, R328). -/
def Block.ensembleJudged (b : Block) (j : Job) (r : Nat × List Nat × List (BitVec 32) × Nat × Nat) (k : TreeLoss) : Block :=
  (b.modScreen j.entry j.sub (fun x => { x with
    ens := { st := if r.1 = 0 then 2 else 3, outs := r.2.2.1 }, leaves := x.leaves ++ r.2.1, ensRan := if k.idle then x.ensRan else j.num })).judge
      j.entry j.sub

theorem ensembleEnd_eq (b : Block) (j : Job) (bad : List ReadFault) (k : TreeLoss) : b.ensembleEnd j bad k =
    let r := b.treeVector j 1 0 bad [] k
    let c := (b.freeUsed 3).treeCount [r]
    if !c.jobLive j || (c.scr j.entry j.sub).isNone then c else c.ensembleJudged j r k := rfl

/-- A screening job is dropped exactly where its entry or its item is gone. -/
theorem screenJob_dropped_iff (b : Block) (j : Job) : (!b.jobLive j || (b.scr j.entry j.sub).isNone) = true ↔
    ¬ (b.eget j.entry E.STATE ≠ 0 ∧ b.eget j.entry E.GENERATION = j.gen ∧ b.scr j.entry j.sub ≠ none) := by
  rw [Bool.or_eq_true, Bool.not_eq_true', ← Bool.not_eq_true, jobLive_eq_true_iff, Option.isNone_iff_eq_none, ← and_assoc,
    Classical.not_and_iff_not_or_not (b := b.scr j.entry j.sub ≠ none), Classical.not_not]

/-! What each unit's command does to its head job. -/

section
variable {s : State} {n : Nat} {j : Job} {rest : List Job} {fault : Bool} {far : List FarRead} {bad : List ReadFault} (ha : s.blk.alive = true)
include ha

theorem does_latticeJobDone : Does (.latticeJobDone n fault far) s (s.blk.jobEnd 0 n fault [] far).settled := by
  have hd := does_run (show exec (.latticeJobDone n fault far) s = execLatticeJobDone n fault far s from rfl) ha
  exact hd

theorem does_matchJobDone : Does (.matchJobDone n fault far) s (s.blk.jobEnd 1 n fault [] far).settled := by
  have hd := does_run (show exec (.matchJobDone n fault far) s = execMatchJobDone n fault far s from rfl) ha
  exact hd

theorem does_maskJobDone : Does (.maskJobDone n fault far) s (s.blk.jobEnd 2 n fault [] far).settled := by
  have hd := does_run (show exec (.maskJobDone n fault far) s = execMaskJobDone n fault far s from rfl) ha
  exact hd

theorem does_treeJobDone : Does (.treeJobDone n bad far) s (s.blk.jobEnd 3 n false bad far).settled := by
  have hd := does_run (show exec (.treeJobDone n bad far) s = execTreeJobDone n bad far s from rfl) ha
  exact hd

theorem lattice_ends (hj : (s.blk.unit 0 n).jobs = j :: rest) (hk : j.kind = 0) :
    let c := (s.blk.jobTaken 0 n rest).faulted fault 9 n
    let text := c.unitRead far (dfld j.desc 8 8) (if dfld j.desc 0 1 = 0 then dfld j.desc 16 4 else 4 * dfld j.desc 16 4)
    (fault = true → Does (.latticeJobDone n fault far) s (c.latticeResult j 2 0 0).settled) ∧
    (fault = false → j.img.bind (c.imgRead 0) = none ∨ (∃ e, text = .error e) → Does (.latticeJobDone n fault far) s (c.latticeResult j 1 0 0).settled) ∧
    (fault = false → ∀ i l, j.img.bind (c.imgRead 0) = some i → text = .ok l →
      (dfld j.desc 0 1 = 0 → Does (.latticeJobDone n fault far) s
        (((c.freeUsed 1).count F.TOK_CNT_A_BYTE_FALLBACK (tokenizeText i l).2).latticeOut j ((tokenizeText i l).1.flatMap (leBytes 4))
          (tokenizeText i l).1.length (tokenizeText i l).2).settled) ∧
      (dfld j.desc 0 1 = 1 → Does (.latticeJobDone n fault far) s ((c.freeUsed 1).latticeOut j ((ids4 l).flatMap (detok i (Config.freeBytes c.clk.free)))
        ((ids4 l).flatMap (detok i (Config.freeBytes c.clk.free))).length 0).settled) ∧
      (1 < dfld j.desc 0 1 → Does (.latticeJobDone n fault far) s
        ((if dfld j.desc 0 1 = 2 then (c.freeUsed 1).count F.TOK_CNT_A_CODEC_INVALID (codecIds i (ids4 l)).2 else c.freeUsed 1).latticeOut j
          ((codecIds i (ids4 l)).1.flatMap (leBytes 4)) (codecIds i (ids4 l)).1.length (codecIds i (ids4 l)).2).settled)) := by
  intro c text
  have hd := does_latticeJobDone (n := n) (fault := fault) (far := far) ha
  rw [jobEnd_lattice hj hk] at hd
  refine ⟨fun hf => ?_, fun hf h => ?_, fun hf i l hi hl => ⟨fun hop => ?_, fun hop => ?_, fun hop => ?_⟩⟩ <;> subst hf
  · exact hd
  · rwa [latticeEnd_unread h] at hd
  · rwa [latticeEnd_tokenize hi hl hop] at hd
  · rwa [latticeEnd_detok hi hl hop] at hd
  · rwa [latticeEnd_codec hi hl hop] at hd

theorem match_ends (hj : (s.blk.unit 1 n).jobs = j :: rest) (hk : j.kind = 0) :
    let c := (s.blk.jobTaken 1 n rest).faulted fault 8 n
    (fault = true → Does (.matchJobDone n fault far) s (c.matchResult j (mFailed 2)).settled) ∧
    (fault = false → c.matchImg j = none → Does (.matchJobDone n fault far) s (c.matchResult j (mFailed 1)).settled) ∧
    (fault = false → ∀ i, c.matchImg j = some i →
      (∀ e, c.matchText j far i = .error e → Does (.matchJobDone n fault far) s (c.matchResult j (mFailed 1)).settled) ∧
      (∀ l, c.matchText j far i = .ok l → Does (.matchJobDone n fault far) s (c.matchResult j
        (mRun i (if dfld j.desc 20 4 = 0xFFFFFFFF then iu i 28 4 else dfld j.desc 20 4) (if iu i 6 1 = 0 then l.map BitVec.toNat else ids4 l))).settled)) := by
  intro c
  have hd := does_matchJobDone (n := n) (fault := fault) (far := far) ha
  rw [jobEnd_match hj hk] at hd
  refine ⟨fun hf => ?_, fun hf hi => ?_, fun hf i hi => ⟨fun e he => ?_, fun l hl => ?_⟩⟩ <;> subst hf
  · exact hd
  · rwa [matchEnd_noImage hi] at hd
  · rwa [matchEnd_unread hi he] at hd
  · rwa [matchEnd_run hi hl] at hd

theorem mask_ends (hj : (s.blk.unit 2 n).jobs = j :: rest) (hk : j.kind = 0) :
    let c := (s.blk.jobTaken 2 n rest).faulted fault 10 n
    let stack := c.unitRead far (dfld j.desc 8 8) (4 * dfld j.desc 2 1)
    (fault = true → Does (.maskJobDone n fault far) s (c.maskResult j 2 0).settled) ∧
    (fault = false → j.img.bind (c.imgRead 1) = none ∨ (∃ e, stack = .error e) → Does (.maskJobDone n fault far) s (c.maskResult j 1 0).settled) ∧
    (fault = false → ∀ i l, j.img.bind (c.imgRead 1) = some i → stack = .ok l →
      let g : Cfg := { state := dfld j.desc 4 4, stack := ids4 l }
      Does (.maskJobDone n fault far) s
        (((c.unitPut (dfld j.desc 16 8) (gMask i (c.eosOf i) g) (j.seq.getD 0)).count F.GRM_CNT_A_MASKS).maskResult j 0 (gPasses i g)).settled) := by
  intro c stack
  have hd := does_maskJobDone (n := n) (fault := fault) (far := far) ha
  rw [jobEnd_mask hj hk] at hd
  refine ⟨fun hf => ?_, fun hf h => ?_, fun hf i l hi hl => ?_⟩ <;> subst hf
  · exact hd
  · rwa [maskEnd_unread h] at hd
  · rwa [maskEnd_read hi hl] at hd

/-- A tokenization of the block's own ends by whether its entry is still the request that wants it. -/
theorem tokenization_ends (hj : (s.blk.unit 0 n).jobs = j :: rest) (hk : j.kind = 1) :
    let c := (s.blk.jobTaken 0 n rest).faulted fault 9 n
    let wanted := c.eget j.entry E.STATE = 2 ∧ c.eget j.entry E.GENERATION = j.gen
    (¬ wanted → Does (.latticeJobDone n fault far) s c.settled) ∧
    (wanted → fault = true → Does (.latticeJobDone n fault far) s (c.ownJob j).settled) ∧
    (wanted → fault = false → Does (.latticeJobDone n fault far) s (c.tokenized j.entry far).settled) := by
  intro c wanted
  have hd := does_latticeJobDone (n := n) (fault := fault) (far := far) ha
  rw [jobEnd_tokenization hj hk] at hd
  have drop : (!c.jobLive j || decide (c.eget j.entry E.STATE ≠ 2)) = true ↔ ¬ wanted := by
    rw [Bool.or_eq_true, Bool.not_eq_true', ← Bool.not_eq_true, jobLive_eq_true_iff, decide_eq_true_eq]
    omega
  refine ⟨fun hw => ?_, fun hw hf => ?_, fun hw hf => ?_⟩
  · rwa [if_pos (drop.2 hw)] at hd
  · rwa [if_neg (fun h => drop.1 h hw), if_pos hf] at hd
  · rwa [if_neg (fun h => drop.1 h hw), if_neg (Bool.eq_false_iff.1 hf)] at hd

/-- A mask of the block's own ends by whether its entry and its tick still want it. -/
theorem ownMask_ends (hj : (s.blk.unit 2 n).jobs = j :: rest) (hk : j.kind = 2 ∨ j.kind = 3) :
    let c := (s.blk.jobTaken 2 n rest).faulted fault 10 n
    let wanted := c.eget j.entry E.STATE ≠ 0 ∧ c.eget j.entry E.GENERATION = j.gen ∧ j.tick = c.tick
    (¬ wanted → Does (.maskJobDone n fault far) s c.settled) ∧
    (wanted → fault = true → Does (.maskJobDone n fault far) s (c.ownJob j).settled) ∧
    (wanted → fault = false → Does (.maskJobDone n fault far) s (c.maskDone j).settled) := by
  intro c wanted
  have hd := does_maskJobDone (n := n) (fault := fault) (far := far) ha
  rw [jobEnd_ownMask hj hk] at hd
  have drop : (!c.jobLive j || decide (j.tick ≠ c.tick)) = true ↔ ¬ wanted := by
    rw [Bool.or_eq_true, Bool.not_eq_true', ← Bool.not_eq_true, jobLive_eq_true_iff, decide_eq_true_eq]
    omega
  refine ⟨fun hw => ?_, fun hw hf => ?_, fun hw hf => ?_⟩
  · rwa [if_pos (drop.2 hw)] at hd
  · rwa [if_neg (fun h => drop.1 h hw), if_pos hf] at hd
  · rwa [if_neg (fun h => drop.1 h hw), if_neg (Bool.eq_false_iff.1 hf)] at hd

/-- A set run ends: it counts, and is judged where its entry and its item are still there. -/
theorem setRun_ends (hj : (s.blk.unit 1 n).jobs = j :: rest) (hk : j.kind = 4 ∨ j.kind = 5) :
    let c := (s.blk.jobTaken 1 n rest).faulted fault 8 n
    let m := c.setResult j fault
    let b := c.matchCount m
    let wanted := b.eget j.entry E.STATE ≠ 0 ∧ b.eget j.entry E.GENERATION = j.gen ∧ b.scr j.entry j.sub ≠ none
    (wanted → Does (.matchJobDone n fault far) s (b.setJudged j m).settled) ∧ (¬ wanted → Does (.matchJobDone n fault far) s b.settled) := by
  intro c m b wanted
  have hd := does_matchJobDone (n := n) (fault := fault) (far := far) ha
  rw [jobEnd_setRun hj hk, setEnd_eq] at hd
  refine ⟨fun hw => ?_, fun hw => ?_⟩
  · rwa [if_neg (fun h => (screenJob_dropped_iff b j).1 h hw)] at hd
  · rwa [if_pos ((screenJob_dropped_iff b j).2 hw)] at hd

/-- An ensemble ends: it counts, and is judged where its entry and its item are still there. -/
theorem ensemble_ends (hj : (s.blk.unit 3 n).jobs = j :: rest) (hk : j.kind = 6) :
    let c := (s.blk.jobTaken 3 n rest).headVectors n
    let a := c.treeFaults n bad
    let k := a.treeLoss c n
    let r := a.treeVector j 1 0 bad [] k
    let b := (a.freeUsed 3).treeCount [r]
    let wanted := b.eget j.entry E.STATE ≠ 0 ∧ b.eget j.entry E.GENERATION = j.gen ∧ b.scr j.entry j.sub ≠ none
    (wanted → Does (.treeJobDone n bad far) s (b.ensembleJudged j r k).settled) ∧ (¬ wanted → Does (.treeJobDone n bad far) s b.settled) := by
  intro c a k r b wanted
  have hd := does_treeJobDone (n := n) (bad := bad) (far := far) ha
  rw [jobEnd_ensemble hj hk, ensembleEnd_eq] at hd
  refine ⟨fun hw => ?_, fun hw => ?_⟩
  · rwa [if_neg (fun h => (screenJob_dropped_iff b j).1 h hw)] at hd
  · rwa [if_pos ((screenJob_dropped_iff b j).2 hw)] at hd

/-- A descriptor job of an Orchard engine ends. -/
theorem tree_ends (hj : (s.blk.unit 3 n).jobs = j :: rest) (hk : j.kind = 0) :
    let c := (s.blk.jobTaken 3 n rest).headVectors n
    let a := c.treeFaults n bad
    let count := dfld j.desc 1 1
    Does (.treeJobDone n bad far) s (a.treeEnd j bad far (a.treeLoss c n)).settled ∧
    (∀ v, j.rerr.contains v = true → a.treeVector j count v bad far (a.treeLoss c n) = (1, [], [], 0, 0)) ∧
    (bad = [] → a.groupsUp n ≠ [] → ∀ v, j.rerr.contains v = false → a.isHome (vecAddr j.desc v) = true →
      let r := oEval (imgOf j.store) (j.vecs.getD v [])
      a.treeVector j count v bad far (a.treeLoss c n) = (0, r.1, r.2.1, r.2.2.1, r.2.2.2)) := by
  intro c a count
  have hd := does_treeJobDone (n := n) (bad := bad) (far := far) ha
  rw [jobEnd_tree hj hk] at hd
  refine ⟨hd, fun v hv => treeVector_unread hv, fun hbad hup v hv hhome => ?_⟩
  subst hbad
  exact treeVector_read hv hhome (treeLoss_hits_nil hup)

/-- A node's mask ends: the node is marked, and the root's mark stays. -/
theorem nodeMask_ends (hj : (s.blk.unit 2 n).jobs = j :: rest) (hk : j.kind = 3) (hf : fault = false) :
    let c := s.blk.jobTaken 2 n rest
    c.eget j.entry E.STATE ≠ 0 → c.eget j.entry E.GENERATION = j.gen → j.tick = c.tick →
    ∃ t : Block, Does (.maskJobDone n fault far) s t.settled ∧
      (t.side j.entry).nodes.map (·.masked) = ((List.range (c.side j.entry).nodes.length).map (fun i =>
        i == j.sub || (((c.side j.entry).nodes[i]?).map (·.masked)).getD false)) ∧
      (t.side j.entry).rootMask = (c.side j.entry).rootMask := by
  intro c hst hgen htick
  subst hf
  obtain ⟨-, -, done⟩ := ownMask_ends (n := n) (fault := false) (far := far) ha hj (.inr hk)
  refine ⟨_, done ⟨hst, hgen, htick⟩ rfl, ?_, ?_⟩
  · rw [Block.maskDone, side_modSide_same, if_neg (by omega)]
    exact masked_of_node_marked _ _
  · rw [Block.maskDone, side_modSide_same, if_neg (by omega)]
    rfl

theorem empty_ends :
    ((s.blk.unit 0 n).jobs = [] → Does (.latticeJobDone n fault far) s s.blk.settled) ∧
    ((s.blk.unit 1 n).jobs = [] → Does (.matchJobDone n fault far) s s.blk.settled) ∧
    ((s.blk.unit 2 n).jobs = [] → Does (.maskJobDone n fault far) s s.blk.settled) ∧
    ((s.blk.unit 3 n).jobs = [] → Does (.treeJobDone n bad far) s s.blk.settled) := by
  refine ⟨fun hj => ?_, fun hj => ?_, fun hj => ?_, fun hj => ?_⟩
  · have hd := does_latticeJobDone (n := n) (fault := fault) (far := far) ha
    rwa [jobEnd_nil hj] at hd
  · have hd := does_matchJobDone (n := n) (fault := fault) (far := far) ha
    rwa [jobEnd_nil hj] at hd
  · have hd := does_maskJobDone (n := n) (fault := fault) (far := far) ha
    rwa [jobEnd_nil hj] at hd
  · have hd := does_treeJobDone (n := n) (bad := bad) (far := far) ha
    rwa [jobEnd_nil hj] at hd

end

theorem latticeOut_settled (b : Block) (j : Job) (out : List Byte) (prod fb : Nat) : (b.latticeOut j out prod fb).settled =
    if dfld j.desc 20 4 < prod then (b.latticeResult j 3 0 0).settled
    else ((b.unitPut (dfld j.desc 24 8) out (j.seq.getD 0)).latticeResult j 0 prod fb).settled := by
  unfold Block.latticeOut
  split <;> rfl

/-- Settles O35: the descriptor jobs of the four units, then the block's own jobs, then the empty queues. -/
theorem textUnitsFinish : Obligations.TextUnitsFinish := by
  intro s n fault far bad ha
  refine ⟨?_, ?_, ?_, ?_, ?_, ?_, ?_, ?_, ?_, empty_ends ha⟩
  · intro j rest hj hk
    obtain ⟨h1, h2, h3⟩ := lattice_ends (n := n) (fault := fault) (far := far) ha hj hk
    refine ⟨h1, h2, fun hf i l hi hl => ?_⟩
    obtain ⟨h4, h5, h6⟩ := h3 hf i l hi hl
    simp only [latticeOut_settled] at h4 h5 h6
    refine ⟨h4, h5, h6⟩
  · intro j rest hj hk
    obtain ⟨h1, h2, h3⟩ := match_ends (n := n) (fault := fault) (far := far) ha hj hk
    refine ⟨h1, h2, fun hf i hi => ?_⟩
    obtain ⟨h3, h4⟩ := h3 hf i hi
    refine ⟨h3, fun l hl => ?_⟩
    have h5 := h4 l hl
    exact h5
  · intro j rest hj hk
    obtain ⟨h1, h2, h3⟩ := mask_ends (n := n) (fault := fault) (far := far) ha hj hk
    exact ⟨h1, h2, h3⟩
  · intro j rest hj hk
    obtain ⟨h1, h2, h3⟩ := tree_ends (n := n) (bad := bad) (far := far) ha hj hk
    exact ⟨h1, h2, h3⟩
  · intro j rest hj hk
    have h := tokenization_ends (n := n) (fault := fault) (far := far) ha hj hk
    exact h
  · intro j rest hj hk
    obtain ⟨h1, h2, h3⟩ := ownMask_ends (n := n) (fault := fault) (far := far) ha hj (.inl hk)
    rw [Block.maskDone] at h3
    simp only [if_pos hk] at h3
    exact ⟨h1, h2, h3⟩
  · intro j rest hj hk hf
    have h := nodeMask_ends (n := n) (far := far) ha hj hk hf
    exact h
  · intro j rest hj hk
    have h := setRun_ends (n := n) (fault := fault) (far := far) ha hj hk
    exact h
  · intro j rest hj hk
    have h := ensemble_ends (n := n) (bad := bad) (far := far) ha hj hk
    exact h

end Sys2Proof.Machine
end

section
/-! PROOF. Tick boundaries, the main window, counter doorbells and the claims of the rings (R46 to R50, R69 to R84, R94 to R101). -/
namespace Sys2Proof.Machine
open Sys2Proof

/-- Where a command that is a change of the block changes nothing, the machine stays. -/
theorem stays_of_run {c : Instr} {s : State} {f : Block → Block} (h : exec c s = s.run f) (hf : f s.blk = s.blk) : exec c s = .next s := by
  rw [h, run_eq, hf, ite_self]

/-! Boundaries. -/

theorem missedTo_eq_of_le {b : Block} {n : Nat} (h : n ≤ b.lateLimit) (f : Nat) : b.missedTo f n = b := by
  cases f with
  | zero => rfl
  | succ f => rw [Block.missedTo, decide_eq_false (Nat.not_lt.2 h), Bool.and_false, if_neg Bool.false_ne_true]

/-- The clock never goes back to a cycle that is past. -/
theorem toCycle_max (b : Block) (n : Nat) : b.toCycle (max n b.clk.cycles) = b.toCycle n := by
  rcases Nat.le_total n b.clk.cycles with h | h
  · rw [Nat.max_eq_right h, Block.toCycle, if_pos (Nat.le_refl _), Block.toCycle, if_pos h]
  · rw [Nat.max_eq_left h]

/-- Settles O38: an edge within its limit, a source missed, the internal generator. -/
theorem tickBoundaries : Obligations.TickBoundaries := by
  intro s ha hrun
  have edge (c) := does_run (show exec (.tickInEdge c) s = execTickInEdge c s from rfl) ha
  have missed := does_run (show exec .tickSourceMissed s = execTickSourceMissed s from rfl) ha
  have internal := does_run (show exec .internalTick s = execInternalTick s from rfl) ha
  refine ⟨fun c hx hlim => ?_, fun hx => ⟨?_, ?_⟩, fun hx => ⟨fun c => ?_, ?_, ?_⟩⟩
  · have hd := edge c
    rw [Block.tickEdge] at hd
    dsimp only at hd
    rw [missedTo_eq_of_le hlim, hx, Bool.not_true, if_neg Bool.false_ne_true, if_neg Bool.false_ne_true] at hd
    refine ⟨fun h => ?_, fun ht h => ?_⟩
    · have late : (s.blk.clk.ticking && decide (max (c + 2) s.blk.clk.cycles - s.blk.clk.bndCyc <
          s.blk.limitCycles (1000 - s.blk.fget F.TICK_PERIOD_EXT_TOL))) = false := by
        rcases h with h | h
        · rw [h, Bool.false_and]
        · rw [decide_eq_false (Nat.not_lt.2 h), Bool.and_false]
      rwa [late, if_neg Bool.false_ne_true, toCycle_max] at hd
    · rwa [ht, decide_eq_true h, Bool.and_self, if_pos rfl] at hd
  · rwa [if_pos hx] at missed
  · exact stays_of_run (show exec .internalTick s = execInternalTick s from rfl) (by rw [hx, Bool.or_true, if_pos rfl])
  · exact stays_of_run (show exec (.tickInEdge c) s = execTickInEdge c s from rfl) (by rw [Block.tickEdge, hx, Bool.not_false, if_pos rfl])
  · exact stays_of_run (show exec .tickSourceMissed s = execTickSourceMissed s from rfl) (by rw [hx, if_neg Bool.false_ne_true])
  · rwa [hrun, hx, Bool.not_true, Bool.or_self, if_neg Bool.false_ne_true] at internal

theorem newTick_fget (b : Block) (f : Fld) : b.newTick.fget f = b.fget f := rfl

theorem openTick_number (b : Block) (missed : Bool) :
    (b.openTick missed).fget F.TICK_COUNT_COUNT = if b.clk.ticking then (b.fget F.TICK_COUNT_COUNT + 1) % 2 ^ F.TICK_COUNT_COUNT.wid else 0 := by
  unfold Block.openTick
  dsimp only
  rw [fget_fset_same _ _ _ (by decide), Block.tick]
  split
  · rfl
  · exact Nat.zero_mod _

/-- Settles O39: the number is the field written, the rest is what a new tick sets. -/
theorem tickNumbering : Obligations.TickNumbering := by
  intro b missed
  refine ⟨openTick_number b missed, rfl, rfl, rfl, rfl, rfl, rfl, rfl, rfl, rfl, rfl, rfl, rfl, rfl, rfl, fun p hp => ?_⟩
  obtain ⟨q, -, rfl⟩ := List.mem_map.1 hp
  rfl

/-! The main window. -/

theorem releaseDelay_mod_le (e t : Nat) : Config.releaseDelay e t % 6 ≤ 5 := Nat.le_of_lt_succ (Nat.mod_lt _ (by decide))

/-- Settles O41: each command where its window stands, and the release of a verdict. -/
theorem mainWindow : Obligations.MainWindow := by
  intro s ha hserves
  have window := does_run (show exec .turnWindowEnd s = execTurnWindowEnd s from rfl) ha
  have monitor := does_run (show exec .monitorEval s = execMonitorEval s from rfl) ha
  have frame := does_run (show exec .scheduleFrame s = execScheduleFrame s from rfl) ha
  have release (e) := does_run (show exec (.verdictRelease e) s = execVerdictRelease e s from rfl) ha
  have held {e} (hst : s.blk.eget e E.STATE = 2) (hh : s.blk.seqHalted (seqOf e) = false) :
      (!s.blk.serves || decide (s.blk.eget e E.STATE ≠ 2) || s.blk.seqHalted (seqOf e)) = false := by
    rw [hserves, hst, hh]
    rfl
  refine ⟨fun ht hw => ?_, fun hw => ?_, fun hm hw => ?_, fun hm hw hf => ?_, fun hm => ?_, fun h => ?_, fun e hst hr hh => ?_, fun e hst hr hh => ?_, fun e h => ?_⟩
  · rwa [Block.windowEnd, hserves, ht, hw, Bool.not_true, Bool.or_self, Bool.or_self, if_neg Bool.false_ne_true] at window
  · exact stays_of_run (show exec .turnWindowEnd s = execTurnWindowEnd s from rfl) (by rw [Block.windowEnd, hw, Bool.or_true, if_pos rfl])
  · rwa [Block.monitor, hserves, hm, hw, Bool.not_true, Bool.or_self, Bool.or_self, if_neg Bool.false_ne_true] at monitor
  · rwa [hserves, hm, hw, decide_eq_false (Nat.not_le.2 hf), Bool.not_true, Bool.or_self, Bool.or_self, Bool.or_self, if_neg Bool.false_ne_true] at frame
  · exact stays_of_run (show exec .monitorEval s = execMonitorEval s from rfl)
      (by rw [Block.monitor, hm, Bool.not_false, Bool.or_true, Bool.true_or, if_pos rfl])
  · refine stays_of_run (show exec .scheduleFrame s = execScheduleFrame s from rfl) (if_pos ?_)
    rcases h with h | h
    · rw [h, Bool.or_true, Bool.true_or, Bool.true_or]
    · rw [decide_eq_true h, Bool.or_true]
  · have hd := release e
    rw [held hst hh, if_neg Bool.false_ne_true, if_pos hr] at hd
    exact ⟨_, releaseDelay_mod_le e _, hd⟩
  · have hd := release e
    rw [held hst hh, if_neg Bool.false_ne_true, if_neg (Decidable.not_not.2 hr)] at hd
    exact ⟨_, releaseDelay_mod_le e _, hd⟩
  · refine stays_of_run (show exec (.verdictRelease e) s = execVerdictRelease e s from rfl) (if_pos ?_)
    rcases h with h | h
    · rw [decide_eq_true h, Bool.or_true, Bool.true_or]
    · rw [h, Bool.or_true]

/-! Counters the surroundings raise. -/

/-- In RUN a register with a counter field takes the count modulo 2^64. -/
theorem raiseCounter_run {b : Block} {f : Fld} (hrun : b.run? = true) (hf : (findReg f.off).map (fun r => r.fields.any (·.counter)) = some true) (n : Nat) :
    b.raiseCounter f n = b.setReg f.off (b.reg f.off + BitVec.ofNat 64 n) := by
  obtain ⟨r, hr, hc⟩ := Option.map_eq_some_iff.1 hf
  rw [Block.raiseCounter, Block.counterAdd, hr]
  dsimp only
  rw [if_pos hc, hrun, Bool.true_or, Bool.not_true, if_neg Bool.false_ne_true]

/-- Settles O42: five counters raised alike. -/
theorem doorbells : Obligations.Doorbells := by
  intro s n ha hrun
  have adm := does_run (show exec (.admDoorbell n) s = execAdmDoorbell n s from rfl) ha
  have ctl := does_run (show exec (.ctlDoorbell n) s = execCtlDoorbell n s from rfl) ha
  have pun := does_run (show exec (.punnetTaken n) s = execPunnetTaken n s from rfl) ha
  have log := does_run (show exec (.logTaken n) s = execLogTaken n s from rfl) ha
  have rpt := does_run (show exec (.reportTaken n) s = execReportTaken n s from rfl) ha
  rw [raiseCounter_run hrun (by decide)] at adm ctl pun log rpt
  exact ⟨adm, ctl, pun, log, rpt⟩

/-! The rings. -/

/-- A control record is stale: reserved bytes, another generation, a kind or class the format does not have, an entry that cannot take it (R97). -/
theorem control_stale_iff (kind cls rsv gen want st : Nat) :
    (decide (1 < kind) || (kind == 0 && decide (3 < cls)) || rsv != 0 || gen != want || (if kind = 1 then st != 4 else st == 0 || st == 7)) = true ↔
      rsv ≠ 0 ∨ gen ≠ want ∨ 1 < kind ∨ (kind = 1 ∧ st ≠ 4) ∨ (kind = 0 ∧ (3 < cls ∨ st = 0 ∨ st = 7)) := by
  by_cases hk : kind = 1
  · rw [if_pos hk]
    simp only [Bool.or_eq_true, Bool.and_eq_true, decide_eq_true_eq, beq_iff_eq, bne_iff_ne]
    omega
  · rw [if_neg hk]
    simp only [Bool.or_eq_true, Bool.and_eq_true, decide_eq_true_eq, beq_iff_eq, bne_iff_ne]
    omega

section
variable {kind cls rsv gen want st : Nat} (hrsv : rsv = 0) (hgen : gen = want)
include hrsv hgen

theorem control_fresh_pause (hk : kind = 1) (hst : st = 4) :
    ¬ (rsv ≠ 0 ∨ gen ≠ want ∨ 1 < kind ∨ (kind = 1 ∧ st ≠ 4) ∨ (kind = 0 ∧ (3 < cls ∨ st = 0 ∨ st = 7))) := by omega

theorem control_fresh_cancel (hk : kind = 0) (hc : cls ≤ 3) (h0 : st ≠ 0) (h7 : st ≠ 7) :
    ¬ (rsv ≠ 0 ∨ gen ≠ want ∨ 1 < kind ∨ (kind = 1 ∧ st ≠ 4) ∨ (kind = 0 ∧ (3 < cls ∨ st = 0 ∨ st = 7))) := by omega

end

/-- Settles O43: the conditions of a claim, and of a control record. -/
theorem admissionClaims : Obligations.AdmissionClaims := by
  intro s ha hserves
  have adm := does_run (show exec .admissionClaim s = execAdmissionClaim s from rfl) ha
  have ctl := does_run (show exec .controlClaim s = execControlClaim s from rfl) ha
  refine ⟨fun hp hh => ?_, fun h => ?_, ?_, fun hp => ?_, fun h => ?_⟩
  · rwa [Block.claimAdmission, hserves, hh, decide_eq_false (Nat.not_le.2 hp), Bool.not_true, Bool.or_self, Bool.or_self, if_neg Bool.false_ne_true] at adm
  · refine stays_of_run (show exec .admissionClaim s = execAdmissionClaim s from rfl) (if_pos ?_)
    rcases h with h | h
    · rw [decide_eq_true h, Bool.or_true, Bool.true_or]
    · rw [h, Bool.or_true]
  · rw [Block.admHeld, Bool.and_eq_true, bne_iff_ne, decide_eq_true_eq]
    rfl
  · rw [Block.claimControl, hserves, decide_eq_false (Nat.not_le.2 hp), Bool.not_true, Bool.or_self, if_neg Bool.false_ne_true] at ctl
    dsimp only at ctl
    simp only [control_stale_iff] at ctl
    refine ⟨fun h => ?_, fun ⟨hrsv, hgen⟩ hk hst => ?_, fun ⟨hrsv, hgen⟩ hk hc h0 h7 => ?_⟩
    · rwa [if_pos h] at ctl
    · rwa [if_neg (control_fresh_pause hrsv hgen hk hst), if_pos hk] at ctl
    · rwa [if_neg (control_fresh_cancel hrsv hgen hk hc h0 h7), if_neg (by omega)] at ctl
  · exact stays_of_run (show exec .controlClaim s = execControlClaim s from rfl) (by rw [Block.claimControl, decide_eq_true h, Bool.or_true, if_pos rfl])

end Sys2Proof.Machine
end

section
/-! PROOF. The phases of a tick (R37, R58 to R64). -/
namespace Sys2Proof.Machine
open Sys2Proof

/-- Once a tick point is reached no executor waits for it (R363). -/
theorem not_waits_atPoint (b : Block) (p : Nat) : ¬ ∃ k ∈ (b.atPoint p).rm.execs, ∃ rd, k.2.blocked = .tick p rd := by
  rintro ⟨k, hk, rd, hw⟩
  obtain ⟨j, -, rfl⟩ := List.mem_map.1 hk
  cases hb : j.2.blocked with
  | tick q r =>
    simp only [hb] at hw
    split at hw
    · cases hw
    · rename_i hne
      rw [hb] at hw
      cases hw
      exact hne rfl
  | _ =>
    simp only [hb] at hw
    cases hw

theorem acceptable_eq_false {b : Block} {e : Nat} (h : (b.side e).acceptDone = true ∨ b.clk.intakeClosed = false ∨ b.seqHalted (seqOf e) = true) :
    b.acceptable e = false := by
  unfold Block.acceptable
  rcases h with h | h | h
  · rw [h, Bool.not_true, Bool.and_false, Bool.false_and]
  · rw [h, Bool.and_false, Bool.false_and, Bool.false_and, Bool.false_and]
  · rw [h, Bool.not_true, Bool.and_false]

theorem publishable_eq_false {b : Block} (h : b.clk.published = true ∨ b.clk.intakeClosed = false) : b.publishable = false := by
  unfold Block.publishable
  rcases h with h | h
  · rw [h, Bool.not_true, Bool.and_false]
  · rw [h, Bool.and_false, Bool.false_and]

/-- Accept ends with its mark set and the pause request spent. -/
theorem accept_side (b : Block) (e : Nat) : ((b.accept e).side e).acceptDone = true ∧ ((b.accept e).side e).pause = false := by
  unfold Block.accept
  dsimp only
  rw [side_modSide_same]
  exact ⟨rfl, rfl⟩

/-- Settles O40: the six phases where they are due, and where they are past. -/
theorem tickPhases : Obligations.TickPhases := by
  intro s ha hserves ht
  have intake (far) := does_run (show exec (.intakeClose far) s = execIntakeClose far s from rfl) ha
  have cut := does_run (show exec .draftCutoff s = execDraftCutoff s from rfl) ha
  have target := does_run (show exec .maskTarget s = execMaskTarget s from rfl) ha
  have deadline := does_run (show exec .maskDeadline s = execMaskDeadline s from rfl) ha
  have due {p : Bool} (hp : p = false) : (!s.blk.serves || !s.blk.clk.ticking || p) = false := by rw [hserves, ht, hp]; rfl
  have past {p : Bool} (hp : p = true) : (!s.blk.serves || !s.blk.clk.ticking || p) = true := by rw [hp, Bool.or_true]
  refine ⟨fun far h => ?_, fun h => ⟨?_, not_waits_atPoint _ _⟩, fun h => ⟨?_, not_waits_atPoint _ _⟩, fun h => ⟨?_, not_waits_atPoint _ _⟩,
    fun far h => ?_, fun h => ?_, fun h => ?_, fun h => ?_, fun e h => ?_, fun h => ?_, fun e h => ?_, fun h => ?_⟩
  · have hd := intake far
    rw [Block.intake, due h, if_neg Bool.false_ne_true] at hd
    exact ⟨_, hd, rfl, not_waits_atPoint _ _⟩
  · rwa [Block.draftCut, due h, if_neg Bool.false_ne_true] at cut
  · rwa [Block.maskCut, due h, if_neg Bool.false_ne_true] at target
  · rwa [Block.maskOver, due h, if_neg Bool.false_ne_true] at deadline
  · exact stays_of_run (show exec (.intakeClose far) s = execIntakeClose far s from rfl) (by rw [Block.intake, past h, if_pos rfl])
  · exact stays_of_run (show exec .draftCutoff s = execDraftCutoff s from rfl) (by rw [Block.draftCut, past h, if_pos rfl])
  · exact stays_of_run (show exec .maskTarget s = execMaskTarget s from rfl) (by rw [Block.maskCut, past h, if_pos rfl])
  · exact stays_of_run (show exec .maskDeadline s = execMaskDeadline s from rfl) (by rw [Block.maskOver, past h, if_pos rfl])
  · have hd := does_run (show exec (.acceptPhase e) s = execAcceptPhase e s from rfl) ha
    rw [if_pos h] at hd
    exact ⟨_, hd, accept_side _ e⟩
  · have hd := does_run (show exec .publishPhase s = execPublishPhase s from rfl) ha
    rw [if_pos h] at hd
    exact ⟨_, hd, rfl⟩
  · exact stays_of_run (show exec (.acceptPhase e) s = execAcceptPhase e s from rfl) (by rw [acceptable_eq_false h, if_neg Bool.false_ne_true])
  · exact stays_of_run (show exec .publishPhase s = execPublishPhase s from rfl) (by rw [publishable_eq_false h, if_neg Bool.false_ne_true])

end Sys2Proof.Machine
end

section
/-! PROOF. The events of the model store and of image checks (R159, R188, R202, R271 to R293, R300, R316). -/
namespace Sys2Proof.Machine
open Sys2Proof

/-- Equivalent conditions choose alike. -/
theorem ite_of_iff {α : Type} {p q : Prop} [Decidable p] [Decidable q] {x y : α} (h : p ↔ q) : (if p then x else y) = if q then x else y :=
  ite_congr (propext h) (fun _ => rfl) (fun _ => rfl)

/-! The end of a load. -/

section
variable {b : Block} {ad : Bool} {n : Nat} {far : List FarRead}

theorem objHere_eq_true_iff : b.objHere ad n = true ↔ gaNode (b.objSource ad n) = b.node ∧ gaSpace (b.objSource ad n) = 0 := by
  rw [Block.objHere, Bool.and_eq_true, beq_iff_eq, beq_iff_eq]

theorem objData_eq : b.objData ad n far =
    if gaNode (b.objSource ad n) = b.node ∧ gaSpace (b.objSource ad n) = 0 then
      (if b.span0 (gaOff (b.objSource ad n)) (b.objBytes ad n) true = 0 ∧ gaOff (b.objSource ad n) + b.objBytes ad n ≤ b.stacksS * b.usable
        then some (b.rd0 (gaOff (b.objSource ad n)) (b.objBytes ad n)) else none)
    else (farRead far (b.objSource ad n) (b.objBytes ad n)).toOption := by
  simp only [Block.objData, objHere_eq_true_iff]

/-- The load is no longer in flight. -/
def Block.loadTaken (b : Block) (ad : Bool) (n : Nat) : Block :=
  { b with st := { b.st with loads := b.st.loads.filter (fun l => !(l.1 == ad && l.2.1 == n)) } }

/-- The command register that waited for a load is told how it ended. -/
def Block.loadTold (b : Block) (ad : Bool) (n st : Nat) : Block :=
  if ad = false ∧ b.st.cmdModel = some n then ({ b with st := { b.st with cmdModel := none } }).fset F.MDL_CMD_STATUS st
  else if ad = true ∧ b.st.cmdAdapter = some n then ({ b with st := { b.st with cmdAdapter := none } }).fset F.MDL_ADP_CMD_STATUS st else b

/-- A load that fails: FAILED, out of the warm region, counted. -/
def Block.loadFailed (b : Block) (ad : Bool) (n : Nat) : Block :=
  (((b.freeWarm ad n).setObjState ad n 4).count F.MDL_CNT_B_LOAD_FAIL).loadTold ad n 2

/-- A copy that is WARM, counted. -/
def Block.loadWarm (b : Block) (ad : Bool) (n : Nat) : Block := (b.setObjState ad n 3).count F.MDL_CNT_B_LOADS

/-- What a model takes from its header (R271). -/
def Block.headTaken (b : Block) (n : Nat) (l : List Byte) : Block :=
  let d := { b with st := { b.st with heads := tset b.st.heads n (l.take 128) } }
  (d.objPut false n 1 1 (d.hdr n 6 1)).objPut false n 32 4 (cdiv (d.hdr n 24 4 + d.hdr n 16 8) 262144)

/-- The two registers told one after the other, as the object's kind has only one of them. -/
theorem loadTold_eq (st : Nat) : b.loadTold ad n st =
    (let c := if !ad && b.st.cmdModel == some n then ({ b with st := { b.st with cmdModel := none } }).fset F.MDL_CMD_STATUS st else b
     if ad && c.st.cmdAdapter == some n then ({ c with st := { c.st with cmdAdapter := none } }).fset F.MDL_ADP_CMD_STATUS st else c) := by
  unfold Block.loadTold
  cases ad
  · simp
  · simp

/-- How a load ends, by whether the copy passes its checks. -/
def Block.loadEnds (c : Block) (ad : Bool) (n : Nat) (good : Bool) (l : List Byte) (total : Nat) : Block :=
  if good then (if ad then (c.loadWarm ad n).objPut true n 12 4 (cdiv total 262144) else (c.loadWarm ad n).headTaken n l).loadTold ad n 0
  else c.loadFailed ad n

/-- What a load leaves before a command register is told. -/
def Block.loadLeaves (c : Block) (ad : Bool) (n : Nat) (good : Bool) (l : List Byte) (total : Nat) : Block :=
  if good then (if ad then (c.loadWarm ad n).objPut true n 12 4 (cdiv total 262144) else (c.loadWarm ad n).headTaken n l)
  else ((c.freeWarm ad n).setObjState ad n 4).count F.MDL_CNT_B_LOAD_FAIL

theorem loadEnds_eq (c : Block) (good : Bool) (l : List Byte) (total : Nat) :
    c.loadEnds ad n good l total = (c.loadLeaves ad n good l total).loadTold ad n (if good then 0 else 2) := by
  unfold Block.loadEnds Block.loadLeaves Block.loadFailed
  cases good
  · rw [if_neg Bool.false_ne_true, if_neg Bool.false_ne_true, if_neg Bool.false_ne_true]
  · rw [if_pos rfl, if_pos rfl, if_pos rfl]

theorem loadEnds_model (c : Block) (l : List Byte) (total : Nat) :
    c.loadEnds false n true l total = ((c.loadWarm false n).headTaken n l).loadTold false n 0 :=
  (if_pos rfl).trans (by rw [if_neg Bool.false_ne_true])

theorem loadEnds_adapter (c : Block) (l : List Byte) (total : Nat) :
    c.loadEnds true n true l total = ((c.loadWarm true n).objPut true n 12 4 (cdiv total 262144)).loadTold true n 0 :=
  (if_pos rfl).trans (by rw [if_pos rfl])

theorem loadEnds_bad (c : Block) (l : List Byte) (total : Nat) : c.loadEnds ad n false l total = c.loadFailed ad n :=
  if_neg Bool.false_ne_true

theorem loadDone_nothing (h : b.loading ad n = none ∨ (b.objHere ad n = false ∧ b.clk.mainWindow = false)) : b.loadDone ad n far = b := by
  unfold Block.loadDone
  rcases hl : b.loading ad n with _ | t
  · dsimp only
  · obtain ⟨hh, hw⟩ := h.resolve_left (by rw [hl]; exact Option.some_ne_none t)
    exact if_pos (by rw [hh, hw]; rfl)

variable (hload : b.loading ad n ≠ none) (hwin : b.objHere ad n = true ∨ b.clk.mainWindow = true)
include hload hwin

/-- Whether the copy of an object passes its checks (R276). -/
def Block.copyGood (c : Block) (ad : Bool) (n total : Nat) (l : List Byte) : Bool :=
  if ad then sha384 l == (tget c.st.adpDigest n).getD []
  else sha384 l == c.rd0 (c.objAddr false n + 64) 48 && modelHeaderOk (imgOf l) total

theorem loadDone_unread (hd : b.objData ad n far = none) : b.loadDone ad n far = (b.loadTaken ad n).loadFailed ad n := by
  obtain ⟨t, ht⟩ := Option.ne_none_iff_exists'.1 hload
  have window : (!b.objHere ad n && !b.clk.mainWindow) = false := by rcases hwin with h | h <;> simp [h]
  unfold Block.loadDone
  rw [ht, hd]
  refine (if_neg (by rw [window]; exact Bool.false_ne_true)).trans (Eq.trans ?_ (loadTold_eq 2).symm)
  rfl

theorem loadDone_read {l : List Byte} (hd : b.objData ad n far = some l) :
    let c := (b.loadTaken ad n).wr0 ((b.loadTaken ad n).objWarm ad n) l
    b.loadDone ad n far = c.loadEnds ad n (c.copyGood ad n (b.objBytes ad n) l) l (b.objBytes ad n) := by
  obtain ⟨t, ht⟩ := Option.ne_none_iff_exists'.1 hload
  have window : (!b.objHere ad n && !b.clk.mainWindow) = false := by rcases hwin with h | h <;> simp [h]
  intro c
  unfold Block.loadDone
  rw [ht, hd]
  exact (if_neg (by rw [window]; exact Bool.false_ne_true)).trans (((loadEnds_eq c (c.copyGood ad n (b.objBytes ad n) l) l (b.objBytes ad n)).trans (loadTold_eq _)).symm)

end

theorem kindNum_eq_four_iff {k : LoadKind} : kindNum k = 4 ↔ k = .ensemble := by cases k <;> decide

section
variable {b : Block} {ad : Bool} {n : Nat}

/-! What waits for an object once its load has ended. -/

/-- Nothing needs a context: no item is queued for it and no pin holds it. -/
theorem unneeded_iff : (b.idleCtx ad n && !(!ad && b.st.pinned.contains n)) = true ↔ b.itemsFor ad n = [] ∧ (ad = true ∨ n ∉ b.st.pinned) := by
  rw [Block.idleCtx, Bool.and_eq_true, List.isEmpty_iff]
  cases ad
  · simp
  · simp

theorem afterLoad_stays (h : b.objState ad n ≠ 3 ∨ (b.itemsFor ad n = [] ∧ (ad = true ∨ n ∉ b.st.pinned))) : b.afterLoad ad n = b := by
  unfold Block.afterLoad
  refine if_pos ?_
  rw [Bool.or_eq_true, decide_eq_true_eq, unneeded_iff]
  exact h

theorem afterLoad_fills (hs : b.objState ad n = 3) (h : b.itemsFor ad n ≠ [] ∨ (ad = false ∧ n ∈ b.st.pinned)) :
    b.afterLoad ad n = ((if ad = true then b else b.streamReady n).fillLater ad n).retryFills := by
  unfold Block.afterLoad
  refine if_neg ?_
  rw [Bool.or_eq_true, decide_eq_true_eq, unneeded_iff]
  rintro (hne | ⟨hi, hp⟩)
  · exact hne hs
  · rcases h with h | ⟨rfl, hn⟩
    · exact h hi
    · exact hp.elim Bool.false_ne_true (fun h => h hn)

/-! Fills. -/

theorem fillDone_nothing (h : b.ctx ad n = none ∨ (∃ c, b.ctx ad n = some c ∧ c.resident = true) ∨ b.clk.mainWindow = false) :
    b.fillDone ad n = b := by
  unfold Block.fillDone
  rcases hc : b.ctx ad n with _ | c
  · rfl
  · refine if_pos ?_
    rw [Bool.or_eq_true, Bool.not_eq_true']
    rcases h with h | ⟨c', h, hr⟩ | h
    · rw [hc] at h
      exact absurd h (Option.some_ne_none c)
    · rw [hc, Option.some.injEq] at h
      exact .inl (h ▸ hr)
    · exact .inr h

theorem fillNow_of_not_fillable (h : b.objState ad n ≠ 3 ∨ b.ctx ad n ≠ none) : b.fillNow ad n = b := by
  unfold Block.fillNow
  refine if_pos ?_
  rw [Block.fillable, Bool.not_eq_true', Bool.and_eq_false_iff, beq_eq_false_iff_ne]
  refine h.imp_right fun h => ?_
  rw [Option.isNone_eq_false_iff, Option.isSome_iff_ne_none]
  exact h

section
variable (hs : b.objState ad n = 3) (hc : b.ctx ad n = none) (hf : b.adaptersFull ad = false) (he : b.evictOrder false = [])
include hs hc hf he

/-- With nothing to evict a fill starts where enough granules are free and waits otherwise. -/
theorem fillNow_of_no_eviction : b.fillNow ad n =
    if b.freeCount < b.objGranules ad n then (b.count F.MDL_CNT_C_FILL_WAIT).fillLater ad n
    else ({ b with st := { b.st with
          hot := b.st.hot ++ [({ adapter := ad, num := n, granules := b.place (b.objGranules ad n), resident := false, filledTick := 0, began := b.clk.timeUs } : Ctx)]
          fillWait := b.st.fillWait.filter (fun w => w != (ad, n)) } }).setObjHot ad n 1 := by
  have fillable : b.fillable ad n = true := by rw [Block.fillable, hs, hc]; rfl
  unfold Block.fillNow
  dsimp only
  rw [fillable, hf, he, if_neg (by decide)]
  by_cases hg : b.freeCount < b.objGranules ad n
  · exact (if_pos (Bool.or_eq_true _ _ ▸ .inl (decide_eq_true hg))).trans (if_pos hg).symm
  · exact (if_neg (by simpa using hg)).trans rfl

end

/-- A context marked as filled, where it is the one named. -/
theorem hot_filled (f : Ctx → Ctx) (l : List Ctx) :
    l.map (fun x => if (decide (x.adapter = ad) && decide (x.num = n)) = true then f x else x) =
      l.map (fun x => if x.adapter = ad ∧ x.num = n then f x else x) :=
  List.map_congr_left fun x _ => ite_of_iff (by rw [Bool.and_eq_true, decide_eq_true_eq, decide_eq_true_eq])

/-- The bytes of a context in its granules, and the context resident. -/
def Block.filled (b : Block) (ad : Bool) (n : Nat) (c : Ctx) : Block :=
  let bytes := b.ctxBytes ad n
  let die := (List.range c.granules.length).foldl (fun m k => mwrN m (c.granules.getD k 0 * 262144) ((bytes.drop (k * 262144)).take 262144)) b.mem.die
  { b with mem := { b.mem with die := die },
           st := { b.st with hot := b.st.hot.map (fun (x : Ctx) =>
             if x.adapter = ad ∧ x.num = n then { x with resident := true, filledTick := b.tick } else x) } }

theorem fillDone_fills {c : Ctx} (hc : b.ctx ad n = some c) (hr : c.resident = false) (hw : b.clk.mainWindow = true) :
    b.fillDone ad n =
      if ad = true then ((b.filled ad n c).setObjHot ad n 2).count F.MDL_CNT_A_FILLS
      else (((b.filled ad n c).setObjHot ad n 2).count F.MDL_CNT_A_FILLS).objPut false n 36 4
        ((((b.filled ad n c).setObjHot ad n 2).count F.MDL_CNT_A_FILLS).tick % 2 ^ 32) := by
  unfold Block.fillDone Block.filled
  rw [hc]
  dsimp only
  rw [if_neg (by rw [hr, hw]; decide), hot_filled]

/-- With no fill waiting, trying the waiting fills does nothing. -/
theorem retryFills_nothing (h : b.st.fillWait = []) : b.retryFills = b := by
  have pinned : b.pinnedWaits = [] := by
    unfold Block.pinnedWaits
    rw [h]
    exact List.filter_eq_nil_iff.2 (by simp)
  unfold Block.retryFills Block.afterPinned
  dsimp only
  rw [h, List.filter_nil, List.filter_nil, show ({ b with st := { b.st with fillWait := [] } } : Block) = b from h ▸ rfl, pinned, List.foldl_nil, pinned]
  rfl

end

/-! Image checks. -/

section
variable {b : Block} {n base : Nat}

theorem checkStatus_unreadable {k : Nat} (h : base % 64 ≠ 0 ∨ b.readable base 128 = false ∨ b.readable base (b.imgBytes k base) = false) :
    b.checkStatus k n base = 2 := by
  unfold Block.checkStatus
  refine if_pos ?_
  rw [Bool.or_eq_true, Bool.or_eq_true, decide_eq_true_eq, Bool.not_eq_true', Bool.not_eq_true', or_assoc]
  exact h

section
variable (h64 : base % 64 = 0) (h128 : b.readable base 128 = true)
include h64 h128

/-- The image's place passes: aligned, and readable as far as it says. -/
theorem image_readable {total : Nat} (h : b.readable base total = true) :
    ¬ (decide (base % 64 ≠ 0) || !b.readable base 128 || !b.readable base total) = true := by
  simp [h64, h128, h]

theorem checkStatus_vocab (h : b.readable base (b.imgBytes 0 base) = true) : b.checkStatus 0 n base =
    if vocOk (b.imgAt base) = true ∧ b.vocabIdNew n (iu (b.imgAt base) 8 4) = true then 0 else 2 :=
  (if_neg (image_readable h64 h128 h)).trans (ite_of_iff (by rw [Bool.and_eq_true]))

theorem checkStatus_grammar (h : b.readable base (b.imgBytes 1 base) = true) : b.checkStatus 1 n base =
    if b.grammarOk (b.imgAt base) = false then 2 else if 4096 ≤ b.loadedCount 1 (b.ob.grammars.map (·.1)) then 4 else 0 :=
  (if_neg (image_readable h64 h128 h)).trans (ite_of_iff (by rw [Bool.not_eq_true']))

theorem checkStatus_stop (h : b.readable base (b.imgBytes 2 base) = true) : b.checkStatus 2 n base =
    if b.stopOk (b.imgAt base) = false then 2 else if 4096 ≤ b.loadedCount 2 (b.ob.stops.map (·.1)) then 4 else 0 :=
  (if_neg (image_readable h64 h128 h)).trans (ite_of_iff (by rw [Bool.not_eq_true']))

theorem checkStatus_matcher (h : b.readable base (b.imgBytes 3 base) = true) : b.checkStatus 3 n base =
    if b.matcherOk (b.imgAt base) = false then 2
    else if n = 0 ∨ 1023 < n ∨ b.loadedSoon 3 n (tget b.ob.msets n).isSome = true then 3
    else if 1023 ≤ b.loadedCount 3 (b.ob.msets.map (·.1)) then 4 else 0 :=
  (if_neg (image_readable h64 h128 h)).trans (ite_of_iff (by rw [Bool.not_eq_true']))

theorem checkStatus_ensemble (h : b.readable base (b.imgBytes 4 base) = true) : b.checkStatus 4 n base =
    if orchardOk (b.imgAt base) = false then 2 else if n = 0 ∨ b.loadedSoon 4 n (tget b.ob.ensembles n).isSome = true then 3
    else if b.storeFree < oUnits (b.rd0 base (b.imgBytes 4 base)) then 4 else 0 :=
  (if_neg (image_readable h64 h128 h)).trans (ite_of_iff (by rw [Bool.not_eq_true']))

end

/-- The block after a check, with the object to load at the boundary where it passed. -/
def Block.checkEnds (b : Block) (k : LoadKind) (n base : Nat) : Block :=
  let b := { b with ob := { b.ob with checks := b.ob.checks.erase (kindNum k, n, base) } }
  let st := b.checkStatus (kindNum k) n base
  let d := b.status (kindReg (kindNum k)).1 st
  let l := d.rd0 base (d.imgBytes (kindNum k) base)
  if st ≠ 0 then d
  else (d.atBoundary (2 * kindNum k + 1) n base 0 (if k = .ensemble then l else [])).cfgEvent (kindReg (kindNum k)).2 1 n (sha384 l)

theorem check_found {k : LoadKind} {c : Nat × Nat × Nat} (h : b.ob.checks.find? (fun c => c.1 == kindNum k && c.2.1 == n) = some c) :
    c = (kindNum k, n, c.2.2) := by
  have hp := List.find?_some h
  rw [Bool.and_eq_true, beq_iff_eq, beq_iff_eq] at hp
  exact Prod.ext hp.1 (Prod.ext hp.2 rfl)

theorem checkDone_found {k : LoadKind} {c : Nat × Nat × Nat} (h : b.ob.checks.find? (fun c => c.1 == kindNum k && c.2.1 == n) = some c) :
    b.checkDone (kindNum k) n = b.checkEnds k n c.2.2 := by
  rw [check_found h] at h
  unfold Block.checkDone Block.checkEnds
  rw [h]
  dsimp only
  rw [ite_of_iff kindNum_eq_four_iff]

end

/-! MODEL_LOAD_COMPLETE, by what the copy is. -/

section
variable {s : State} (ha : s.blk.alive = true) (hr : s.blk.run? = true) {ad : Bool} {n : Nat} {far : List FarRead}
include ha hr

theorem does_modelLoad : Does (.modelLoadComplete ad n far) s ((s.blk.loadDone ad n far).afterLoad ad n) := by
  have hd := does_run (show exec (.modelLoadComplete ad n far) s = execModelLoadComplete ad n far s from rfl) ha
  rwa [if_pos hr] at hd

variable (hload : s.blk.loading ad n ≠ none) (hwin : s.blk.objHere ad n = true ∨ s.blk.clk.mainWindow = true)
include hload hwin

theorem does_modelLoad_unread (hd : s.blk.objData ad n far = none) :
    Does (.modelLoadComplete ad n far) s (((s.blk.loadTaken ad n).loadFailed ad n).afterLoad ad n) := by
  rw [← loadDone_unread hload hwin hd]
  exact does_modelLoad ha hr

/-- The copy of a load written where it was read. -/
def Block.copied (b : Block) (ad : Bool) (n : Nat) (l : List Byte) : Block := (b.loadTaken ad n).wr0 ((b.loadTaken ad n).objWarm ad n) l

theorem does_modelLoad_read {l : List Byte} (hd : s.blk.objData ad n far = some l) :
    Does (.modelLoadComplete ad n far) s
      (((s.blk.copied ad n l).loadEnds ad n ((s.blk.copied ad n l).copyGood ad n (s.blk.objBytes ad n) l) l (s.blk.objBytes ad n)).afterLoad ad n) := by
  have h := loadDone_read hload hwin hd
  rw [Block.copied, ← h]
  exact does_modelLoad ha hr

end

/-- Settles O44: a load by its check, a fill and a retry by the granules, an image's check by its status. -/
theorem storeEvents : Obligations.StoreEvents := by
  intro s ha hr
  refine ⟨fun ad n far => ?_, fun b ad n => ⟨afterLoad_stays, afterLoad_fills⟩, fun ad n c hc hres hw => ?_, fun ad n h => ?_, fun h => ?_, ?_,
    fun b ad n => ⟨fillNow_of_not_fillable, fun hs hc hf hg he => ?_, fun hs hc hf hg he => ?_⟩, fun k n h => ?_, fun k n c h => ?_,
    fun b n base => ⟨fun k _ h => checkStatus_unreadable h, fun h64 h128 => ⟨fun h => ?_, fun h => ?_, fun h => ?_, fun h => ?_, fun h => ?_⟩⟩⟩
  · have nothing : s.blk.loading ad n = none ∨ (s.blk.objHere ad n = false ∧ s.blk.clk.mainWindow = false) →
        Does (.modelLoadComplete ad n far) s (s.blk.afterLoad ad n) := fun h => by
      have hd := does_modelLoad ha hr (ad := ad) (n := n) (far := far)
      rwa [loadDone_nothing h] at hd
    refine ⟨fun hl hw => ?_, fun h => nothing (h.imp_right fun h => ⟨Bool.eq_false_iff.2 fun hh => h.1 (objHere_eq_true_iff.1 hh), h.2⟩)⟩
    have hwin := hw.imp_left objHere_eq_true_iff.2
    refine ⟨fun hd => ?_, fun l hd => ⟨fun had hg => ?_, fun had hg => ?_, fun hbad => ?_⟩⟩
    · exact does_modelLoad_unread ha hr hl hwin (objData_eq.trans hd)
    · subst had
      have h := does_modelLoad_read ha hr hl hwin (objData_eq.trans hd)
      rw [show (s.blk.copied false n l).copyGood false n (s.blk.objBytes false n) l = true from hg, loadEnds_model] at h
      exact h
    · subst had
      have h := does_modelLoad_read ha hr hl hwin (objData_eq.trans hd)
      rw [show (s.blk.copied true n l).copyGood true n (s.blk.objBytes true n) l = true from beq_iff_eq.2 hg, loadEnds_adapter] at h
      exact h
    · have h := does_modelLoad_read ha hr hl hwin (objData_eq.trans hd)
      have bad : (s.blk.copied ad n l).copyGood ad n (s.blk.objBytes ad n) l = false := by
        rcases hbad with ⟨rfl, hg⟩ | ⟨rfl, hg⟩
        · exact hg
        · exact beq_eq_false_iff_ne.2 hg
      rw [bad, loadEnds_bad] at h
      exact h
  · have hd := does_run (show exec (.hotFillComplete ad n) s = execHotFillComplete ad n s from rfl) ha
    rw [if_pos hr, fillDone_fills hc hres hw] at hd
    cases ad
    · exact hd
    · exact hd
  · have hd := does_run (show exec (.hotFillComplete ad n) s = execHotFillComplete ad n s from rfl) ha
    rw [if_pos hr, fillDone_nothing h] at hd
    exact hd
  · refine stays_of_run (show exec .fillRetry s = execFillRetry s from rfl) ?_
    rw [if_pos hr, retryFills_nothing h]
  · have hd := does_run (show exec .fillRetry s = execFillRetry s from rfl) ha
    rw [if_pos hr, Block.retryFills, Block.afterPinned] at hd
    dsimp only at hd
    simp only [List.isEmpty_iff] at hd
    exact hd
  · exact (fillNow_of_no_eviction hs hc hf he).trans (if_pos hg)
  · exact (fillNow_of_no_eviction hs hc hf he).trans (if_neg (Nat.not_lt.2 hg))
  · refine stays_of_run rfl ((if_pos hr).trans ?_)
    unfold Block.checkDone
    rw [h]
  · have hd := does_run (show exec (.loadCheckComplete k n) s = execLoadCheckComplete k n s from rfl) ha
    rw [if_pos hr, checkDone_found h, Block.checkEnds, ← check_found h] at hd
    refine ⟨fun hst => ?_, fun hst => ?_⟩
    · rw [if_pos hst] at hd
      exact hd
    · rw [if_neg (Decidable.not_not.2 hst)] at hd
      exact hd
  · exact checkStatus_vocab h64 h128 h
  · exact checkStatus_grammar h64 h128 h
  · exact checkStatus_stop h64 h128 h
  · exact checkStatus_matcher h64 h128 h
  · exact checkStatus_ensemble h64 h128 h

end Sys2Proof.Machine
end

section
/-! PROOF. Register writes by field class, and commit groups (R15, R17, R415 to R419). -/
namespace Sys2Proof.Machine
open Sys2Proof

/-! A write of one field, and of a register. -/

/-- A write of a field changes no other register in force. -/
theorem putField_reg_other (b : Block) {off o : Nat} (v : Word) (f : FDesc) (h : o ≠ off) : (b.putField off v f).reg o = b.reg o := by
  unfold Block.putField
  dsimp only
  split
  · rfl
  · split
    · rfl
    · exact Block.setReg_other _ _ h
    · exact Block.setReg_other _ _ h
    · exact Block.setReg_other _ _ h
    · rfl
    · rfl

theorem putFields_reg_other {off o : Nat} (v : Word) (h : o ≠ off) (l : List FDesc) (b : Block) :
    (l.foldl (fun c f => c.putField off v f) b).reg o = b.reg o := by
  induction l generalizing b with
  | nil => rfl
  | cons f l ih => exact (ih _).trans (putField_reg_other b v f h)

/-- A register write that stands changes no other register in force, where it is not LGR_FAULT. -/
theorem written_reg_other (b : Block) (src : RegSrc) {off o : Nat} (v : Word) (hf : off ≠ 0x03B0) (h : o ≠ off) :
    (b.written src off v).reg o = b.reg o := by
  unfold Block.written
  split
  · rfl
  · dsimp only
    rw [if_neg hf]
    exact putFields_reg_other v h _ b

/-- A register write that stands leaves the stage, unless it is of STA_STAT or LGR_FAULT. -/
theorem written_run {b : Block} {src : RegSrc} {off : Nat} {v : Word} (hf : off ≠ 0x03B0) (h : F.STA_STAT_STAGE.off ≠ off) :
    (b.written src off v).run? = b.run? := by
  unfold Block.run? Block.stage Block.fget
  rw [written_reg_other b src v hf h]

section
variable {b : Block} {off : Nat} {v : Word} {f : FDesc}

/-- A field that stands in the register and is not its OP is put by its class. -/
theorem putField_eq (hsem : ¬ (0x1100 ≤ off ∧ off < 0x1200)) (hr : f.resv = false) (hop : (opFld off).map (·.lo) ≠ some f.lo) :
    b.putField off v f = (match f.acc with
    | .ro => b
    | .w1c => b.fset ⟨off, f.lo, f.wid⟩ (b.fget ⟨off, f.lo, f.wid⟩ &&& (2 ^ f.wid - 1 - bits v.toNat f.lo f.wid))
    | .rw | .rwi => b.fset ⟨off, f.lo, f.wid⟩ (bits v.toNat f.lo f.wid)
    | .rwt => { b with regs := { b.regs with pend := mergeHeld b.regs.pend off (fmask f.lo f.wid) v.toNat } }
    | .rwg => { b with regs := { b.regs with staged := mergeHeld b.regs.staged off (fmask f.lo f.wid) v.toNat } }) := by
  have op : ((opFld off).map (fun o => o.lo == f.lo)).getD false = false := by
    rcases h : opFld off with _ | o
    · rfl
    · rw [h] at hop
      exact beq_eq_false_iff_ne.2 fun e => hop (congrArg some e)
  unfold Block.putField
  exact (if_neg (by rw [hr, op, decide_eq_false hsem]; decide)).trans rfl

theorem putField_w1c_testBit (hw : f.lo + f.wid ≤ 64) (h : b.putField off v f =
      b.fset ⟨off, f.lo, f.wid⟩ (b.fget ⟨off, f.lo, f.wid⟩ &&& (2 ^ f.wid - 1 - bits v.toNat f.lo f.wid))) (i : Nat) :
    ((b.putField off v f).fget ⟨off, f.lo, f.wid⟩).testBit i =
      ((b.fget ⟨off, f.lo, f.wid⟩).testBit i && !(bits v.toNat f.lo f.wid).testBit i) := by
  have old : b.fget ⟨off, f.lo, f.wid⟩ < 2 ^ f.wid := fget_lt b ⟨off, f.lo, f.wid⟩
  have new : bits v.toNat f.lo f.wid < 2 ^ f.wid := Nat.mod_lt _ (Nat.two_pow_pos _)
  rw [h, fget_fset_same _ _ _ hw, Nat.mod_eq_of_lt (Nat.lt_of_le_of_lt Nat.and_le_left old), Nat.testBit_and,
    show 2 ^ f.wid - 1 - bits v.toNat f.lo f.wid = 2 ^ f.wid - (bits v.toNat f.lo f.wid + 1) by omega, Nat.testBit_two_pow_sub_succ new]
  by_cases hi : i < f.wid
  · rw [decide_eq_true hi, Bool.true_and]
  · rw [Nat.testBit_lt_two_pow (Nat.lt_of_lt_of_le old (Nat.pow_le_pow_right (by decide) (Nat.le_of_not_lt hi))), Bool.false_and, Bool.false_and]

end

/-! A write named by its offset. -/

section
variable {b : Block} {src : RegSrc} {off : Nat} {v : Word}

/-- A write of no register is answered NO_REGISTER. -/
theorem anyWrite_none (h : findReg off = none) : b.anyWrite src off v = b.respond src 6 := by
  by_cases hs : 0x1100 ≤ off ∧ off < 0x1200
  · have align : off % 8 ≠ 0 := fun h8 => by
      have hn : (off - 0x1100) / 8 < 32 := by omega
      have found := findReg_sem ⟨(off - 0x1100) / 8, hn⟩
      rw [show 0x1100 + 8 * ((off - 0x1100) / 8) = off by omega, h] at found
      exact absurd found.symm (Option.some_ne_none _)
    unfold Block.anyWrite
    rw [if_neg fun g => align g.2.2]
    split
    case h_18 => exact regWrite_none h _
    all_goals omega
  · obtain ⟨busy, act, e⟩ := anyWrite_regWrite b src off v hs (by rintro rfl; exact absurd h (by decide))
    rw [e, regWrite_none h]

/-- Whether a command may start now matters to a write that starts none nothing. -/
theorem accepts_busy (h : b.accepts src off v false) (hop : opOf off v = 0) (busy : Bool) : b.accepts src off v busy := by
  obtain ⟨r, hr, hu, ht⟩ := h
  refine ⟨r, hr, hu, ?_⟩
  unfold Block.regTest at ht ⊢
  simp only [decide_eq_false (Decidable.not_not.2 hop), Bool.and_false] at ht ⊢
  exact ht

variable (hsem : ¬ (0x1100 ≤ off ∧ off < 0x1200)) (hlog : off ≠ 0x0E30)
include hsem hlog

/-- A write that fails a test shows the status of the test. -/
theorem anyWrite_refused {r : RDesc} (hr : findReg off = some r) (hu : (b.run? || ownRules off) = true) (ht : b.regTest src r off v false ≠ 0) :
    b.anyWrite src off v = b.respond src (b.regTest src r off v false) := by
  obtain ⟨busy, act, e⟩ := anyWrite_regWrite b src off v hsem hlog
  have same := regTest_busy b src r off v busy ht
  rw [e, regWrite_refuses hr hu (same ▸ ht), same]

/-- A write that starts no command stands. -/
theorem anyWrite_stands (h : b.accepts src off v false) (hop : opOf off v = 0) : b.anyWrite src off v = b.written src off v := by
  obtain ⟨busy, act, e⟩ := anyWrite_regWrite b src off v hsem hlog
  rw [e, regWrite_accepts (accepts_busy h hop busy), if_pos hop]

end

/-- A request whose parity holds, or whose source has none, is performed. -/
theorem parity_ok (b : Block) (src : RegSrc) (f : Block → Block) : b.parity src true f = f b := rfl

/-- A request of bad parity at a management port. -/
theorem parity_bad (b : Block) {src : RegSrc} (f : Block → Block) (h : src = .portA ∨ src = .portB) :
    b.parity src false f = (b.count F.MGT_CNT_PORT_PARITY).respond src 7 := by
  rcases h with rfl | rfl <;> rfl

/-- Settles O47: a write is refused, answered, or done field by field, and a field by its class. -/
theorem registerWrites : Obligations.RegisterWrites := by
  intro s src off v ha
  have run : ∀ ok, Does (.registerWrite src off v ok) s (s.blk.parity src ok (fun b => b.anyWrite src off v)) := fun ok =>
    does_run (show exec (.registerWrite src off v ok) s = execRegisterWrite src off v ok s from rfl) ha
  have good := run true
  rw [parity_ok] at good
  refine ⟨fun h => ?_, fun hs hl r hr hu ht => ?_, fun hs hl h hop => ?_, fun hl h => ?_, fun hp => ?_, fun hs f hr hw hop => ?_⟩
  · rwa [anyWrite_none h] at good
  · rwa [anyWrite_refused hs hl hr hu ht] at good
  · rwa [anyWrite_stands hs hl h hop] at good
  · subst hl
    rwa [anyWrite_logTaken h] at good
  · have bad := run false
    rwa [parity_bad _ _ hp] at bad
  · have put := putField_eq (b := s.blk) (v := v) hs hr hop
    refine ⟨fun hacc => ?_, fun hacc => ?_, fun hacc o => ?_⟩
    · have new : bits v.toNat f.lo f.wid < 2 ^ f.wid := Nat.mod_lt _ (Nat.two_pow_pos _)
      rcases hacc with hacc | hacc <;>
      · rw [hacc] at put
        rw [put, fget_fset_same _ _ _ hw, Nat.mod_eq_of_lt new]
    · rw [hacc] at put
      exact putField_w1c_testBit hw put
    · have same : (s.blk.putField off v f).regs.cur = s.blk.regs.cur := by
        rcases hacc with hacc | hacc | hacc
        · rw [put, hacc]
        · rw [put, hacc]
        · rw [put, hacc]
      exact congrArg (fun t => tgetD t o 0) same

/-! Commit groups. -/

theorem tget_eq_none {α : Type} {t : Tbl α} {i : Nat} (h : ∀ p ∈ t, p.1 ≠ i) : tget t i = none := by
  induction t with
  | nil => rfl
  | cons p t ih => exact (if_neg (h p List.mem_cons_self)).trans (ih fun q hq => h q (List.mem_cons_of_mem p hq))

/-- What a table holds once every row of a list has put its value at its own key. -/
theorem tgetD_foldl_tset {α β : Type} (k : β → Nat) (f : β → α) (d : α) :
    ∀ {l : List β} (t : Tbl α), (l.map k).Nodup → ∀ x ∈ l, tgetD (l.foldl (fun t x => tset t (k x) (f x)) t) (k x) d = f x := by
  have outside : ∀ (l : List β) (t : Tbl α) {j : Nat}, (∀ y ∈ l, k y ≠ j) → tgetD (l.foldl (fun t x => tset t (k x) (f x)) t) j d = tgetD t j d := by
    intro l
    induction l with
    | nil => exact fun _ _ _ => rfl
    | cons y l ih =>
      intro t j h
      exact (ih _ fun z hz => h z (List.mem_cons_of_mem y hz)).trans (tgetD_tset_other _ _ _ (h y List.mem_cons_self).symm)
  intro l
  induction l with
  | nil => exact fun _ _ _ hx => absurd hx List.not_mem_nil
  | cons y l ih =>
    intro t hn x hx
    obtain ⟨hy, hl⟩ := List.nodup_cons.1 hn
    rcases List.mem_cons.1 hx with rfl | hx
    · refine (outside l _ fun z hz e => hy ?_).trans (tgetD_tset_same _ _ _ _)
      exact e ▸ List.mem_map_of_mem hz
    · exact ih _ hl x hx

theorem groupRegs_nodup (g : Fin 16) : ((groupRegs g).map (·.off)).Nodup := by
  revert g
  decide +kernel

/-- The digest of the configuration belongs to no commit group. -/
theorem groupRegs_not_digest (g : Fin 16) : ∀ d ∈ groupRegs g, d.off ≠ F.STA_CFG_DIGEST.off := by
  revert g
  decide +kernel

/-- The word of MGT_COMMIT reads as it was put. -/
theorem commitWord (g : Fin 16) : bits (cmdWord [(0, g.1), (8, 1)]).toNat 0 5 = g.1 ∧ bits (cmdWord [(0, g.1), (8, 2)]).toNat 0 5 = g.1 ∧
    opOf 0x1008 (cmdWord [(0, g.1), (8, 1)]) = 1 ∧ opOf 0x1008 (cmdWord [(0, g.1), (8, 2)]) = 2 := by
  revert g
  decide +kernel

section
variable (b : Block) (g : Nat)

/-- An abort leaves no staged value of its group. -/
theorem abortGroup_gone {d : RDesc} (hd : d ∈ groupRegs g) : ∀ p ∈ (b.abortGroup g).regs.staged, p.1 ≠ d.off := by
  intro p hp e
  obtain ⟨_, hk⟩ := List.mem_filter.1 hp
  rw [Bool.not_eq_true', List.any_eq_false] at hk
  exact hk d hd (beq_iff_eq.2 e.symm)

/-- An abort keeps the staged values of every other group. -/
theorem abortGroup_keeps {p : Nat × (Word × Word)} (hp : p ∈ b.regs.staged) (h : ∀ d ∈ groupRegs g, p.1 ≠ d.off) :
    p ∈ (b.abortGroup g).regs.staged := by
  refine List.mem_filter.2 ⟨hp, ?_⟩
  rw [Bool.not_eq_true', List.any_eq_false]
  exact fun d hd e => h d hd (beq_iff_eq.1 e).symm

end

section
variable {b : Block} {src : RegSrc} {g : Nat}

/-- A refused commit notes a word for its port, and answers. -/
theorem commitRefused_eq (r : Nat × Nat) : ∃ w, b.commitRefused src g r = (match src with
    | .portB => { b with mgt := { b.mgt with diagB := w } }
    | _ => { b with mgt := { b.mgt with diagA := w } } : Block).respond src 3 := by
  refine ⟨mkWord [(0, g), (8, r.1), (16, r.2), (32, b.tick % 2 ^ 32)], ?_⟩
  cases src <;> rfl

theorem commitRefused_regs (r : Nat × Nat) : (b.commitRefused src g r).regs = b.regs := by
  obtain ⟨w, h⟩ := commitRefused_eq (b := b) (src := src) (g := g) r
  rw [h]
  cases src <;> rfl

theorem commitRefused_answer (r : Nat × Nat) : (tget (b.commitRefused src g r).mgt.rsp (srcKey src)).map (·.1) = some 3 := by
  obtain ⟨w, h⟩ := commitRefused_eq (b := b) (src := src) (g := g) r
  rw [h, Block.respond, tget_tset_same]
  rfl

variable (hr : b.run? = true)
include hr

theorem commit_refused (h : ((b.candidate g).groupCheck b g true (b.candidate g).tableBytes).1 ≠ 0) :
    b.commit src g = b.commitRefused src g ((b.candidate g).groupCheck b g true (b.candidate g).tableBytes) := by
  unfold Block.commit
  exact (if_neg (by rw [hr]; decide)).trans (if_pos h)

/-- The registers after a commit that passes: the digest of the configuration, the committed and the staged values move. -/
theorem commit_passes (h : ((b.candidate g).groupCheck b g true (b.candidate g).tableBytes).1 = 0) :
    ∃ w, (b.commit src g).regs = { b.regs with
      cur := tset b.regs.cur F.STA_CFG_DIGEST.off w
      committed := (groupRegs g).foldl (fun t d => tset t d.off ((b.candidate g).reg d.off &&& d.rwgMask)) b.regs.committed
      comPend := if b.regs.comPend.contains g then b.regs.comPend else b.regs.comPend ++ [g]
      staged := (b.abortGroup g).regs.staged } := by
  unfold Block.commit
  rw [if_neg (by rw [hr]; decide)]
  dsimp only
  rw [if_neg (Decidable.not_not.2 h)]
  split <;> split <;> exact ⟨_, rfl⟩

end

/-- MGT_COMMIT written with its tests passing. -/
theorem mgtCommit_accepts {b : Block} {src : RegSrc} {v : Word} (h : b.accepts src 0x1008 v false) (hop : opOf 0x1008 v ≠ 0) :
    b.mgtCommit src v = if opOf 0x1008 v = 1 then (b.written src 0x1008 v).commit src (bits v.toNat 0 5)
      else (b.written src 0x1008 v).abortGroup (bits v.toNat 0 5) :=
  (regWrite_accepts h _).trans (if_neg hop)

/-- Settles O48: a commit by the group's check, an abort by the group's registers. -/
theorem commitAndAbort : Obligations.CommitAndAbort := by
  intro s src g ha hr hg
  obtain ⟨gc, gab, oc, oab⟩ := commitWord ⟨g, hg⟩
  have low : g % 32 = g := Nat.mod_eq_of_lt (Nat.lt_trans hg (by decide))
  have commit : ∀ ok, exec (.mgtCommitGroup src g ok) s = s.run (fun b => b.parity src ok fun b => b.mgtCommit src (cmdWord [(0, g), (8, 1)])) :=
    fun ok => (show exec (.mgtCommitGroup src g ok) s = execMgtCommitGroup src g ok s from rfl).trans (by rw [execMgtCommitGroup, low])
  have abort : ∀ ok, exec (.mgtAbortGroup src g ok) s = s.run (fun b => b.parity src ok fun b => b.mgtCommit src (cmdWord [(0, g), (8, 2)])) :=
    fun ok => (show exec (.mgtAbortGroup src g ok) s = execMgtAbortGroup src g ok s from rfl).trans (by rw [execMgtAbortGroup, low])
  refine ⟨fun h => ?_, fun h => ?_, fun hp => ⟨?_, ?_⟩⟩
  · have run : (s.blk.written src 0x1008 (cmdWord [(0, g), (8, 1)])).run? = true := (written_run (by decide) (by decide)).trans hr
    have hd := does_run (commit true) ha
    rw [parity_ok, mgtCommit_accepts h (by rw [oc]; decide), if_pos oc, gc] at hd
    refine ⟨fun hbad => ?_, fun hok => ?_⟩
    · rw [commit_refused run hbad] at hd
      exact ⟨_, hd, commitRefused_regs _, commitRefused_answer _⟩
    · obtain ⟨w, hw⟩ := commit_passes run hok
      refine ⟨_, hd, fun d hd => ?_, fun d hd => ?_, ?_, fun d hd => ?_⟩
      · rw [hw]
        exact tgetD_foldl_tset (fun d => d.off)
          (fun d => ((s.blk.written src 0x1008 (cmdWord [(0, g), (8, 1)])).candidate g).reg d.off &&& d.rwgMask) 0 _ (groupRegs_nodup ⟨g, hg⟩) d hd
      · rw [hw]
        exact tget_eq_none (abortGroup_gone _ g hd)
      · rw [hw]
        dsimp only
        split
        · next hc => exact List.contains_iff_mem.1 hc
        · exact List.mem_append_right _ List.mem_cons_self
      · rw [Block.reg, hw]
        exact tgetD_tset_other _ _ _ (groupRegs_not_digest ⟨g, hg⟩ d hd)
  · have hd := does_run (abort true) ha
    rw [parity_ok, mgtCommit_accepts h (by rw [oab]; decide), if_neg (by rw [oab]; decide), gab] at hd
    exact ⟨_, hd, rfl, fun d hd => abortGroup_gone _ g hd, fun p hp h => abortGroup_keeps _ g hp h⟩
  · have hd := does_run (commit false) ha
    rwa [parity_bad _ _ hp] at hd
  · have hd := does_run (abort false) ha
    rwa [parity_bad _ _ hp] at hd

end Sys2Proof.Machine
end

section
/-! PROOF. The packets of the Stem ports and of the links (R381, R382, R408 to R413, R433). -/
namespace Sys2Proof.Machine
open Sys2Proof

/-! Packets of a Stem port. -/

section
variable {b : Block} {p : Pkt} {kind : Nat}

theorem stemPort_absent (h : 8 ≤ p.port ∨ (b.stemAt p.port).up = false) : 8 ≤ p.port ∨ (!(b.stemAt p.port).up) = true :=
  h.imp_right fun h => by rw [h]; rfl

/-- A port that is down, or not there, takes no packet. -/
theorem stemRequest_down (h : 8 ≤ p.port ∨ (b.stemAt p.port).up = false) : b.stemRequest kind p = b := if_pos (stemPort_absent h)

theorem stemResponse_down (h : 8 ≤ p.port ∨ (b.stemAt p.port).up = false) : b.stemResponse kind p = b := if_pos (stemPort_absent h)

variable (hp : p.port < 8) (hu : (b.stemAt p.port).up = true)
include hp hu

theorem stemPort_there : ¬ (8 ≤ p.port ∨ (!(b.stemAt p.port).up) = true) := by
  rw [hu]
  exact not_or.2 ⟨Nat.not_le.2 hp, Bool.false_ne_true⟩

theorem stemRequest_badHeader (hh : p.headerOk = false) : b.stemRequest kind p = b.stemError p.port F.MGT_STEM_PAR_ERR true :=
  (if_neg (stemPort_there hp hu)).trans (if_pos (by rw [hh]; rfl))

theorem stemResponse_badHeader (hh : p.headerOk = false) : b.stemResponse kind p = b.stemError p.port F.MGT_STEM_PAR_ERR true :=
  (if_neg (stemPort_there hp hu)).trans (if_pos (by rw [hh]; rfl))

variable (hh : p.headerOk = true)
include hh

theorem stemRequest_badPayload (hd : p.payloadOk = false) : b.stemRequest kind p =
    (((b.rmFail 5 false true).count (F.MGT_STEM_ERR_RSP.at p.port)).answer p.port (errRsp p.tag 5 1)).stemError p.port F.MGT_STEM_PAR_ERR true :=
  ((if_neg (stemPort_there hp hu)).trans (if_neg (by rw [hh]; decide))).trans (if_pos (by rw [hd]; rfl))

variable (hd : p.payloadOk = true)
include hd

theorem stemRequest_good : b.stemRequest kind p =
    ((if (b.inbound (.stem p.port) 3 kind p).2.kind = 10 then (b.inbound (.stem p.port) 3 kind p).1.count (F.MGT_STEM_ERR_RSP.at p.port)
      else (b.inbound (.stem p.port) 3 kind p).1).answer p.port (b.inbound (.stem p.port) 3 kind p).2).settled :=
  ((if_neg (stemPort_there hp hu)).trans (if_neg (by rw [hh]; decide))).trans (if_neg (by rw [hd]; decide))

/-- The block in which a response of good parity is looked for: an RSP_ERR is counted first. -/
def Block.rspSeen (b : Block) (kind port : Nat) : Block := if kind = 10 then b.count (F.MGT_STEM_ERR_RSP.at port) else b

theorem stemResponse_answered {c : Block} (hc : b.rspSeen kind p.port = c) {o : OutOp} (ho : c.answered p.port kind p = some o) :
    b.stemResponse kind p = (c.finishOut o (rspRes kind p)).settled := by
  subst hc
  refine (if_neg (stemPort_there hp hu)).trans ((if_neg (by rw [hh]; decide)).trans ?_)
  unfold Block.rspSeen at ho ⊢
  dsimp only
  rw [if_pos hd, ho]

theorem stemResponse_dropped {c : Block} (hc : b.rspSeen kind p.port = c) (ho : c.answered p.port kind p = none) :
    b.stemResponse kind p = c.stemError p.port F.MGT_STEM_DROP false := by
  subst hc
  refine (if_neg (stemPort_there hp hu)).trans ((if_neg (by rw [hh]; decide)).trans ?_)
  unfold Block.rspSeen at ho ⊢
  dsimp only
  rw [if_pos hd, ho]

end

/-! Packets of a link. -/

section
variable {b : Block} {p : Pkt} {l kind : Nat} (hl : l < 64) (hk : (b.linkAt l).live = true)
include hl hk

theorem link_there : ¬ (64 ≤ l ∨ (!(b.linkAt l).live) = true) := by
  rw [hk]
  exact not_or.2 ⟨Nat.not_le.2 hl, Bool.false_ne_true⟩

theorem linkRequest_known (h : kind ≤ 4) : b.linkRequest l kind p =
    ((((b.freeRx l 0 p.data).inbound (.link l) 8 kind p).1.answer (64 + l) ((b.freeRx l 0 p.data).inbound (.link l) 8 kind p).2).settled) :=
  (if_neg (link_there hl hk)).trans (if_neg (Nat.not_lt.2 h))

theorem linkRequest_unknown (h : 4 < kind) : b.linkRequest l kind p =
    (((b.freeRx l 0 p.data).rmFail 1 false true).answer (64 + l) (errRsp p.tag 1 0)).settled :=
  (if_neg (link_there hl hk)).trans (if_pos h)

theorem linkResponse_answered {o : OutOp} (h : kind = 8 ∨ kind = 9 ∨ kind = 10) (ho : (b.freeRx l 1 p.data).answered (64 + l) kind p = some o) :
    b.linkResponse l kind p = ((b.freeRx l 1 p.data).finishOut o (rspRes kind { p with payloadOk := true })).settled := by
  have known : (!(kind == 8 || kind == 9 || kind == 10)) = false := by rcases h with rfl | rfl | rfl <;> rfl
  unfold Block.linkResponse
  rw [if_neg (by rw [known, ← or_assoc]; exact not_or.2 ⟨link_there hl hk, Bool.false_ne_true⟩)]
  dsimp only
  rw [ho]

end

/-! Spaces closed to writes and atomics from outside (R381, R382). -/

/-- A write or an atomic of a port or a link, to a space other than 0 and 4, is not permitted. -/
theorem permits_closed {b : Block} {src : Src} (hs : ∃ n, src = .stem n ∨ src = .link n) {k : OpKind} (hk : k ≠ .read) {space off len : Nat}
    (h : space = 1 ∨ space = 2 ∨ space = 3) : b.permits src k space off len = false := by
  have wr : (k != .read) = true := bne_iff_ne.2 hk
  obtain ⟨n, rfl | rfl⟩ := hs <;> rcases h with rfl | rfl | rfl <;> simp [Block.permits, wr]

theorem homeErr_closed {b : Block} {src : Src} (hs : ∃ n, src = .stem n ∨ src = .link n) {k : OpKind} (hk : k ≠ .read) {a len : Nat} {bulk size4 : Bool}
    (h : gaSpace a = 1 ∨ gaSpace a = 2 ∨ gaSpace a = 3) : b.homeErr src k a len bulk size4 = 3 := by
  unfold Block.homeErr
  dsimp only
  rw [if_neg (by omega), permits_closed hs hk h]
  rfl

section
variable {b : Block} {src : Src} (hs : ∃ n, src = .stem n ∨ src = .link n) {a : Nat} (h : gaSpace a = 1 ∨ gaSpace a = 2 ∨ gaSpace a = 3)
include hs h

theorem homeWrite_closed (l : List Byte) (bulk size4 : Bool) : b.homeWrite src a l bulk size4 = .error (3, 0) := by
  unfold Block.homeWrite
  rw [homeErr_closed hs (by decide) h]
  rfl

theorem homeAtomic_closed {k : OpKind} (hk : k ≠ .read) (size4 : Bool) (f : Nat → Option Nat) : b.homeAtomic src k a size4 f = .error (3, 0) := by
  unfold Block.homeAtomic
  dsimp only
  rw [homeErr_closed hs hk h]
  rfl

end

/-- An inbound write or atomic to a closed space is refused with some code. -/
theorem inbound_closed {b : Block} {src : Src} (hs : ∃ n, src = .stem n ∨ src = .link n) {wrong kind : Nat} {p : Pkt} (hk : 1 ≤ kind)
    (h : gaSpace p.addr.toNat = 1 ∨ gaSpace p.addr.toNat = 2 ∨ gaSpace p.addr.toNat = 3 ∨ gaSpace p.addr.toNat = 5 ∨ gaSpace p.addr.toNat = 6) :
    ∃ code detail, b.inbound src wrong kind p = (b.rmFail code false true, errRsp p.tag code detail) := by
  unfold Block.inbound
  dsimp only
  by_cases hbad : pktBad kind p ≠ 0
  · rw [if_pos hbad]
    exact ⟨_, _, rfl⟩
  rw [if_neg hbad]
  by_cases hnode : gaNode p.addr.toNat ≠ b.node
  · rw [if_pos hnode]
    exact ⟨_, _, rfl⟩
  rw [if_neg hnode]
  by_cases hfree : gaSpace p.addr.toNat = 5 ∨ gaSpace p.addr.toNat = 6
  · rw [if_pos hfree]
    exact ⟨_, _, rfl⟩
  have closed : gaSpace p.addr.toNat = 1 ∨ gaSpace p.addr.toNat = 2 ∨ gaSpace p.addr.toNat = 3 := by omega
  rw [if_neg hfree, if_neg (by omega)]
  split
  · rw [homeWrite_closed hs closed]
    exact ⟨_, _, rfl⟩
  · rw [homeAtomic_closed hs closed (by split <;> decide)]
    exact ⟨_, _, rfl⟩

/-- A failed inbound operation moves only the registers that count failed operations. -/
theorem rmFail_inbound_fget (b : Block) (code : Nat) {f : Fld}
    (h : f.off ∉ [F.LNK_RM_EVT_CODE.off, F.LNK_RM_CNT_A_FAR.off, F.LNK_RM_CNT_B_TIMEOUT.off]) :
    (b.rmFail code false true).fget f = b.fget f := by
  simp only [List.mem_cons, List.not_mem_nil, or_false, not_or] at h
  obtain ⟨he, _, hc⟩ := h
  exact (fget_count_off _ _ _ hc).trans (fget_evt_off _ _ _ he)

theorem does_stemRequests {s : State} (ha : s.blk.alive = true) (p : Pkt) : Does (.stemRead p) s (s.blk.stemRequest 0 p) ∧
    Does (.stemWrite p) s (s.blk.stemRequest 1 p) ∧ Does (.stemAadd p) s (s.blk.stemRequest 2 p) ∧ Does (.stemFadd p) s (s.blk.stemRequest 3 p) ∧
    Does (.stemCas p) s (s.blk.stemRequest 4 p) := by
  have read := does_run (show exec (.stemRead p) s = execStemRead p s from rfl) ha
  have write := does_run (show exec (.stemWrite p) s = execStemWrite p s from rfl) ha
  have aadd := does_run (show exec (.stemAadd p) s = execStemAadd p s from rfl) ha
  have fadd := does_run (show exec (.stemFadd p) s = execStemFadd p s from rfl) ha
  have cas := does_run (show exec (.stemCas p) s = execStemCas p s from rfl) ha
  exact ⟨read, write, aadd, fadd, cas⟩

theorem does_stemResponses {s : State} (ha : s.blk.alive = true) (p : Pkt) : Does (.stemRspData p) s (s.blk.stemResponse 8 p) ∧
    Does (.stemRspAck p) s (s.blk.stemResponse 9 p) ∧ Does (.stemRspErr p) s (s.blk.stemResponse 10 p) := by
  have data := does_run (show exec (.stemRspData p) s = execStemRspData p s from rfl) ha
  have ack := does_run (show exec (.stemRspAck p) s = execStemRspAck p s from rfl) ha
  have err := does_run (show exec (.stemRspErr p) s = execStemRspErr p s from rfl) ha
  exact ⟨data, ack, err⟩

/-- Settles O55: a request by its parity and kind, a response by what it answers, and the spaces no inbound write reaches. -/
theorem stemPackets : Obligations.StemPackets := by
  intro s p ha
  have asked := does_stemRequests ha p
  have told := does_stemResponses ha p
  refine ⟨fun hp hu hh hd => ?_, fun hp hu hh hd => ?_, fun hp hu hh => ?_, fun h => ?_, fun hp hu hh hd => ?_, fun l hl hk => ?_,
    fun b src wrong kind hs h1 h4 hspace => ?_⟩
  · simp only [stemRequest_good hp hu hh hd] at asked
    exact asked
  · simp only [stemRequest_badPayload hp hu hh hd] at asked
    exact asked
  · simp only [stemRequest_badHeader hp hu hh] at asked
    simp only [stemResponse_badHeader hp hu hh] at told
    obtain ⟨read, write, aadd, fadd, cas⟩ := asked
    exact ⟨read, write, aadd, fadd, cas, told⟩
  · simp only [stemRequest_down h] at asked
    simp only [stemResponse_down h] at told
    obtain ⟨read, write, aadd, fadd, cas⟩ := asked
    exact ⟨read, write, aadd, fadd, cas, told⟩
  · obtain ⟨data, ack, err⟩ := told
    have seen8 : s.blk.rspSeen 8 p.port = s.blk := if_neg (by decide)
    have seen9 : s.blk.rspSeen 9 p.port = s.blk := if_neg (by decide)
    have seen10 : s.blk.rspSeen 10 p.port = s.blk.count (F.MGT_STEM_ERR_RSP.at p.port) := if_pos rfl
    refine ⟨fun o ho => ?_, fun o ho => ?_, fun o ho => ?_, fun ho => ?_, fun ho => ?_⟩
    · rw [stemResponse_answered hp hu hh hd seen8 ho] at data
      exact data
    · rw [stemResponse_answered hp hu hh hd seen9 ho] at ack
      exact ack
    · rw [stemResponse_answered hp hu hh hd seen10 ho] at err
      exact err
    · rw [stemResponse_dropped hp hu hh hd seen8 ho] at data
      exact data
    · rw [stemResponse_dropped hp hu hh hd seen9 ho] at ack
      exact ack
  · refine ⟨fun kind h => ?_, fun kind h => ?_, fun kind o h ho => ?_⟩
    · have hd := does_run (show exec (.linkRequestPacket l kind p) s = execLinkRequestPacket l kind p s from rfl) ha
      rwa [linkRequest_known hl hk h] at hd
    · have hd := does_run (show exec (.linkRequestPacket l kind p) s = execLinkRequestPacket l kind p s from rfl) ha
      rwa [linkRequest_unknown hl hk h] at hd
    · have hd := does_run (show exec (.linkResponsePacket l kind p) s = execLinkResponsePacket l kind p s from rfl) ha
      rwa [linkResponse_answered hl hk h ho] at hd
  · simp only [List.mem_cons, List.not_mem_nil, or_false] at hspace
    obtain ⟨code, detail, e⟩ := inbound_closed (b := b) (p := p) (wrong := wrong) hs h1 hspace
    rw [e]
    exact ⟨rfl, rfl, rfl, fun f hf => rmFail_inbound_fget b code hf⟩

end Sys2Proof.Machine
end

section
/-! PROOF. The ports of the Stem, and the flits, training and watching of the links (R404 to R408, R430 to R443). -/
namespace Sys2Proof.Machine
open Sys2Proof

section
variable {b : Block} {p l : Nat}

/-- A port that is there and up. -/
theorem stemPort_up (hp : p < 8) (hu : (b.stemAt p).up = true) : ¬ (8 ≤ p ∨ (!(b.stemAt p).up) = true) := by
  rw [hu]
  exact not_or.2 ⟨Nat.not_le.2 hp, Bool.false_ne_true⟩

theorem stemPort_off (h : 8 ≤ p ∨ (b.stemAt p).up = false) : 8 ≤ p ∨ (!(b.stemAt p).up) = true :=
  h.imp_right fun h => by rw [h]; rfl

theorem stemCredits_returned {vc n : Nat} (hp : p < 8) (hu : (b.stemAt p).up = true) (hv : vc ≤ 1) (h1 : 1 ≤ n) (h15 : n ≤ 15) :
    b.stemCredits p vc n = (b.setStem p { (b.stemAt p) with
      req := (b.stemAt p).req + (if vc = 0 then n else 0), rsp := (b.stemAt p).rsp + (if vc = 1 then n else 0) }).trySend := by
  unfold Block.stemCredits
  dsimp only
  rw [if_neg (by rw [hu, Bool.not_true]; simp only [Bool.false_eq_true, false_or]; omega)]
  obtain rfl | rfl : vc = 0 ∨ vc = 1 := by omega
  · rfl
  · rfl

theorem stemCredits_off {vc n : Nat} (h : 8 ≤ p ∨ (b.stemAt p).up = false) : b.stemCredits p vc n = b :=
  if_pos ((stemPort_off h).imp_right .inl)

theorem stemUp_down (hp : p < 8) (hu : (b.stemAt p).up = false) (hr : (b.stemAt p).retired = false) :
    b.stemUp p = (b.setStem p { (b.stemAt p) with up := true, req := 0, rsp := 0 }).trySend :=
  if_neg (by rw [hu, hr]; simpa using hp)

theorem stemUp_up (hu : (b.stemAt p).up = true) : b.stemUp p = b := if_pos (.inr (.inl hu))

/-! Flits of a link. -/

theorem dataFlit_taken {f : Flit} (hk : (b.linkAt l).live = true) (hc : f.crcOk = true) (hs : f.seq = ((b.linkReturns l f).linkAt l).rxSeq) (hv : f.vc ≤ 1) :
    b.dataFlit l f = (b.linkReturns l f).setLink l { ((b.linkReturns l f).linkAt l) with
      rxSeq := (((b.linkReturns l f).linkAt l).rxSeq + 1) % 4096, nakSent := false, rxHeld := vcAdd ((b.linkReturns l f).linkAt l).rxHeld f.vc 1 } :=
  (if_neg (by rw [hk]; decide)).trans (if_pos (by rw [hc, decide_eq_true hv, beq_iff_eq.2 hs]; rfl))

theorem dataFlit_discarded {f : Flit} (hk : (b.linkAt l).live = true)
    (h : f.crcOk = false ∨ f.seq ≠ ((b.linkReturns l f).linkAt l).rxSeq ∨ 1 < f.vc) :
    b.dataFlit l f = (b.linkReturns l f).setLink l { ((b.linkReturns l f).linkAt l) with nakSent := true } := by
  refine (if_neg (by rw [hk]; decide)).trans (if_neg ?_)
  rw [Bool.and_eq_true, Bool.and_eq_true, beq_iff_eq, decide_eq_true_eq]
  rintro ⟨⟨hc, hs⟩, hv⟩
  rcases h with h | h | h
  · rw [h] at hc
    exact Bool.false_ne_true hc
  · exact h hs
  · omega

theorem linkReturns_bad {f : Flit} (hc : f.crcOk = false) : b.linkReturns l f = b := if_neg (by rw [hc]; exact Bool.false_ne_true)

end

/-- Settles O56: a port by its state, a flit by its CRC, its SEQ and the link's state. -/
theorem stemPortsAndFlits : Obligations.StemPortsAndFlits := by
  intro s ha
  refine ⟨fun p vc n hp hu hv h1 h15 => ?_, fun p hp hu hr => ?_, fun p hp hu => ⟨?_, ?_, ?_⟩, fun p h => ⟨?_, ?_, fun vc n => ?_⟩,
    fun l f hl hk => ⟨fun hc hs hv => ?_, fun h => ?_, ?_, fun hc => ?_, fun hc => ⟨?_, ?_⟩⟩, fun l q r hl hq => ?_, fun l hq => ?_,
    fun l c hl hc ht => ?_, fun l c h => ?_⟩
  · have hd := does_run (show exec (.stemCreditReturn p vc n) s = execStemCreditReturn p vc n s from rfl) ha
    rwa [stemCredits_returned hp hu hv h1 h15] at hd
  · have hd := does_run (show exec (.stemPortUp p) s = execStemPortUp p s from rfl) ha
    rwa [stemUp_down hp hu hr] at hd
  · have hd := does_run (show exec (.stemPortDown p) s = execStemPortDown p s from rfl) ha
    rw [if_neg (stemPort_up hp hu)] at hd
    exact hd
  · have hd := does_run (show exec (.stemTxStall p) s = execStemTxStall p s from rfl) ha
    rw [if_neg (stemPort_up hp hu)] at hd
    exact hd
  · exact stays_of_run (show exec (.stemPortUp p) s = execStemPortUp p s from rfl) (stemUp_up hu)
  · exact stays_of_run (show exec (.stemPortDown p) s = execStemPortDown p s from rfl) (if_pos (stemPort_off h))
  · exact stays_of_run (show exec (.stemTxStall p) s = execStemTxStall p s from rfl) (if_pos (stemPort_off h))
  · exact stays_of_run (show exec (.stemCreditReturn p vc n) s = execStemCreditReturn p vc n s from rfl) (stemCredits_off h)
  · have hd := does_run (show exec (.linkDataFlit l f) s = execLinkDataFlit l f s from rfl) ha
    rw [if_neg (Nat.not_le.2 hl), dataFlit_taken hk hc hs hv] at hd
    exact hd
  · have hd := does_run (show exec (.linkDataFlit l f) s = execLinkDataFlit l f s from rfl) ha
    rw [if_neg (Nat.not_le.2 hl), dataFlit_discarded hk h] at hd
    exact hd
  · have hd := does_run (show exec (.linkIdleFlit l f) s = execLinkIdleFlit l f s from rfl) ha
    rw [if_neg (Nat.not_le.2 hl)] at hd
    exact hd
  · have hd := does_run (show exec (.linkNakFlit l f) s = execLinkNakFlit l f s from rfl) ha
    rw [if_neg (by rw [hc]; exact not_or.2 ⟨Nat.not_le.2 hl, Bool.false_ne_true⟩)] at hd
    exact hd
  · exact stays_of_run (show exec (.linkNakFlit l f) s = execLinkNakFlit l f s from rfl) (if_pos (.inr (by rw [hc]; rfl)))
  · refine stays_of_run (show exec (.linkIdleFlit l f) s = execLinkIdleFlit l f s from rfl) ?_
    rw [if_neg (Nat.not_le.2 hl), linkReturns_bad hc]
  · have hd := does_run (show exec (.linkAckTimeout l) s = execLinkAckTimeout l s from rfl) ha
    rw [if_neg (Nat.not_le.2 hl), hq] at hd
    exact hd
  · refine stays_of_run (show exec (.linkAckTimeout l) s = execLinkAckTimeout l s from rfl) ?_
    rw [hq]
    exact ite_self _
  · have trains : ((s.blk.linkAt l).state == 1 || (s.blk.linkAt l).testing) = true := by
      rw [Bool.or_eq_true, beq_iff_eq]
      exact ht
    have hd := does_run (show exec (.linkCtrlFlit l c) s = execLinkCtrlFlit l c s from rfl) ha
    dsimp only at hd
    rw [if_neg (by rw [hc, trains]; simpa using hl)] at hd
    exact hd
  · refine stays_of_run (show exec (.linkCtrlFlit l c) s = execLinkCtrlFlit l c s from rfl) (if_pos (.inr ?_))
    rcases h with h | ⟨hs, ht⟩
    · exact .inl (by rw [h]; rfl)
    · exact .inr (by rw [ht, beq_eq_false_iff_ne.2 hs]; rfl)

/-! Training a link. -/

/-- A link as it comes UP with a fresh peer on all four lanes (R437). -/
def Link.fresh4 (k : Link) (c : Ctrl) : Link :=
  { k with state := 2, fresh := false, nakSent := false, ctrl := none, peerNode := c.node, peerLink := c.link,
           retry := [], held := (c.grantReq, c.grantRsp), inflight := (0, 0), peer := (0, 0), grant := (c.grantReq, c.grantRsp),
           txSeq := c.seq % 4096, rxSeq := 0, crdSeen := (0, 0), crdGiven := (0, 0), rxHeld := (0, 0) }

section
variable {b : Block} {l : Nat}

theorem linkAt_setLink (k : Link) : (b.setLink l k).linkAt l = k := tgetD_tset_same _ _ _ _

theorem trainDone_nothing (h : (b.linkAt l).ctrl = none ∨ (b.linkAt l).signal = false) : b.trainDone l = b := by
  unfold Block.trainDone
  dsimp only
  split
  · rfl
  · next c hc =>
    have hs := h.resolve_left (by rw [hc]; exact Option.some_ne_none c)
    exact if_pos (by rw [hs]; rfl)

theorem trainDone_fresh {c : Ctrl} (hc : (b.linkAt l).ctrl = some c) (hs : (b.linkAt l).signal = true) (ht : (b.linkAt l).testing = false)
    (h1 : (b.linkAt l).state = 1) (h15 : (b.linkAt l).lanes = 15) (hf : (b.linkAt l).fresh = true) (hcf : c.fresh = true)
    (hpair : b.pairLink l = true → c.node = b.fget F.LNK_NODE_PEER ∧ c.link = l) :
    b.trainDone l = (if (((b.linkAt l).fresh4 c).live && ((b.linkAt l).fresh4 c).worn) = true then (b.setLink l ((b.linkAt l).fresh4 c)).retrain l
      else b.setLink l ((b.linkAt l).fresh4 c)).trySend := by
  have mate : ¬ (b.pairLink l && !(c.node == b.fget F.LNK_NODE_PEER && c.link == l)) = true := by
    rw [Bool.and_eq_true]
    rintro ⟨hp, hn⟩
    obtain ⟨hnode, hlink⟩ := hpair hp
    rw [beq_iff_eq.2 hnode, beq_iff_eq.2 hlink] at hn
    exact Bool.false_ne_true hn
  have lanes : popcount 4 (b.linkAt l).lanes = 4 := by rw [h15]; rfl
  unfold Block.trainDone
  dsimp only
  rw [hc]
  dsimp only
  rw [if_neg (by rw [hs]; decide), if_neg mate, if_neg (by rw [ht]; decide), if_neg (Decidable.not_not.2 h1), hf, hcf, lanes]
  refine (if_neg Bool.false_ne_true).trans ((if_neg Bool.false_ne_true).trans ((if_neg (by simp)).trans ?_))
  have again : ∀ k : Link, ((b.setLink l k).linkAt l) = k := linkAt_setLink
  simp only [if_pos, Bool.not_true, Bool.false_eq_true, if_false, again]
  rfl

end

/-- A lane in service of a link that carries traffic or trains. -/
theorem lane_watched {b : Block} {l i : Nat} (hl : l < 64) (hi : i < 4) (hk : (b.linkAt l).live = true ∨ (b.linkAt l).state = 1)
    (hb : (b.linkAt l).lanes.testBit i = true) :
    ¬ (64 ≤ l ∨ 4 ≤ i ∨ (!((b.linkAt l).live || (b.linkAt l).state == 1)) = true ∨ (!(b.linkAt l).lanes.testBit i) = true) := by
  have works : ((b.linkAt l).live || (b.linkAt l).state == 1) = true := by
    rw [Bool.or_eq_true, beq_iff_eq]
    exact hk
  rw [works, hb]
  simp only [Bool.not_true, Bool.false_eq_true, or_false]
  omega

/-- Settles O57: each event by the link's state, and a training by what the peer sent. -/
theorem linkTraining : Obligations.LinkTraining := by
  intro s l ha hl
  have there : ¬ 64 ≤ l := Nat.not_le.2 hl
  have los : ∀ x, Does (.linkLosChange l x) s _ := fun x =>
    does_run (show exec (.linkLosChange l x) s = execLinkLosChange l x s from rfl) ha
  simp only [if_neg there] at los
  refine ⟨fun x => ⟨fun h4 hx => ?_, fun h4 hx => ?_, fun h4 hx ht => ?_, fun h4 hx => ?_⟩, ?_, ?_, fun r => ?_,
    fun c hc hs ht h1 h15 hf hcf hpair => ?_, fun h => ?_, fun ht => ?_, fun ht h1 => ?_, fun ht h1 => ?_,
    fun i n lost hi hk hb => ⟨fun h => ?_, fun hn hlost => ?_⟩, fun h4 => ?_, fun h4 => ?_⟩
  · have h := los x
    rw [if_neg h4, if_pos hx] at h
    exact h
  · have h := los x
    rw [if_neg h4, if_neg (Decidable.not_not.2 hx)] at h
    exact h
  · have h := los x
    rw [if_pos h4, if_pos (by rw [ht, decide_eq_true hx]; rfl)] at h
    exact h
  · have h := los x
    have idle : ¬ (decide (2 ≤ popcount 4 ((s.blk.linkAt l).los &&& (15 - x.toNat))) && !(s.blk.linkAt l).testing) = true := by
      rw [Bool.and_eq_true, decide_eq_true_eq, Bool.not_eq_true']
      rintro ⟨h2, ht⟩
      rcases hx with hx | hx
      · omega
      · rw [ht] at hx
        exact Bool.false_ne_true hx
    rw [if_pos h4, if_neg idle] at h
    exact h
  · have hd := does_run (show exec (.oeFaultRise l) s = execOeFaultRise l s from rfl) ha
    rwa [if_neg there] at hd
  · have hd := does_run (show exec (.fecLockLoss l) s = execFecLockLoss l s from rfl) ha
    rw [if_neg there] at hd
    exact hd
  · have hd := does_run (show exec (.oeReadyChange l r) s = execOeReadyChange l r s from rfl) ha
    rw [if_neg there] at hd
    exact hd
  · have hd := does_run (show exec (.linkTrainDone l) s = execLinkTrainDone l s from rfl) ha
    rw [if_neg there, trainDone_fresh hc hs ht h1 h15 hf hcf hpair] at hd
    exact hd
  · have hd := does_run (show exec (.linkTrainDone l) s = execLinkTrainDone l s from rfl) ha
    rw [if_neg there, trainDone_nothing h] at hd
    exact hd
  · have hd := does_run (show exec (.linkTrainTimeout l) s = execLinkTrainTimeout l s from rfl) ha
    rw [if_neg there, if_pos ht] at hd
    exact hd
  · have hd := does_run (show exec (.linkTrainTimeout l) s = execLinkTrainTimeout l s from rfl) ha
    rw [if_neg there, if_neg (by rw [ht]; decide), if_pos h1] at hd
    exact hd
  · refine stays_of_run (show exec (.linkTrainTimeout l) s = execLinkTrainTimeout l s from rfl) ?_
    rw [if_neg there, if_neg (by rw [ht]; decide), if_neg h1]
  · have hd := does_run (show exec (.laneSerInterval l i n lost) s = execLaneSerInterval l i n lost s from rfl) ha
    dsimp only at hd
    rw [if_neg (lane_watched hl hi hk hb), if_pos (by rw [Bool.or_eq_true, Bool.and_eq_true, decide_eq_true_eq]; exact h)] at hd
    exact hd
  · refine stays_of_run (show exec (.laneSerInterval l i n lost) s = execLaneSerInterval l i n lost s from rfl) ?_
    dsimp only
    rw [if_neg (lane_watched hl hi hk hb), if_neg (by rw [hlost, decide_eq_false (Nat.not_lt.2 hn)]; exact Bool.false_ne_true)]
  · have hd := does_run (show exec (.retiredLinkProbe l) s = execRetiredLinkProbe l s from rfl) ha
    rw [if_neg (not_or.2 ⟨there, Decidable.not_not.2 h4⟩)] at hd
    exact hd
  · exact stays_of_run (show exec (.retiredLinkProbe l) s = execRetiredLinkProbe l s from rfl) (if_pos (.inr h4))

end Sys2Proof.Machine
end

section
/-! PROOF. The stacks, the power governor, the thermal sensors and the trip (R451 to R456, R469 to R478). -/
namespace Sys2Proof.Machine
open Sys2Proof

/-! The stacks. -/

section
variable {b : Block} {n g : Nat}

/-- The block once a line of a rebuild walk is done with: written with zeros, read, or read in vain. -/
def Block.walked (b : Block) (n g : Nat) (ps : List Nat) (line : Nat) (r : LineRead) : Block :=
  if ps.isEmpty then b.zeroLine n g line
  else if (b.lineRead n g line r).1 then (b.lineRead n g line r).2
  else ((b.lineRead n g line r).2.count F.MEM_CNT_B_UE).report 13 4 (lineDetail n g line)

theorem not_closed (hr : b.run? = true) (hw : b.clk.mainWindow = true) : ¬ (!b.run? || !b.clk.mainWindow) = true := by
  rw [hr, hw]
  exact Bool.false_ne_true

section
variable {x : Nat} {ps : List Nat} {line : Nat} {r : LineRead} (hr : b.run? = true) (hw : b.clk.mainWindow = true)
  (hf : (b.stackAt n).rebuild.find? (fun y => y.1 == g) = some (x, ps, line))
  (hc : ((b.walked n g ps line r).stackAt n).rebuild.contains (g, ps, line) = true)
include hr hw hf hc

theorem rebuildStep_ends (he : ((b.walked n g ps line r).stackAt n).lines ≤ line + 1) : b.rebuildStep n g r =
    (((b.walked n g ps line r).setStack n { ((b.walked n g ps line r).stackAt n) with
      rebuild := ((b.walked n g ps line r).stackAt n).rebuild.filter (fun y => y.1 != g) }).evt F.MEM_EVT_REBUILD_DONE).report 13 6 (n + 16 * g) := by
  unfold Block.rebuildStep
  rw [if_neg (not_closed hr hw), hf]
  exact (if_neg (by rw [Bool.not_eq_true', Bool.not_eq_false]; exact hc)).trans (if_pos he)

theorem rebuildStep_goes_on (he : line + 1 < ((b.walked n g ps line r).stackAt n).lines) : b.rebuildStep n g r =
    (b.walked n g ps line r).setStack n { ((b.walked n g ps line r).stackAt n) with
      rebuild := ((b.walked n g ps line r).stackAt n).rebuild.map (fun y => if y.1 = g then (g, ps, line + 1) else y) } := by
  unfold Block.rebuildStep
  rw [if_neg (not_closed hr hw), hf]
  exact (if_neg (by rw [Bool.not_eq_true', Bool.not_eq_false]; exact hc)).trans (if_neg (Nat.not_le.2 he))

end

/-- What patrol scrub reads of a line, the line after it being next. -/
def Block.scrubRead (b : Block) (n l : Nat) (r : LineRead) : Bool × Block :=
  (b.setStack n { (b.stackAt n) with scrub := (l + 1) % (3 * (b.stackAt n).lines) }).lineRead n (l % 3) (l / 3) r

theorem scrubStep_eq {r : LineRead} {l : Nat} (hr : b.run? = true) (hw : b.clk.mainWindow = true) (hu : (b.stackAt n).up = true)
    (hl : (b.stackAt n).lines ≠ 0)
    (hf : ((List.range 3).map (fun i => ((b.stackAt n).scrub + i) % (3 * (b.stackAt n).lines))).find?
      (fun l => (b.stackAt n).gangs.getD (l % 3) false) = some l) :
    b.scrubStep n r = if (b.scrubRead n l r).1 then (b.scrubRead n l r).2
      else (((b.scrubRead n l r).2.count F.MEM_CNT_B_SCRUB_UE).evt F.MEM_EVT_SCRUB_UE).report 13 5 (lineDetail n (l % 3) (l / 3)) := by
  unfold Block.scrubStep
  dsimp only
  rw [if_neg (by rw [hr, hw, hu, beq_eq_false_iff_ne.2 hl]; decide), hf]
  rfl

end

/-! The governor. -/

/-- The duty after a decision lies between its limits where it did before. -/
theorem duty_within {low lim duty : Nat} (h16 : low ≤ 16) (hlim : lim ≤ 16) (hl : low ≤ duty) (hd : duty ≤ 16) (peak cap rise : Prop)
    [Decidable peak] [Decidable cap] [Decidable rise] (hr : rise → duty < lim) :
    let d := if peak then max low (duty - 2) else if cap then max low (duty - 1) else if rise then duty + 1 else duty
    low ≤ d ∧ d ≤ 16 := by
  dsimp only
  split
  · omega
  split
  · omega
  split
  case isTrue hrise =>
    have := hr hrise
    omega
  case isFalse => exact ⟨hl, hd⟩

/-- The duty the governor decides on (R471). -/
def Block.nextDuty (b : Block) : Nat :=
  let s1 := b.pw.samples.take 10
  let st := b.pw.samples.take (10 * b.fget F.PWR_CAP_TAU_MS)
  let peak := b.fget F.PWR_CAP_PEAK_W * 1000 * max s1.length 1
  let cap := b.fget F.PWR_CAP_CAP_W * 1000 * max st.length 1
  let p1 := sumN s1
  let pt := sumN st
  let duty := b.fget F.PWR_STAT_DUTY
  let low := b.fget F.PWR_CTRL_DUTY_MIN
  let lim := if 8 < (b.pw.failed.filter id).length then 12 else 16
  let hot := b.fget F.THM_STAT_THROTTLE == 1
  if peak < p1 then max low (duty - 2)
  else if cap < pt || hot || decide (lim < duty) then max low (duty - 1)
  else if decide (duty < lim) && decide (p1 * 10 ≤ 9 * peak) && decide (pt * 100 ≤ 95 * cap) then duty + 1
  else duty

theorem nextDuty_within {b : Block} (h16 : b.fget F.PWR_CTRL_DUTY_MIN ≤ 16) (hl : b.fget F.PWR_CTRL_DUTY_MIN ≤ b.fget F.PWR_STAT_DUTY)
    (hd : b.fget F.PWR_STAT_DUTY ≤ 16) : b.fget F.PWR_CTRL_DUTY_MIN ≤ b.nextDuty ∧ b.nextDuty ≤ 16 :=
  duty_within (lim := if 8 < (b.pw.failed.filter id).length then 12 else 16) h16 (by split <;> decide) hl hd _ _ _ fun h => by
    rw [Bool.and_eq_true, Bool.and_eq_true, decide_eq_true_eq] at h
    exact h.1.1

/-- The events of a decision are not in the register of the duty. -/
theorem fget_duty_events (c : Block) (p q : Prop) [Decidable p] [Decidable q] :
    (if q then (if p then c.evt F.PWR_EVT_THROTTLE else c).evt F.PWR_EVT_PEAK else (if p then c.evt F.PWR_EVT_THROTTLE else c)).fget F.PWR_STAT_DUTY =
      c.fget F.PWR_STAT_DUTY := by
  have throttle : (if p then c.evt F.PWR_EVT_THROTTLE else c).fget F.PWR_STAT_DUTY = c.fget F.PWR_STAT_DUTY := by
    split
    · exact fget_evt_off _ _ _ (by decide)
    · rfl
  split
  · exact (fget_evt_off _ _ _ (by decide)).trans throttle
  · exact throttle

theorem governor_fget_duty (b : Block) : b.governor.fget F.PWR_STAT_DUTY = b.nextDuty % 2 ^ 5 := by
  refine (fget_duty_events _ _ _).trans ?_
  rw [fget_fset_other _ _ _ _ (by decide) (by decide)]
  exact fget_fset_same _ _ _ (by decide)

theorem governor_duty (b : Block) (h16 : b.fget F.PWR_CTRL_DUTY_MIN ≤ 16) (hl : b.fget F.PWR_CTRL_DUTY_MIN ≤ b.fget F.PWR_STAT_DUTY)
    (hd : b.fget F.PWR_STAT_DUTY ≤ 16) :
    b.fget F.PWR_CTRL_DUTY_MIN ≤ b.governor.fget F.PWR_STAT_DUTY ∧ b.governor.fget F.PWR_STAT_DUTY ≤ 16 := by
  obtain ⟨hlow, hhigh⟩ := nextDuty_within h16 hl hd
  rw [governor_fget_duty, Nat.mod_eq_of_lt (by omega)]
  exact ⟨hlow, hhigh⟩

/-! The sensors. -/

section
variable (b : Block) (i : Nat)

theorem sensorRead_good {q : Nat} (h : q ≤ 760) : (b.sensorRead i (some q)).pw.sensors = b.pw.sensors.set i q ∧
    (b.sensorRead i (some q)).pw.badRun = b.pw.badRun.set i 0 := by
  unfold Block.sensorRead
  dsimp only
  rw [if_pos h]
  exact ⟨rfl, rfl⟩

/-- A bad reading of a sensor (R476). -/
def Block.sensorBad (b : Block) (i : Nat) : Block :=
  let p := b.pw
  let bad := p.badRun.getD i 0 + 1
  let b := { b with pw := { p with badRun := p.badRun.set i (min bad 3), goodRun := p.goodRun.set i 0 } }
  if bad < 3 || p.failed.getD i false then b
  else (({ b with pw := { b.pw with failed := b.pw.failed.set i true } }).count F.THM_CNT_SENSOR_FAIL |>.evt F.THM_EVT_SENSOR_FAIL).report 15 3 i

theorem sensorRead_bad {r : Option Nat} (h : r = none ∨ ∃ q, r = some q ∧ 760 < q) : b.sensorRead i r = b.sensorBad i := by
  rcases h with rfl | ⟨q, rfl, hq⟩
  · rfl
  · exact if_neg (Nat.not_le.2 hq)

theorem report_pw (unit code detail : Nat) : (b.report unit code detail).pw = b.pw := by
  obtain ⟨_, _, _, _, _, _, _, hp, _⟩ := report_quiet b unit code detail
  exact hp

theorem sensorBad_sensors : (b.sensorBad i).pw.sensors = b.pw.sensors := by
  unfold Block.sensorBad
  dsimp only
  split
  · rfl
  · rw [report_pw]
    rfl

theorem set_getD_true {l : List Bool} (h : l.getD i false = true) : l.set i true = l := by
  rw [List.getD_eq_getElem?_getD] at h
  rcases hi : l[i]? with _ | x
  · rw [hi] at h
    exact absurd h Bool.false_ne_true
  · rw [hi] at h
    obtain ⟨hlt, hx⟩ := List.getElem?_eq_some_iff.1 hi
    rw [← show l[i] = true from hx.trans h, List.set_getElem_self]

/-- The third bad reading in a row fails the sensor. -/
theorem sensorBad_failed (h : 2 ≤ b.pw.badRun.getD i 0) : (b.sensorBad i).pw.failed = b.pw.failed.set i true := by
  unfold Block.sensorBad
  dsimp only
  rw [decide_eq_false (by omega), Bool.false_or]
  split
  · next hf => exact (set_getD_true i hf).symm
  · rw [report_pw]
    rfl

end

/-! The Keep region. -/

/-- A record written to Keep regions changes memory alone. -/
theorem keepPut_eq (b : Block) (stks : List Nat) (off : Nat) (l : List Byte) : ∃ m, b.keepPut stks off l = { b with mem := m } := by
  have gangs : ∀ (gs : List Nat) (st : Nat) (c : Block), (∃ m, c = { b with mem := m }) → ∃ m, gs.foldl (fun (b : Block) g =>
      if (b.stackAt st).gangs.getD g false then { b with mem := { b.mem with
        keep := mwrN b.mem.keep (keepAddr st g off) l, written := tset b.mem.written st (tgetD b.mem.written st 0 + l.length) } } else b) c =
      { b with mem := m } := by
    intro gs st
    induction gs with
    | nil => exact fun _ h => h
    | cons g gs ih =>
      rintro c ⟨m, rfl⟩
      refine ih _ ?_
      dsimp only
      split
      · exact ⟨_, rfl⟩
      · exact ⟨m, rfl⟩
  have every : ∀ (ss : List Nat) (c : Block), (∃ m, c = { b with mem := m }) → ∃ m, c.keepPut ss off l = { b with mem := m } := by
    intro ss
    induction ss with
    | nil => exact fun _ h => h
    | cons st ss ih => exact fun c h => ih _ (gangs (List.range 3) st c h)
  exact every stks b ⟨b.mem, rfl⟩

/-- Settles O58: a step by the gang's next line, a sample by the governor, a reading by its value. -/
theorem stacksPowerThermal : Obligations.StacksPowerThermal := by
  intro s ha
  refine ⟨fun n g r x ps line hr hw hf => ⟨fun hc he => ?_, fun hc he => ?_⟩, fun n r l hr hw hu hl hf => ⟨fun hx => ?_, fun hx => ?_⟩,
    fun n ok hn hu => ?_, fun n hn => ⟨fun hk => ?_, fun hk => ⟨?_, ?_⟩⟩, fun p => ?_, fun b h16 hl hd => governor_duty b h16 hl hd, fun r => ?_,
    fun b i q hq => sensorRead_good b i hq, fun b i r h => ?_, fun i q => ?_⟩
  · have hd := does_run (show exec (.rebuildStep n g r) s = execRebuildStep n g r s from rfl) ha
    rw [rebuildStep_ends hr hw hf hc he] at hd
    exact hd
  · have hd := does_run (show exec (.rebuildStep n g r) s = execRebuildStep n g r s from rfl) ha
    rw [rebuildStep_goes_on hr hw hf hc he] at hd
    exact hd
  · have hd := does_run (show exec (.scrubStep n r) s = execScrubStep n r s from rfl) ha
    replace hx : (s.blk.scrubRead n l r).1 = true := hx
    rw [scrubStep_eq hr hw hu hl hf, if_pos hx] at hd
    exact hd
  · have hd := does_run (show exec (.scrubStep n r) s = execScrubStep n r s from rfl) ha
    replace hx : (s.blk.scrubRead n l r).1 = false := hx
    rw [scrubStep_eq hr hw hu hl hf, if_neg (Bool.eq_false_iff.1 hx)] at hd
    exact hd
  · have hd := does_run (show exec (.stackInterfaceRetrain n ok) s = execStackInterfaceRetrain n ok s from rfl) ha
    rw [if_neg (by rw [hu]; exact not_or.2 ⟨Nat.not_le.2 hn, Bool.false_ne_true⟩)] at hd
    exact hd
  · have hd := does_run (show exec (.cattrip n true) s = execCattrip n true s from rfl) ha
    dsimp only at hd
    rw [if_neg (by rw [hk]; exact not_or.2 ⟨Nat.not_le.2 hn, Bool.false_ne_true⟩), if_neg (show ¬ (!true) = true by decide)] at hd
    exact hd
  · have hd := does_run (show exec (.cattrip n false) s = execCattrip n false s from rfl) ha
    dsimp only at hd
    rw [if_neg (by rw [hk]; exact not_or.2 ⟨Nat.not_le.2 hn, Bool.noConfusion⟩), if_pos (show (!false) = true from rfl)] at hd
    exact hd
  · exact stays_of_run (show exec (.cattrip n true) s = execCattrip n true s from rfl) (if_pos (.inr hk))
  · have hd := does_run (show exec (.powerSample p) s = execPowerSample p s from rfl) ha
    exact hd
  · have hd := does_run (show exec (.thermalRead r) s = execThermalRead r s from rfl) ha
    exact hd
  · rw [sensorRead_bad b i h]
    exact ⟨sensorBad_sensors b i, sensorBad_failed b i⟩
  · have hd := does_run (show exec (.thermalTrip i q) s = execThermalTrip i q s from rfl) ha
    obtain ⟨m, hm⟩ := keepPut_eq s.blk (s.blk.stacksUp.take 1) 0x1000 (s.blk.tripRecord i q)
    replace hm : s.blk.keepLow 0x1000 (s.blk.tripRecord i q) = { s.blk with mem := m } := hm
    refine ⟨_, hd, ?_, ?_, ?_⟩
    · simp [Block.alive]
    · rw [hm]
    · rw [hm]

end Sys2Proof.Machine
end

section
/-! PROOF. Command registers of pages, compute, links and stacks, and the read of LGR_PG_A (R147, R155, R267, R371, R445, R459, R468). -/
namespace Sys2Proof.Machine
open Sys2Proof

/-! Command registers. -/

/-- The OP a value written to a command register carries. -/
theorem opOf_eq {off : Nat} {f : Fld} (h : opFld off = some f) (v : Word) : opOf off v = wfld v f := by
  rw [opOf, h]
  rfl

/-- A write of a command register that passes its tests carries its command out. -/
theorem regWrite_command {b : Block} {src : RegSrc} {off : Nat} {v : Word} {busy : Bool} {f : Fld} (h : b.accepts src off v busy)
    (hf : opFld off = some f) (hop : wfld v f ≠ 0) (act : Block → Block) : b.regWrite src off v busy act = act (b.written src off v) :=
  (regWrite_accepts h act).trans (if_neg (by rw [opOf_eq hf]; exact hop))

/-- A register write that stands touches the registers and the response alone. -/
theorem written_eq (b : Block) (src : RegSrc) (off : Nat) (v : Word) : ∃ r m, b.written src off v = { b with regs := r, mgt := m } := by
  have field : ∀ (c : Block) (f : FDesc), ∃ r, c.putField off v f = { c with regs := r } := by
    intro c f
    unfold Block.putField
    dsimp only
    split
    · exact ⟨c.regs, rfl⟩
    · split <;> exact ⟨_, rfl⟩
  have fields : ∀ (l : List FDesc) (c : Block), ∃ r, l.foldl (fun c f => c.putField off v f) c = { c with regs := r } := by
    intro l
    induction l with
    | nil => exact fun c => ⟨c.regs, rfl⟩
    | cons f l ih =>
      intro c
      obtain ⟨r, hr⟩ := field c f
      obtain ⟨r', hr'⟩ := ih (c.putField off v f)
      exact ⟨r', hr'.trans (by rw [hr])⟩
  unfold Block.written
  split
  · exact ⟨b.regs, b.mgt, rfl⟩
  · next d _ =>
    obtain ⟨r, hr⟩ := fields d.fields b
    dsimp only
    rw [hr]
    unfold Block.unfreeze
    split
    · split <;> exact ⟨_, _, rfl⟩
    · exact ⟨_, _, rfl⟩

theorem written_exAt (b : Block) (src : RegSrc) (off : Nat) (v : Word) (n : Nat) : (b.written src off v).exAt n = b.exAt n := by
  obtain ⟨r, m, h⟩ := written_eq b src off v
  rw [h]
  rfl

/-! The words of commands. -/

theorem wfld_eq (v : Word) (f : Fld) : wfld v f = v.toNat / 2 ^ f.lo % 2 ^ f.wid := by
  rw [wfld, bits, Nat.shiftRight_eq_div_pow]

section
variable (f g h i : Fld) (x y z w : Nat)

theorem wput_one : (wput [(f, x)]).toNat = (x % 2 ^ f.wid * 2 ^ f.lo) % 2 ^ 64 := by
  simp only [wput, mkWord, List.map, List.foldl, BitVec.toNat_ofNat, Nat.zero_add]

theorem wput_two : (wput [(f, x), (g, y)]).toNat = (x % 2 ^ f.wid * 2 ^ f.lo + y % 2 ^ g.wid * 2 ^ g.lo) % 2 ^ 64 := by
  simp only [wput, mkWord, List.map, List.foldl, BitVec.toNat_ofNat, Nat.zero_add]

theorem wput_three : (wput [(f, x), (g, y), (h, z)]).toNat =
    (x % 2 ^ f.wid * 2 ^ f.lo + y % 2 ^ g.wid * 2 ^ g.lo + z % 2 ^ h.wid * 2 ^ h.lo) % 2 ^ 64 := by
  simp only [wput, mkWord, List.map, List.foldl, BitVec.toNat_ofNat, Nat.zero_add]

theorem wput_four : (wput [(f, x), (g, y), (h, z), (i, w)]).toNat =
    (x % 2 ^ f.wid * 2 ^ f.lo + y % 2 ^ g.wid * 2 ^ g.lo + z % 2 ^ h.wid * 2 ^ h.lo + w % 2 ^ i.wid * 2 ^ i.lo) % 2 ^ 64 := by
  simp only [wput, mkWord, List.map, List.foldl, BitVec.toNat_ofNat, Nat.zero_add]

end

theorem pgWord {op n : Nat} (hop : op < 4) (hn : n < 134217728) :
    wfld (wput [(F.PG_CMD_PAGE, n), (F.PG_CMD_OP, op)]) F.PG_CMD_OP = op ∧ wfld (wput [(F.PG_CMD_PAGE, n), (F.PG_CMD_OP, op)]) F.PG_CMD_PAGE = n := by
  simp only [wfld_eq, wput_two]
  omega

theorem clusterWord {n : Nat} (hn : n < 64) :
    wfld (wput [(F.PIP_CMD_CLUSTER, n), (F.PIP_CMD_OP, 2)]) F.PIP_CMD_OP = 2 ∧ wfld (wput [(F.PIP_CMD_CLUSTER, n), (F.PIP_CMD_OP, 2)]) F.PIP_CMD_CLUSTER = n := by
  simp only [wfld_eq, wput_two]
  omega

theorem seqWord {n : Nat} (hn : n < 8) : wfld (wput [(F.TICK_SEQ_CMD_SEQ, n), (F.TICK_SEQ_CMD_OP, 1)]) F.TICK_SEQ_CMD_OP = 1 ∧
    wfld (wput [(F.TICK_SEQ_CMD_SEQ, n), (F.TICK_SEQ_CMD_OP, 1)]) F.TICK_SEQ_CMD_SEQ = n := by
  simp only [wfld_eq, wput_two]
  omega

theorem pipWord {n k : Nat} (hn : n < 64) (hk : k < 32) :
    let v := wput [(F.PIP_CMD_CLUSTER, n), (F.PIP_CMD_PIP, k), (F.PIP_CMD_OP, 1)]
    wfld v F.PIP_CMD_OP = 1 ∧ wfld v F.PIP_CMD_CLUSTER = n ∧ wfld v F.PIP_CMD_PIP = k := by
  simp only [wfld_eq, wput_three]
  omega

theorem lnkWord_fields {op u n k : Nat} (hop : op < 4) (hu : u < 8) (hn : n < 64) (hk : k < 4) :
    wfld (lnkWord op u n k) F.LNK_CMD_OP = op ∧ wfld (lnkWord op u n k) F.LNK_CMD_UNIT = u ∧ wfld (lnkWord op u n k) F.LNK_CMD_LINK = n ∧
      wfld (lnkWord op u n k) F.LNK_CMD_LANE = k := by
  simp only [lnkWord, wfld_eq, wput_four]
  omega

theorem memWord_fields {op u n k : Nat} (hop : op < 4) (hu : u < 4) (hn : n < 16) (hk : k < 64) :
    wfld (memWord op u n k) F.MEM_CMD_OP = op ∧ wfld (memWord op u n k) F.MEM_CMD_UNIT = u ∧ wfld (memWord op u n k) F.MEM_CMD_STACK = n ∧
      wfld (memWord op u n k) F.MEM_CMD_PCH = k := by
  simp only [memWord, wfld_eq, wput_four]
  omega

/-! What each command register does with a command. -/

section
variable {b : Block} {src : RegSrc} {n u k : Nat}

theorem pgCmd_command {op : Nat} (hop : op = 1 ∨ op = 2) (hn : n < 134217728)
    (h : b.accepts src 0x0330 (wput [(F.PG_CMD_PAGE, n), (F.PG_CMD_OP, op)]) false) :
    let c := b.written src 0x0330 (wput [(F.PG_CMD_PAGE, n), (F.PG_CMD_OP, op)])
    b.pgCmd src (wput [(F.PG_CMD_PAGE, n), (F.PG_CMD_OP, op)]) =
      ({ c with rq := { c.rq with pgCmd := c.rq.pgCmd ++ [(op, n)] } }).status F.PG_CMD_STATUS 4 := by
  obtain ⟨o, p⟩ := pgWord (show op < 4 by omega) hn
  have hd := regWrite_command h (show opFld 0x0330 = some F.PG_CMD_OP by decide) (by omega)
  unfold Block.pgCmd
  rw [hd, o, p]

theorem pipCmd_release (hn : n < 64) (hk : k < 32)
    (h : b.accepts src 0x0820 (wput [(F.PIP_CMD_CLUSTER, n), (F.PIP_CMD_PIP, k), (F.PIP_CMD_OP, 1)]) false) :
    b.pipCmd src (wput [(F.PIP_CMD_CLUSTER, n), (F.PIP_CMD_PIP, k), (F.PIP_CMD_OP, 1)]) =
      ((b.written src 0x0820 (wput [(F.PIP_CMD_CLUSTER, n), (F.PIP_CMD_PIP, k), (F.PIP_CMD_OP, 1)])).status F.PIP_CMD_STATUS 1).atBoundary 11 n k 0 := by
  obtain ⟨o, p, q⟩ := pipWord hn hk
  have hd := regWrite_command h (show opFld 0x0820 = some F.PIP_CMD_OP by decide) (by omega)
  unfold Block.pipCmd
  rw [hd]
  dsimp only
  rw [if_pos o, p, q]

theorem pipCmd_clusterRelease (hn : n < 64) (h : b.accepts src 0x0820 (wput [(F.PIP_CMD_CLUSTER, n), (F.PIP_CMD_OP, 2)]) false) :
    let w := ((b.written src 0x0820 (wput [(F.PIP_CMD_CLUSTER, n), (F.PIP_CMD_OP, 2)])).status F.PIP_CMD_STATUS 1).quadWake n
    b.pipCmd src (wput [(F.PIP_CMD_CLUSTER, n), (F.PIP_CMD_OP, 2)]) = w.1.atBoundary 12 n w.2 0 := by
  obtain ⟨o, p⟩ := clusterWord hn
  have hd := regWrite_command h (show opFld 0x0820 = some F.PIP_CMD_OP by decide) (by omega)
  unfold Block.pipCmd
  rw [hd]
  dsimp only
  rw [if_neg (by omega), p]

theorem seqCmd_restart (hn : n < 8) (h : b.accepts src 0x0168 (wput [(F.TICK_SEQ_CMD_SEQ, n), (F.TICK_SEQ_CMD_OP, 1)]) false) :
    let c := b.written src 0x0168 (wput [(F.TICK_SEQ_CMD_SEQ, n), (F.TICK_SEQ_CMD_OP, 1)])
    b.seqCmd src (wput [(F.TICK_SEQ_CMD_SEQ, n), (F.TICK_SEQ_CMD_OP, 1)]) =
      if (b.exAt n).halted then (c.status F.TICK_SEQ_CMD_STATUS 1).atBoundary 19 n 0 0 else c.status F.TICK_SEQ_CMD_STATUS 2 := by
  obtain ⟨o, p⟩ := seqWord hn
  have hd := regWrite_command h (show opFld 0x0168 = some F.TICK_SEQ_CMD_OP by decide) (by omega)
  unfold Block.seqCmd
  rw [hd, p]
  dsimp only
  rw [written_exAt]
  cases (b.exAt n).halted <;> rfl

theorem lnkCmd_command {op : Nat} (hop : op = 1 ∨ op = 2) (hu : u < 8) (hn : n < 64) (hk : k < 4)
    (h : b.accepts src 0x1408 (lnkWord op u n k) (b.fget F.LNK_CMD_STATUS == 1)) :
    b.lnkCmd src (lnkWord op u n k) =
      ((b.written src 0x1408 (lnkWord op u n k)).status F.LNK_CMD_STATUS 1).atBoundary (if op = 1 then 15 else 16) u n k := by
  obtain ⟨o, p, q, r⟩ := lnkWord_fields (show op < 4 by omega) hu hn hk
  have hd := regWrite_command h (show opFld 0x1408 = some F.LNK_CMD_OP by decide) (by omega)
  unfold Block.lnkCmd
  rw [hd, o, p, q, r]

theorem memCmd_command {op : Nat} (hop : op = 1 ∨ op = 2) (hu : u < 4) (hn : n < 16) (hk : k < 64)
    (h : b.accepts src 0x1908 (memWord op u n k) (b.fget F.MEM_CMD_STATUS == 1)) :
    b.memCmd src (memWord op u n k) =
      ((b.written src 0x1908 (memWord op u n k)).status F.MEM_CMD_STATUS 1).atBoundary (if op = 1 then 17 else 18) u n k := by
  obtain ⟨o, p, q, r⟩ := memWord_fields (show op < 4 by omega) hu hn hk
  have hd := regWrite_command h (show opFld 0x1908 = some F.MEM_CMD_OP by decide) (by omega)
  unfold Block.memCmd
  rw [hd, o, p, q, r]

/-! The quads. -/

variable (ha : b.ob.acts.find? (fun a => a.what == 12 && a.a / 4 == n / 4 && a.b != 0) = none)
include ha

theorem quadWake_on (h0 : (b.fget F.PWR_PD_ON).testBit (n / 4) = false) (hr : b.cp.retired.testBit n = true)
    (hf : (b.fget F.STA_MFG_FAIL_CLUSTERS).testBit n = false) :
    b.quadWake n = (b.fset F.PWR_PD_ON (b.fget F.PWR_PD_ON + 2 ^ (n / 4)), b.clk.timeUs + 20) := by
  unfold Block.quadWake
  rw [ha]
  exact if_neg (by rw [h0, hr, hf]; decide)

theorem quadWake_nothing (h : (b.fget F.PWR_PD_ON).testBit (n / 4) = true ∨ b.cp.retired.testBit n = false ∨
    (b.fget F.STA_MFG_FAIL_CLUSTERS).testBit n = true) : b.quadWake n = (b, 0) := by
  unfold Block.quadWake
  rw [ha]
  refine if_pos ?_
  rw [Bool.or_eq_true, Bool.or_eq_true, Bool.not_eq_true', or_assoc]
  exact h

end

/-- Settles O51: each command waits for its boundary or its Publish, and the read latches the counters. -/
theorem commandRegisters : Obligations.CommandRegisters := by
  intro s src n u k ha
  refine ⟨fun hn h => ?_, fun hn h => ?_, fun hn hk h => ?_, fun hn h => ?_, fun hn h => ?_, fun hu hn hk h => ?_, fun hu hn hk h => ?_,
    fun hu hn hk h => ?_, fun hu hn hk h => ?_, fun c hc => ⟨fun h0 hr hf => quadWake_on hc h0 hr hf, fun h => quadWake_nothing hc h⟩, ?_⟩
  · have hd := does_run (show exec (.pgCmdRetire src n) s = execPgCmdRetire src n s from rfl) ha
    rw [pgCmd_command (.inl rfl) hn h] at hd
    exact hd
  · have hd := does_run (show exec (.pgCmdRelease src n) s = execPgCmdRelease src n s from rfl) ha
    rw [pgCmd_command (.inr rfl) hn h] at hd
    exact hd
  · have hd := does_run (show exec (.pipRelease src n k) s = execPipRelease src n k s from rfl) ha
    rw [pipCmd_release hn hk h] at hd
    exact hd
  · have hd := does_run (show exec (.clusterRelease src n) s = execClusterRelease src n s from rfl) ha
    rw [pipCmd_clusterRelease hn h] at hd
    exact hd
  · have hd := does_run (show exec (.seqRestartCmd src n) s = execSeqRestartCmd src n s from rfl) ha
    rw [seqCmd_restart hn h] at hd
    exact hd
  · have hd := does_run (show exec (.lnkCmdRelease src u n k) s = execLnkCmdRelease src u n k s from rfl) ha
    rw [lnkCmd_command (.inl rfl) hu hn hk h] at hd
    exact hd
  · have hd := does_run (show exec (.lnkCmdRetire src u n k) s = execLnkCmdRetire src u n k s from rfl) ha
    rw [lnkCmd_command (.inr rfl) hu hn hk h] at hd
    exact hd
  · have hd := does_run (show exec (.memCmdRelease src u n k) s = execMemCmdRelease src u n k s from rfl) ha
    rw [memCmd_command (.inl rfl) hu hn hk h] at hd
    exact hd
  · have hd := does_run (show exec (.memCmdRetire src u n k) s = execMemCmdRetire src u n k s from rfl) ha
    rw [memCmd_command (.inr rfl) hu hn hk h] at hd
    exact hd
  · have hd := does_run (show exec (.lgrPgARead src) s = execLgrPgARead src s from rfl) ha
    exact ⟨_, hd, tget_tset_same _ _ _, tget_tset_same _ _ _⟩

end Sys2Proof.Machine
end

section
/-! PROOF. The start of the block, the calendar and the lifetime counters (R485, R486, R493 to R496, R504, R509, R513, R514). -/
namespace Sys2Proof.Machine
open Sys2Proof

/-! STA_CMD. -/

/-- The word of STA_CMD holds its OP. -/
theorem staWord {op : Nat} (hop : op < 4) : wfld (wput [(F.STA_CMD_OP, op)]) F.STA_CMD_OP = op := by
  simp only [wfld_eq, wput_one]
  omega

section
variable {b : Block} {src : RegSrc} {env : StartEnv}

/-- START, where an attempt may begin and where it may not. -/
theorem staCmd_start (h : b.accepts src 0x0008 (wput [(F.STA_CMD_OP, 1)]) (decide (2 ≤ b.stage ∧ b.stage ≤ 7))) :
    b.staCmd src (wput [(F.STA_CMD_OP, 1)]) env =
      if b.stage = 1 ∨ b.stage = 10 then (b.written src 0x0008 (wput [(F.STA_CMD_OP, 1)])).attempt env
      else (b.written src 0x0008 (wput [(F.STA_CMD_OP, 1)])).status F.STA_CMD_STATUS 2 := by
  have o : wfld (wput [(F.STA_CMD_OP, 1)]) F.STA_CMD_OP = 1 := staWord (by decide)
  have hd := regWrite_command h (show opFld 0x0008 = some F.STA_CMD_OP by decide) (by omega)
  unfold Block.staCmd
  dsimp only
  rw [hd, o]
  rfl

/-- CLEAR. -/
theorem staCmd_clear (h : b.accepts src 0x0008 (wput [(F.STA_CMD_OP, 2)]) (decide (2 ≤ b.stage ∧ b.stage ≤ 7))) :
    let c := b.written src 0x0008 (wput [(F.STA_CMD_OP, 2)])
    let d := c.newAttempt 4 0 0 0
    b.staCmd src (wput [(F.STA_CMD_OP, 2)]) env = if b.stage ≠ 10 then c.status F.STA_CMD_STATUS 2
      else (({ d with sa := { d.sa with f := 0, failsSinceReset := 0 } }).fset F.STA_STAT_FAILS 0).status F.STA_CMD_STATUS 0 := by
  have o : wfld (wput [(F.STA_CMD_OP, 2)]) F.STA_CMD_OP = 2 := staWord (by decide)
  have hd := regWrite_command h (show opFld 0x0008 = some F.STA_CMD_OP by decide) (by omega)
  unfold Block.staCmd
  dsimp only
  rw [hd, o]
  rfl

/-- TAKE_OVER. -/
theorem staCmd_takeOver (h : b.accepts src 0x0008 (wput [(F.STA_CMD_OP, 3)]) (decide (2 ≤ b.stage ∧ b.stage ≤ 7))) :
    let c := b.written src 0x0008 (wput [(F.STA_CMD_OP, 3)])
    b.staCmd src (wput [(F.STA_CMD_OP, 3)]) env = if b.stage = 8 then c.pairStart 0 false
      else if b.stage ≠ 9 then c.status F.STA_CMD_STATUS 2
      else if c.isPair = false then c.status F.STA_CMD_STATUS 3
      else if c.standby = true ∧ c.fget F.STA_PAIR_STATE = 4 then { (c.status F.STA_CMD_STATUS 1) with pair := { c.pair with taking := true } }
      else c.status F.STA_CMD_STATUS 2 := by
  have o : wfld (wput [(F.STA_CMD_OP, 3)]) F.STA_CMD_OP = 3 := staWord (by decide)
  have hd := regWrite_command h (show opFld 0x0008 = some F.STA_CMD_OP by decide) (by omega)
  unfold Block.staCmd
  dsimp only
  rw [hd, o]
  simp only [Bool.not_eq_true', Bool.and_eq_true, decide_eq_true_eq]

end

/-- Settles O52: each command by the start stage it finds. -/
theorem startCommands : Obligations.StartCommands := by
  intro s src env ha
  refine ⟨fun h => ⟨fun hs => ?_, fun h1 h10 => ?_⟩, fun h => ⟨fun hs => ?_, fun hs => ?_⟩,
    fun h => ⟨fun hs => ?_, fun hs hp hst hps => ?_, fun hs hp hst => ?_, fun hs hp => ?_, fun h8 h9 => ?_⟩,
    fun t ht hs => ?_, fun h => ?_, fun h2 h7 => ?_, fun h => ?_⟩
  · have hd := does_run (show exec (.staStart src env) s = execStaStart src env s from rfl) ha
    rw [staCmd_start h, if_pos hs] at hd
    exact hd
  · have hd := does_run (show exec (.staStart src env) s = execStaStart src env s from rfl) ha
    rw [staCmd_start h, if_neg (not_or.2 ⟨h1, h10⟩)] at hd
    exact hd
  · have hd := does_run (show exec (.staClear src) s = execStaClear src s from rfl) ha
    rw [staCmd_clear h, if_neg (Decidable.not_not.2 hs)] at hd
    exact hd
  · have hd := does_run (show exec (.staClear src) s = execStaClear src s from rfl) ha
    rw [staCmd_clear h, if_pos hs] at hd
    exact hd
  · have hd := does_run (show exec (.staTakeOver src) s = execStaTakeOver src s from rfl) ha
    rw [staCmd_takeOver h, if_pos hs] at hd
    exact hd
  · have hd := does_run (show exec (.staTakeOver src) s = execStaTakeOver src s from rfl) ha
    rw [staCmd_takeOver h, if_neg (by omega), if_neg (Decidable.not_not.2 hs), if_neg (Bool.not_eq_false _ ▸ hp), if_pos ⟨hst, hps⟩] at hd
    exact hd
  · have hd := does_run (show exec (.staTakeOver src) s = execStaTakeOver src s from rfl) ha
    have other : ¬ ((s.blk.written src 0x0008 (wput [(F.STA_CMD_OP, 3)])).standby = true ∧
        (s.blk.written src 0x0008 (wput [(F.STA_CMD_OP, 3)])).fget F.STA_PAIR_STATE = 4) := by
      rintro ⟨hb, h4⟩
      rcases hst with hst | hst
      · exact Bool.false_ne_true (hst.symm.trans hb)
      · exact hst h4
    rw [staCmd_takeOver h, if_neg (by omega), if_neg (Decidable.not_not.2 hs), if_neg (Bool.not_eq_false _ ▸ hp), if_neg other] at hd
    exact hd
  · have hd := does_run (show exec (.staTakeOver src) s = execStaTakeOver src s from rfl) ha
    rw [staCmd_takeOver h, if_neg (by omega), if_neg (Decidable.not_not.2 hs), if_pos hp] at hd
    exact hd
  · have hd := does_run (show exec (.staTakeOver src) s = execStaTakeOver src s from rfl) ha
    rw [staCmd_takeOver h, if_neg h8, if_pos h9] at hd
    exact hd
  · have hd := does_run (show exec (.startRetry env) s = execStartRetry env s from rfl) ha
    rw [ht] at hd
    dsimp only at hd
    rw [if_pos hs] at hd
    exact hd
  · refine stays_of_run (show exec (.startRetry env) s = execStartRetry env s from rfl) ?_
    rcases h with h | h
    · rw [h]
    · split
      · exact if_neg h
      · rfl
  · have hd := does_run (show exec .startLimit s = execStartLimit s from rfl) ha
    dsimp only at hd
    rw [if_neg (by omega)] at hd
    exact hd
  · exact stays_of_run (show exec .startLimit s = execStartLimit s from rfl) (if_pos h)

/-! The calendar. -/

section
variable {b : Block} {f : Nat}

/-- The block that remembers the time of a frame. -/
def Block.todSeen (b : Block) (secs : Nat) : Block := { b with sa := { b.sa with lastTod := some secs } }

/-- A frame's sync word and CRC hold. -/
def TodValid (f : Nat) : Prop := bits f 0 16 = 0xA55A ∧ bits f 80 32 = crc32 (leBytes 8 (bits f 16 64))

/-- A frame follows the last by one second. -/
def Block.TodFollows (b : Block) (f : Nat) : Prop := b.sa.lastTod = some (bits f 16 64 - 1) ∧ 1 ≤ bits f 16 64

theorem todFrame_invalid (h : ¬ TodValid f) : b.todFrame f = b := by
  refine if_pos ?_
  rw [Bool.or_eq_true, decide_eq_true_eq, decide_eq_true_eq]
  exact Classical.not_and_iff_not_or_not.1 h

theorem todFollows_iff : (b.sa.lastTod == some (bits f 16 64 - 1) && decide (1 ≤ bits f 16 64)) = true ↔ b.TodFollows f := by
  rw [Bool.and_eq_true, beq_iff_eq, decide_eq_true_eq]
  rfl

section
variable (hv : TodValid f)
include hv

theorem todFrame_valid : b.todFrame f = (let c := b.todSeen (bits f 16 64)
    if !(b.sa.lastTod == some (bits f 16 64 - 1) && decide (1 ≤ bits f 16 64)) then c
    else if c.stage = 7 then (c.setCalendar (bits f 16 64 * 1000000)).loadDone'
    else if c.stage < 8 ∨ 9 < c.stage then c
    else
      let diff := decide (c.calendar + 1000 < bits f 16 64 * 1000000 ∨ bits f 16 64 * 1000000 + 1000 < c.calendar)
      if diff && !c.sa.calDiff then ((({ c with sa := { c.sa with calDiff := true } }).evt F.STA_EVT_CAL_DIFF).report 16 4 1)
      else { c with sa := { c.sa with calDiff := diff } }) := by
  refine if_neg ?_
  rw [Bool.or_eq_true, decide_eq_true_eq, decide_eq_true_eq]
  exact not_or.2 ⟨Decidable.not_not.2 hv.1, Decidable.not_not.2 hv.2⟩

theorem todFrame_remembered (h : ¬ b.TodFollows f) : b.todFrame f = b.todSeen (bits f 16 64) :=
  (todFrame_valid hv).trans (if_pos (by rw [Bool.not_eq_true', Bool.eq_false_iff, ne_eq, todFollows_iff]; exact h))

variable (hf : b.TodFollows f)
include hf

theorem todFrame_follows : b.todFrame f = (let c := b.todSeen (bits f 16 64)
    if c.stage = 7 then (c.setCalendar (bits f 16 64 * 1000000)).loadDone'
    else if c.stage < 8 ∨ 9 < c.stage then c
    else
      let diff := decide (c.calendar + 1000 < bits f 16 64 * 1000000 ∨ bits f 16 64 * 1000000 + 1000 < c.calendar)
      if diff && !c.sa.calDiff then ((({ c with sa := { c.sa with calDiff := true } }).evt F.STA_EVT_CAL_DIFF).report 16 4 1)
      else { c with sa := { c.sa with calDiff := diff } }) :=
  (todFrame_valid hv).trans (if_neg (by rw [todFollows_iff.2 hf]; decide))

theorem todFrame_load (h7 : b.stage = 7) : b.todFrame f = ((b.todSeen (bits f 16 64)).setCalendar (bits f 16 64 * 1000000)).loadDone' :=
  (todFrame_follows hv hf).trans (if_pos h7)

theorem todFrame_early (h : b.stage < 7 ∨ 9 < b.stage) : b.todFrame f = b.todSeen (bits f 16 64) :=
  (todFrame_follows hv hf).trans ((if_neg (show b.stage ≠ 7 by omega)).trans (if_pos (show b.stage < 8 ∨ 9 < b.stage by omega)))

variable (h89 : b.stage = 8 ∨ b.stage = 9)
include h89

theorem todFrame_far (hfar : (b.todSeen (bits f 16 64)).calendar + 1000 < bits f 16 64 * 1000000 ∨
    bits f 16 64 * 1000000 + 1000 < (b.todSeen (bits f 16 64)).calendar) (hd : b.sa.calDiff = false) :
    b.todFrame f = (({ (b.todSeen (bits f 16 64)) with sa := { (b.todSeen (bits f 16 64)).sa with calDiff := true } }).evt F.STA_EVT_CAL_DIFF).report 16 4 1 := by
  refine (todFrame_follows hv hf).trans ((if_neg (show b.stage ≠ 7 by omega)).trans ((if_neg (show ¬ (b.stage < 8 ∨ 9 < b.stage) by omega)).trans ?_))
  dsimp only
  rw [decide_eq_true hfar]
  exact if_pos (by rw [show (b.todSeen (bits f 16 64)).sa.calDiff = false from hd]; rfl)

theorem todFrame_near (hfar : ¬ ((b.todSeen (bits f 16 64)).calendar + 1000 < bits f 16 64 * 1000000 ∨
    bits f 16 64 * 1000000 + 1000 < (b.todSeen (bits f 16 64)).calendar)) :
    b.todFrame f = { (b.todSeen (bits f 16 64)) with sa := { (b.todSeen (bits f 16 64)).sa with calDiff := false } } := by
  refine (todFrame_follows hv hf).trans ((if_neg (show b.stage ≠ 7 by omega)).trans ((if_neg (show ¬ (b.stage < 8 ∨ 9 < b.stage) by omega)).trans ?_))
  dsimp only
  rw [decide_eq_false hfar]
  exact if_neg (by rw [Bool.false_and]; exact Bool.false_ne_true)

end

end

/-! LIF_CMD. -/

section
variable {b : Block} {src : RegSrc} (h : b.accepts src 0x2010 (wput [(F.LIF_CMD_OP, 1)]) false)
include h

/-- The record a restore reads, and whether it may be restored (R514). -/
def Block.restorable (c : Block) : Prop :=
  c.readable (c.fget F.LIF_ARG_BASE) 4096 = true ∧ crcHolds (c.rd0 (c.fget F.LIF_ARG_BASE) 4096) = true ∧
    lefld (c.rd0 (c.fget F.LIF_ARG_BASE) 4096) 0 4 = 0x4C494645 ∧ lefld (c.rd0 (c.fget F.LIF_ARG_BASE) 4096) 16 8 = c.sa.key.serial

/-- The counters a record gives, and their values. -/
def restoreFields (l : List Byte) : List (Fld × Nat) :=
  (checkpointWords l).flatMap (fun w => match findReg w.1 with
    | some r => (r.fields.filter (fun f => !f.resv)).map (fun f => (Fld.mk w.1 f.lo f.wid, bits w.2 f.lo f.wid))
    | none => [])

theorem lifCmd_restore : let c := b.written src 0x2010 (wput [(F.LIF_CMD_OP, 1)])
    let l := c.rd0 (c.fget F.LIF_ARG_BASE) 4096
    b.lifCmd src (wput [(F.LIF_CMD_OP, 1)]) = if c.fget F.LIF_CKPT_FRESH = 0 then c.status F.LIF_CMD_STATUS 3
      else if !c.readable (c.fget F.LIF_ARG_BASE) 4096 || !crcHolds l || lefld l 0 4 ≠ 0x4C494645 || lefld l 16 8 ≠ c.sa.key.serial then
        c.status F.LIF_CMD_STATUS 2
      else ((((restoreFields l).foldl (fun c f => c.count f.1 f.2) c).fset F.LIF_CKPT_SEQ (lefld l 8 8)).fset F.LIF_CKPT_FRESH 0).status
        F.LIF_CMD_STATUS 0 := by
  have o : wfld (wput [(F.LIF_CMD_OP, 1)]) F.LIF_CMD_OP ≠ 0 := by simp only [wfld_eq, wput_one]; omega
  exact regWrite_command h (show opFld 0x2010 = some F.LIF_CMD_OP by decide) o _

end

theorem restorable_iff (c : Block) : (!c.readable (c.fget F.LIF_ARG_BASE) 4096 || !crcHolds (c.rd0 (c.fget F.LIF_ARG_BASE) 4096) ||
    decide (lefld (c.rd0 (c.fget F.LIF_ARG_BASE) 4096) 0 4 ≠ 0x4C494645) || decide (lefld (c.rd0 (c.fget F.LIF_ARG_BASE) 4096) 16 8 ≠ c.sa.key.serial)) = true ↔
    ¬ c.restorable := by
  unfold Block.restorable
  rw [Bool.or_eq_true, Bool.or_eq_true, Bool.or_eq_true, decide_eq_true_eq, decide_eq_true_eq, Bool.not_eq_true', Bool.not_eq_true',
    Classical.not_and_iff_not_or_not, Classical.not_and_iff_not_or_not, Classical.not_and_iff_not_or_not, Bool.not_eq_true, Bool.not_eq_true, or_assoc, or_assoc]

/-- Settles O53: a frame by its CRC and the frame before it, the restore by the record, the checkpoint by its time. -/
theorem calendarAndLifetime : Obligations.CalendarAndLifetime := by
  intro s f src ha
  have tod := does_run (show exec (.todFrame f) s = execTodFrame f s from rfl) ha
  refine ⟨fun hv => ?_, fun hv hn => ?_, fun hv hf h7 => ?_, fun hv hf h => ?_, fun hv hf h89 hfar hd => ?_, fun hv hf h89 hfar => ?_,
    fun h7 => ⟨fun c hc => ?_, fun hc => ?_⟩, fun h7 => ?_, fun h => ⟨fun h0 => ?_, fun h0 hg => ?_, fun h0 hg => ?_⟩, fun hr => ?_, fun hr => ?_⟩
  · exact stays_of_run (show exec (.todFrame f) s = execTodFrame f s from rfl) (todFrame_invalid hv)
  · rw [todFrame_remembered hv hn] at tod
    exact tod
  · rw [todFrame_load hv hf h7] at tod
    exact tod
  · rw [todFrame_early hv hf h] at tod
    exact tod
  · rw [todFrame_far hv hf h89 hfar hd] at tod
    exact tod
  · rw [todFrame_near hv hf h89 hfar] at tod
    exact tod
  · have hd := does_run (show exec .calSyncTimeout s = execCalSyncTimeout s from rfl) ha
    rw [if_neg (Decidable.not_not.2 h7)] at hd
    dsimp only at hd
    rw [hc] at hd
    exact hd
  · have hd := does_run (show exec .calSyncTimeout s = execCalSyncTimeout s from rfl) ha
    rw [if_neg (Decidable.not_not.2 h7)] at hd
    dsimp only at hd
    rw [hc] at hd
    exact hd
  · exact stays_of_run (show exec .calSyncTimeout s = execCalSyncTimeout s from rfl) (if_pos h7)
  · have hd := does_run (show exec (.lifRestore src) s = execLifRestore src s from rfl) ha
    rw [lifCmd_restore h, if_pos h0] at hd
    exact hd
  · have hd := does_run (show exec (.lifRestore src) s = execLifRestore src s from rfl) ha
    rw [lifCmd_restore h, if_neg h0, if_pos ((restorable_iff _).2 hg)] at hd
    exact hd
  · have hd := does_run (show exec (.lifRestore src) s = execLifRestore src s from rfl) ha
    rw [lifCmd_restore h, if_neg h0, if_neg (fun e => (restorable_iff _).1 e hg)] at hd
    exact hd
  · have hd := does_run (show exec .checkpoint s = execCheckpoint s from rfl) ha
    rw [if_pos hr] at hd
    exact hd
  · exact stays_of_run (show exec .checkpoint s = execCheckpoint s from rfl) (if_neg (Bool.eq_false_iff.1 hr))

end Sys2Proof.Machine
end

section
/-! PROOF. The blocks of a Pair (R504 to R511). -/
namespace Sys2Proof.Machine
open Sys2Proof

/-- A report changes nothing of the Pair. -/
theorem report_pair (b : Block) (unit code detail : Nat) : (b.report unit code detail).pair = b.pair := by
  unfold Block.report
  dsimp only
  split
  · rfl
  · split
    · rfl
    · rw [(quiet_agentPut _ _ _ _ _ _ _).pair]
      exact (quiet_agentPut _ _ _ _ _ _ _).pair

/-! Hello. -/

section
variable {b : Block} {id node : Nat} {act : Bool}

/-- The block with its start completed, in a role of the Pair. -/
def Block.startedAs (b : Block) (role : Nat) : Block := b.startDone.fset F.STA_IDENT_PAIR_ROLE role

/-- A standby of an active peer, COPYING. -/
def Block.startedStandby (b : Block) : Block :=
  ({ (b.startedAs 1) with pair := { (b.startedAs 1).pair with lastEpochUs := (b.startedAs 1).clk.timeUs } }).fset F.STA_PAIR_STATE 3

theorem pairStart_standby : b.pairStart 1 true = b.startedStandby := rfl

theorem pairStart_copying : b.pairStart 0 true = (b.startedAs 0).startCopy := rfl

theorem pairAlone_eq : b.pairAlone = if b.node < b.fget F.LNK_NODE_PEER then (b.startedAs 0).fset F.STA_PAIR_STATE 2 else b := rfl

theorem pairHello_waiting (h8 : b.stage = 8) : b.pairHello id node act =
    if !(id == b.fget F.STA_IMGID_IMAGE_ID) then (b.report 16 8 id).pairAlone else if act then b.pairStart 1 true
    else if b.node < node then b.pairStart 0 true else b.pairStart 1 true := if_pos h8

theorem pairHello_otherImage (h8 : b.stage = 8) (h : id ≠ b.fget F.STA_IMGID_IMAGE_ID) : b.pairHello id node act = (b.report 16 8 id).pairAlone :=
  (pairHello_waiting h8).trans (if_pos (by rw [beq_eq_false_iff_ne.2 h]; rfl))

theorem pairHello_standby (h8 : b.stage = 8) (h : id = b.fget F.STA_IMGID_IMAGE_ID) (ha : act = true ∨ ¬ b.node < node) :
    b.pairHello id node act = b.startedStandby := by
  refine (pairHello_waiting h8).trans ((if_neg (by rw [beq_iff_eq.2 h]; decide)).trans ?_)
  cases act
  · exact (if_neg Bool.false_ne_true).trans (if_neg (ha.resolve_left Bool.false_ne_true))
  · exact if_pos rfl

theorem pairHello_active (h8 : b.stage = 8) (h : id = b.fget F.STA_IMGID_IMAGE_ID) (ha : act = false) (hn : b.node < node) :
    b.pairHello id node act = (b.startedAs 0).startCopy :=
  (pairHello_waiting h8).trans ((if_neg (by rw [beq_iff_eq.2 h]; decide)).trans ((if_neg (by rw [ha]; decide)).trans (if_pos hn)))

/-- An active of a Pair hears a peer that is not active. -/
def Block.hears (b : Block) (act : Bool) : Prop := b.run? = true ∧ b.isPair = true ∧ b.fget F.STA_IDENT_PAIR_ROLE = 0 ∧ act = false

theorem hears_iff : (b.run? && b.isPair && b.fget F.STA_IDENT_PAIR_ROLE == 0 && !act) = true ↔ b.hears act := by
  rw [Bool.and_eq_true, Bool.and_eq_true, Bool.and_eq_true, beq_iff_eq, Bool.not_eq_true', and_assoc, and_assoc]
  rfl

theorem pairHello_serving (h8 : b.stage ≠ 8) (hs : b.hears act) : b.pairHello id node act =
    if id == b.fget F.STA_IMGID_IMAGE_ID then b.startCopy.fset F.STA_PAIR_EPOCH_EPOCH 0 else b.report 16 8 id :=
  (if_neg h8).trans (if_pos (hears_iff.2 hs))

theorem pairHello_unheard (h8 : b.stage ≠ 8) (hs : ¬ b.hears act) : b.pairHello id node act = b :=
  (if_neg h8).trans (if_neg fun h => hs (hears_iff.1 h))

end

/-! The copy. -/

section
variable (b : Block)

theorem startCopy_state : b.startCopy.fget F.STA_PAIR_STATE = 3 :=
  (fget_fset_other _ _ _ _ (by decide) (by decide)).trans (fget_fset_same _ _ _ (by decide))

theorem startCopy_ack : b.startCopy.fget F.STA_PAIR_ACK_ACK = 0 := fget_fset_same _ _ _ (by decide)

/-- The token extent of every live entry is copied. -/
theorem startCopy_extent {e : Nat} (he : e ∈ b.live) {p : Nat × Nat} (hp : p ∈ cutSpan (b.extent e) (4 * b.extentCap e)) : p ∈ b.startCopy.pair.copy := by
  refine List.mem_flatMap.2 ⟨(b.extent e, 4 * b.extentCap e), ?_, hp⟩
  exact List.mem_append_left _ (List.mem_append_right _ (List.mem_map_of_mem he))

/-! Loss of the peer. -/

theorem fenced_fget {f : Fld} (hf : f.off < F.LNK_RM_EVT_CODE.off) (he : f.off ≠ F.STA_EVT_FENCED.off) :
    b.fenced.fget f = ((((({ b with pair := { b.pair with heldWrites := [], mirror := [], copy := [], heads := [] } } : Block).fset
      F.RQT_CTRL_ADMIT_EN 0).fset F.STA_IDENT_PAIR_ROLE 1).fset F.STA_PAIR_STATE 5).fget f) :=
  (report_fget_of_lt _ _ _ _ hf).trans (fget_evt_off _ _ _ he)

theorem fenced_state : b.fenced.fget F.STA_PAIR_STATE = 5 := (fenced_fget b (by decide) (by decide)).trans (fget_fset_same _ _ _ (by decide))

theorem fenced_role : b.fenced.fget F.STA_IDENT_PAIR_ROLE = 1 :=
  (fenced_fget b (by decide) (by decide)).trans ((fget_fset_other _ _ _ _ (by decide) (by decide)).trans (fget_fset_same _ _ _ (by decide)))

theorem fenced_admits_nothing : b.fenced.fget F.RQT_CTRL_ADMIT_EN = 0 :=
  (fenced_fget b (by decide) (by decide)).trans ((fget_fset_other _ _ _ _ (by decide) (by decide)).trans
    ((fget_fset_other _ _ _ _ (by decide) (by decide)).trans (fget_fset_same _ _ _ (by decide))))

theorem fenced_holds_nothing : b.fenced.pair.heldWrites = [] := by
  unfold Block.fenced
  rw [report_pair]
  rfl

theorem peerLate_eq : b.peerLate = if b.pairLinks = [] then b else b.advance (b.pair.lastEpochUs + b.fget F.STA_PAIR_CFG_TIMEOUT_US) := by
  unfold Block.peerLate
  simp only [List.isEmpty_iff]

end

/-! The journal. -/

section
variable {b : Block} {f : Nat}

theorem applyJournal_done (h : b.fget F.STA_PAIR_EPOCH_EPOCH ≤ b.pair.epoch) : Block.applyJournal f b = b := by
  cases f
  · rfl
  · exact if_pos h

theorem applyJournal_unready (h : lefld (b.journalBytes b.pair.applied 16) 12 4 ≠ (b.pair.epoch + 1) % 2 ^ 32) : Block.applyJournal f b = b := by
  cases f
  · rfl
  · unfold Block.applyJournal
    split
    · rfl
    · exact if_pos (by rw [decide_eq_true h]; rfl)

/-- The journal with one record of k bytes done with. -/
def Block.journalPast (b : Block) (k : Nat) : Block := { b with pair := { b.pair with applied := b.pair.applied + 16 + cdiv k 16 * 16 } }

theorem applyJournal_record (he : b.pair.epoch < b.fget F.STA_PAIR_EPOCH_EPOCH)
    (h : lefld (b.journalBytes b.pair.applied 16) 12 4 = (b.pair.epoch + 1) % 2 ^ 32) {k : Nat}
    (hk : lefld (b.journalBytes b.pair.applied 16) 8 4 = k) (hr : k = 0 ∨ (8 ≤ k ∧ k ≤ 65536)) :
    Block.applyJournal (f + 1) b = Block.applyJournal f (if k = 0 then (b.journalPast k).applySync
      else (b.journalPast k).applyRecord (lefld (b.journalBytes b.pair.applied 16) 0 8) (b.journalBytes (b.pair.applied + 16) k)) := by
  subst hk
  refine (if_neg (Nat.not_le.2 he)).trans (if_neg ?_)
  simp only [h, ne_eq, not_true_eq_false, decide_false, Bool.false_or, Bool.and_eq_true, Bool.or_eq_true, decide_eq_true_eq]
  omega

end

/-! A sync. -/

section
variable (b : Block)

/-- The records a sync may write, by kind: the notes, the spans copied, and what closes a full sync (R506). -/
def Block.syncNotes : List (Nat × List Byte) := b.pair.mirror.flatMap b.noteRecord
def Block.syncCopy : List (Nat × List Byte) := b.copyNow.map (fun p => (p.1, b.ownBytes p.1 p.2))
def Block.syncClose : List (Nat × List Byte) := if b.syncCopy.length = b.pair.copy.length then b.syncTail else []

/-- The journal bytes that are free. -/
def Block.syncRoom : Nat := 2 ^ b.fget F.STA_PAIR_JRNL_SIZE_LOG2 - (b.pair.journalHead - b.pair.journalAcked)

def Block.syncFits : Nat := fitCount (b.syncRoom - 16) (b.syncNotes ++ b.syncCopy ++ b.syncClose)

/-- The sync is full: every record fits, the closing ones among them. -/
def Block.syncWhole : Bool := b.syncFits == b.syncNotes.length + b.syncCopy.length + b.syncClose.length && !b.syncClose.isEmpty

def Block.syncCount : Nat := if b.syncWhole then b.syncFits else min b.syncFits (b.syncNotes.length + b.syncCopy.length)

/-- The block with the records and the sync record written, and the standby's epoch raised. -/
def Block.syncSent : Block :=
  let f := ((b.syncNotes ++ b.syncCopy ++ b.syncClose).take b.syncCount).foldl (fun (c : Block) r => c.putRecord r.1 r.2) b
  (f.putRecord 0 []).pairOp (f.fget F.LNK_NODE_PEER * 2 ^ 56 + 4 * 2 ^ 52 + 0x58) []

/-- The Pair's state after a sync that wrote. -/
def Block.syncPair (c : Block) (p : Pair) (notes : List (Nat × List Byte)) (n m : Nat) (whole : Bool) : Pair :=
  { p with
    epoch := p.epoch + 1
    mirror := notes.drop m
    copy := p.copy.drop (m - n)
    heads := p.heads ++ [(2 * (p.epoch + 1) + whole.toNat, p.journalHead)]
    sides := if whole then c.live.map (fun x => (x, c.side x)) else p.sides
    lastEpochUs := if p.heads.isEmpty then c.clk.timeUs else p.lastEpochUs
    heldWrites := if whole then p.heldWrites else p.heldWrites.map (fun (w : HeldWrite) => { w with epoch := max w.epoch (p.epoch + 1 + 1) }) }

variable {b}

theorem pairSync_idle (h : b.mirrors = false ∨ b.syncRoom < 16) : b.pairSync = b := by
  unfold Block.pairSync
  rcases h with h | h
  · rw [h]
    rfl
  · exact ite_eq_left_iff.2 fun _ => if_pos h

theorem pairSync_writes (hm : b.mirrors = true) (hr : 16 ≤ b.syncRoom) :
    b.pairSync = { b.syncSent with pair := b.syncSent.syncPair b.syncSent.pair b.syncNotes b.syncNotes.length b.syncCount b.syncWhole } := by
  unfold Block.pairSync
  exact (if_neg (by rw [hm]; decide)).trans (if_neg (Nat.not_lt.2 hr))

end

theorem standby_run {b : Block} (h : b.standby = true) : b.run? = true := by
  unfold Block.standby at h
  simp only [Bool.and_eq_true] at h
  obtain ⟨⟨⟨⟨hr, -⟩, -⟩, -⟩, -⟩ := h
  exact hr

theorem epochRaise_standby {b : Block} (h : b.standby = true) (n : Nat) :
    let c := b.setReg F.STA_PAIR_EPOCH_EPOCH.off (b.reg F.STA_PAIR_EPOCH_EPOCH.off + BitVec.ofNat 64 n)
    b.epochRaise n = Block.applyJournal (2 ^ c.fget F.STA_PAIR_JRNL_SIZE_LOG2 / 16 * (n + 1) + 1) c := by
  unfold Block.epochRaise
  rw [if_neg (by rw [h]; decide), raiseCounter_run (standby_run h) (by decide)]

theorem epochRaise_other {b : Block} (h : b.standby = false) (n : Nat) : b.epochRaise n = b := if_pos (by rw [h]; rfl)

/-- Settles O54: each command by the role, the stage and the standby's state. -/
theorem pairCommands : Obligations.PairCommands := by
  intro s ha
  have sync := does_run (show exec .pairSync s = execPairSync s from rfl) ha
  refine ⟨fun id node act h8 => ?_, fun id node act h8 => ?_, fun b => ⟨startCopy_state b, startCopy_ack b, rfl, rfl, rfl, fun e he p hp => startCopy_extent b he hp⟩,
    fun h8 => ?_, fun h8 => ?_, ⟨fun hr => ?_, fun hr h => ?_, fun hr hm h16 => ?_⟩, fun hr hm => ⟨fun n => ?_, ?_⟩, fun hm => ⟨fun n => ?_, ?_⟩,
    fun b => ⟨fenced_state b, fenced_role b, fenced_admits_nothing b, fenced_holds_nothing b⟩, fun hs n => ?_,
    fun b f => ⟨applyJournal_done, fun _ h => applyJournal_unready h, fun he h => ⟨fun hk => ?_, fun hk hk' => ?_⟩⟩, fun hs n => ?_,
    fun hs h4 => ?_, fun h => ?_, fun far hr ht => ?_, fun far h => ?_⟩
  · have hd := does_run (show exec (.pairHello id node act) s = execPairHello id node act s from rfl) ha
    refine ⟨fun h hact => ?_, fun h hact hn => ?_, fun h => ?_⟩
    · rw [pairHello_standby h8 h hact] at hd
      exact hd
    · rw [pairHello_active h8 h hact hn] at hd
      exact hd
    · rw [pairHello_otherImage h8 h, pairAlone_eq] at hd
      exact hd
  · have hd := does_run (show exec (.pairHello id node act) s = execPairHello id node act s from rfl) ha
    refine ⟨fun hs h => ?_, fun hs h => ?_, fun hs => ?_⟩
    · rw [pairHello_serving h8 hs, if_pos (beq_iff_eq.2 h)] at hd
      exact hd
    · rw [pairHello_serving h8 hs, if_neg (fun e => h (beq_iff_eq.1 e))] at hd
      exact hd
    · exact stays_of_run (show exec (.pairHello id node act) s = execPairHello id node act s from rfl) (pairHello_unheard h8 hs)
  · have hd := does_run (show exec .pairHelloTimeout s = execPairHelloTimeout s from rfl) ha
    rw [if_pos h8, pairAlone_eq] at hd
    exact hd
  · exact stays_of_run (show exec .pairHelloTimeout s = execPairHelloTimeout s from rfl) (if_neg h8)
  · exact stays_of_run (show exec .pairSync s = execPairSync s from rfl) (if_neg (Bool.eq_false_iff.1 hr))
  · rw [if_pos hr, pairSync_idle h] at sync
    exact sync
  · rw [if_pos hr, pairSync_writes hm h16] at sync
    exact ⟨_, sync, rfl, rfl, rfl, rfl, rfl, rfl, rfl, fun h => ⟨if_pos h, if_pos h⟩, fun h => ⟨if_neg (Bool.eq_false_iff.1 h), if_neg (Bool.eq_false_iff.1 h)⟩⟩
  · have hd := does_run (show exec (.pairAckRaise n) s = execPairAckRaise n s from rfl) ha
    rw [if_pos (by rw [hr, hm]; rfl), raiseCounter_run hr (by decide)] at hd
    exact hd
  · have hd := does_run (show exec .pairFence s = execPairFence s from rfl) ha
    rw [if_pos (by rw [hr, hm]; rfl), peerLate_eq] at hd
    exact hd
  · exact stays_of_run (show exec (.pairAckRaise n) s = execPairAckRaise n s from rfl) (if_neg (by rw [hm, Bool.and_false]; decide))
  · exact stays_of_run (show exec .pairFence s = execPairFence s from rfl) (if_neg (by rw [hm, Bool.and_false]; decide))
  · have hd := does_run (show exec (.pairEpochRaise n) s = execPairEpochRaise n s from rfl) ha
    rw [epochRaise_standby hs n] at hd
    exact hd
  · have e := applyJournal_record (f := f) he h hk (.inl rfl)
    rw [if_pos rfl] at e
    rw [hk]
    exact e
  · exact (applyJournal_record he h rfl (.inr ⟨hk, hk'⟩)).trans (by rw [if_neg (by omega)]; rfl)
  · have hd := does_run (show exec (.pairEpochRaise n) s = execPairEpochRaise n s from rfl) ha
    rw [epochRaise_other hs n] at hd
    exact hd
  · have hd := does_run (show exec .pairStandbyTimeout s = execPairStandbyTimeout s from rfl) ha
    rw [if_pos (by rw [hs, h4]; rfl), peerLate_eq] at hd
    exact hd
  · refine stays_of_run (show exec .pairStandbyTimeout s = execPairStandbyTimeout s from rfl) (if_neg ?_)
    rw [Bool.and_eq_true, beq_iff_eq]
    rintro ⟨hs, h4⟩
    exact h.elim (fun h => Bool.false_ne_true (h.symm.trans hs)) (fun h => h h4)
  · have hd := does_run (show exec (.takeoverEffect far) s = execTakeoverEffect far s from rfl) ha
    rw [if_pos (by rw [hr, ht]; rfl)] at hd
    exact hd
  · refine stays_of_run (show exec (.takeoverEffect far) s = execTakeoverEffect far s from rfl) (if_neg ?_)
    rw [Bool.and_eq_true]
    rintro ⟨hr, ht⟩
    exact h.elim (fun h => Bool.false_ne_true (h.symm.trans hr)) (fun h => Bool.false_ne_true (h.symm.trans ht))

end Sys2Proof.Machine
end

section
/-! PROOF. The commands that load and unload objects, release units, and define profiles (R159, R188, R202, R300, R311, R316, R320, R323). -/
namespace Sys2Proof.Machine
open Sys2Proof

section
variable {b : Block} {src : RegSrc} {n : Nat}

/-- An unload of an object that is loaded. -/
theorem startUnload_there {α : Type} {o : Option α} (h : o ≠ none) (kind off : Nat) (st : Fld) :
    b.startUnload kind n off o.isSome st = ((b.atBoundary (2 * kind + 2) n 0 0).status st 0).cfgEvent off 2 n [] :=
  if_neg (by rw [Option.isSome_iff_ne_none.2 h]; decide)

theorem startUnload_absent {α : Type} {o : Option α} (h : o = none) (kind off : Nat) (st : Fld) :
    b.startUnload kind n off o.isSome st = b.status st 3 := if_pos (by rw [h]; rfl)

/-! Vocabularies. -/

/-- The word of TOK_SLOT_CMD, and of the other command registers below. -/
theorem tokWord {op : Nat} (hop : op < 4) (hn : n < 32) :
    wfld (wput [(F.TOK_SLOT_CMD_SLOT, n), (F.TOK_SLOT_CMD_OP, op)]) F.TOK_SLOT_CMD_SLOT = n ∧
    wfld (wput [(F.TOK_SLOT_CMD_SLOT, n), (F.TOK_SLOT_CMD_OP, op)]) F.TOK_SLOT_CMD_OP = op :=
  wfld_wput 0x0440 n op 0 5 8 2 (by decide) (by decide) hn hop

theorem tokSlotCmd_command {op : Nat} (hop : op = 1 ∨ op = 2) (hn : n < 32)
    (h : b.accepts src 0x0440 (wput [(F.TOK_SLOT_CMD_SLOT, n), (F.TOK_SLOT_CMD_OP, op)]) (b.objBusy 0 n || b.live.any (fun e => b.eget e E.VOCAB == n))) :
    let c := b.written src 0x0440 (wput [(F.TOK_SLOT_CMD_SLOT, n), (F.TOK_SLOT_CMD_OP, op)])
    b.tokSlotCmd src (wput [(F.TOK_SLOT_CMD_SLOT, n), (F.TOK_SLOT_CMD_OP, op)]) =
      if op = 1 then c.startCheck 0 n (c.fget F.TOK_SLOT_ADDR_BASE) F.TOK_SLOT_CMD_STATUS
      else c.startUnload 0 n 0x0440 (tget c.ob.vocabs n).isSome F.TOK_SLOT_CMD_STATUS := by
  obtain ⟨p, o⟩ := tokWord (n := n) (show op < 4 by omega) hn
  unfold Block.tokSlotCmd
  dsimp only
  rw [p, o, regWrite_command h (show opFld 0x0440 = some F.TOK_SLOT_CMD_OP by decide) (by omega)]

/-! Grammars and stop sets. -/

theorem grmWord {op : Nat} (hop : op < 4) (hn : n < 65536) : wfld (wput [(F.GRM_CMD_NUMBER, n), (F.GRM_CMD_OP, op)]) F.GRM_CMD_NUMBER = n ∧
    wfld (wput [(F.GRM_CMD_NUMBER, n), (F.GRM_CMD_OP, op)]) F.GRM_CMD_OP = op :=
  wfld_wput 0x0600 n op 0 16 16 2 (by decide) (by decide) hn hop

/-- Grammar 0 is never under a command. -/
theorem grmCmd_command {op : Nat} (hop : op = 1 ∨ op = 2) (hn : n < 65536)
    (h : b.accepts src 0x0600 (wput [(F.GRM_CMD_NUMBER, n), (F.GRM_CMD_OP, op)])
      (n != 0 && (b.objBusy 1 n || b.live.any (fun e => b.eget e E.GRAMMAR == n)))) :
    let c := b.written src 0x0600 (wput [(F.GRM_CMD_NUMBER, n), (F.GRM_CMD_OP, op)])
    b.grmCmd src (wput [(F.GRM_CMD_NUMBER, n), (F.GRM_CMD_OP, op)]) =
      if n = 0 then c.status F.GRM_CMD_STATUS 2
      else if op = 1 then c.startCheck 1 n (c.fget F.GRM_ADDR_BASE) F.GRM_CMD_STATUS
      else c.startUnload 1 n 0x0600 (tget c.ob.grammars n).isSome F.GRM_CMD_STATUS := by
  obtain ⟨p, o⟩ := grmWord (n := n) (show op < 4 by omega) hn
  unfold Block.grmCmd
  dsimp only
  rw [p, o, regWrite_command h (show opFld 0x0600 = some F.GRM_CMD_OP by decide) (by omega)]

theorem stpWord {op : Nat} (hop : op < 4) (hn : n < 65536) : wfld (wput [(F.STP_CMD_NUMBER, n), (F.STP_CMD_OP, op)]) F.STP_CMD_NUMBER = n ∧
    wfld (wput [(F.STP_CMD_NUMBER, n), (F.STP_CMD_OP, op)]) F.STP_CMD_OP = op :=
  wfld_wput 0x0680 n op 0 16 16 2 (by decide) (by decide) hn hop

theorem stpCmd_command {op : Nat} (hop : op = 1 ∨ op = 2) (hn : n < 65536)
    (h : b.accepts src 0x0680 (wput [(F.STP_CMD_NUMBER, n), (F.STP_CMD_OP, op)])
      (n != 0 && (b.objBusy 2 n || b.live.any (fun e => b.eget e E.STOPSET == n)))) :
    let c := b.written src 0x0680 (wput [(F.STP_CMD_NUMBER, n), (F.STP_CMD_OP, op)])
    b.stpCmd src (wput [(F.STP_CMD_NUMBER, n), (F.STP_CMD_OP, op)]) =
      if n = 0 then c.status F.STP_CMD_STATUS 2
      else if op = 1 then c.startCheck 2 n (c.fget F.STP_ADDR_BASE) F.STP_CMD_STATUS
      else c.startUnload 2 n 0x0680 (tget c.ob.stops n).isSome F.STP_CMD_STATUS := by
  obtain ⟨p, o⟩ := stpWord (n := n) (show op < 4 by omega) hn
  unfold Block.stpCmd
  dsimp only
  rw [p, o, regWrite_command h (show opFld 0x0680 = some F.STP_CMD_OP by decide) (by omega)]

/-- Whether an object other than number 0 is in use. -/
theorem accepts_nonzero {off : Nat} {v : Word} {busy : Bool} (hn : n ≠ 0) (h : b.accepts src off v busy) : b.accepts src off v (n != 0 && busy) := by
  rw [bne_iff_ne.2 hn, Bool.true_and]
  exact h

/-! Ensembles and matcher sets. -/

theorem orcWord {op : Nat} (hop : op < 4) (hn : n < 256) : wfld (wput [(F.ORC_CMD_NUMBER, n), (F.ORC_CMD_OP, op)]) F.ORC_CMD_NUMBER = n ∧
    wfld (wput [(F.ORC_CMD_NUMBER, n), (F.ORC_CMD_OP, op)]) F.ORC_CMD_OP = op :=
  wfld_wput 0x0C00 n op 0 8 8 2 (by decide) (by decide) hn hop

theorem orcCmd_command {op : Nat} (hop : 1 ≤ op ∧ op < 4) (hn : n < 256)
    (h : b.accepts src 0x0C00 (wput [(F.ORC_CMD_NUMBER, n), (F.ORC_CMD_OP, op)]) (op == 2 && b.ensBusy n)) :
    let c := b.written src 0x0C00 (wput [(F.ORC_CMD_NUMBER, n), (F.ORC_CMD_OP, op)])
    b.orcCmd src (wput [(F.ORC_CMD_NUMBER, n), (F.ORC_CMD_OP, op)]) =
      if op = 1 then c.startCheck 4 n (c.fget F.ORC_ADDR_BASE) F.ORC_CMD_STATUS
      else if op = 2 then c.startUnload 4 n 0x0C00 (tget c.ob.ensembles n).isSome F.ORC_CMD_STATUS
      else (c.status F.ORC_CMD_STATUS 1).atBoundary 13 n 0 0 := by
  obtain ⟨p, o⟩ := orcWord (n := n) hop.2 hn
  unfold Block.orcCmd
  dsimp only
  rw [p, o, regWrite_command h (show opFld 0x0C00 = some F.ORC_CMD_OP by decide) (by omega)]
  obtain rfl | rfl | rfl : op = 1 ∨ op = 2 ∨ op = 3 := by omega
  · rfl
  · rfl
  · rfl

theorem matWord {op : Nat} (hop : op < 4) (hn : n < 1024) : wfld (wput [(F.MAT_CMD_NUMBER, n), (F.MAT_CMD_OP, op)]) F.MAT_CMD_NUMBER = n ∧
    wfld (wput [(F.MAT_CMD_NUMBER, n), (F.MAT_CMD_OP, op)]) F.MAT_CMD_OP = op :=
  wfld_wput 0x0D00 n op 0 10 12 2 (by decide) (by decide) hn hop

theorem matCmd_command {op : Nat} (hop : 1 ≤ op ∧ op < 4) (hn : n < 1024)
    (h : b.accepts src 0x0D00 (wput [(F.MAT_CMD_NUMBER, n), (F.MAT_CMD_OP, op)]) (op != 3 && b.msetBusy n)) :
    let c := b.written src 0x0D00 (wput [(F.MAT_CMD_NUMBER, n), (F.MAT_CMD_OP, op)])
    b.matCmd src (wput [(F.MAT_CMD_NUMBER, n), (F.MAT_CMD_OP, op)]) =
      if op = 1 then c.startCheck 3 n (c.fget F.MAT_ADDR_BASE) F.MAT_CMD_STATUS
      else if op = 2 then c.startUnload 3 n 0x0D00 (tget c.ob.msets n).isSome F.MAT_CMD_STATUS
      else (c.status F.MAT_CMD_STATUS 1).atBoundary 14 n 0 0 := by
  obtain ⟨p, o⟩ := matWord (n := n) hop.2 hn
  unfold Block.matCmd
  dsimp only
  rw [p, o, regWrite_command h (show opFld 0x0D00 = some F.MAT_CMD_OP by decide) (by omega)]
  obtain rfl | rfl | rfl : op = 1 ∨ op = 2 ∨ op = 3 := by omega
  · rfl
  · rfl
  · rfl

/-! Profiles. -/

theorem vrdWord {op : Nat} (hop : op < 4) (hn : n < 4096) : wfld (wput [(F.VRD_CMD_PROFILE, n), (F.VRD_CMD_OP, op)]) F.VRD_CMD_PROFILE = n ∧
    wfld (wput [(F.VRD_CMD_PROFILE, n), (F.VRD_CMD_OP, op)]) F.VRD_CMD_OP = op :=
  wfld_wput 0x0E08 n op 0 12 12 2 (by decide) (by decide) hn hop

/-- The record at VRD_ARG. -/
def Block.profArg (b : Block) : List Byte :=
  if b.fget F.VRD_ARG_BASE % 64 = 0 ∧ b.readable (b.fget F.VRD_ARG_BASE) 512 = true then b.rd0 (b.fget F.VRD_ARG_BASE) 512 else []

theorem vrdCmd_command {op : Nat} (hop : op = 1 ∨ op = 2) (hn : n < 4096)
    (h : b.accepts src 0x0E08 (wput [(F.VRD_CMD_PROFILE, n), (F.VRD_CMD_OP, op)]) (b.live.any (fun e => b.eget e E.PROFILE == n))) :
    let c := b.written src 0x0E08 (wput [(F.VRD_CMD_PROFILE, n), (F.VRD_CMD_OP, op)])
    b.vrdCmd src (wput [(F.VRD_CMD_PROFILE, n), (F.VRD_CMD_OP, op)]) = if op = 2 then c.undefine n else c.define n c.profArg := by
  obtain ⟨p, o⟩ := vrdWord (n := n) (show op < 4 by omega) hn
  unfold Block.vrdCmd Block.profArg
  dsimp only
  rw [p, o, regWrite_command h (show opFld 0x0E08 = some F.VRD_CMD_OP by decide) (by omega)]
  simp only [Bool.and_eq_true, decide_eq_true_eq]

section
variable {r : List Byte}

/-- What the define of a profile drops and adds (R323). -/
def Block.profDrop (b : Block) (p : Nat) : List Nat := ((b.profNow p).map sloesOf).getD []
def Block.profFits (b : Block) (p : Nat) (r : List Byte) : Bool := b.pinsFit (b.fget F.MDL_CTRL_FREE_MIN) (b.profDrop p) (sloesOf r)

/-- The version a define gives. -/
def Block.profVersion (b : Block) (p : Nat) : Nat := (((b.profNow p).map (fun o => lefld o 16 2)).getD (b.prof p 16 2) + 1) % 65536

/-- The record a define stores. -/
def profRecord (r : List Byte) (version : Nat) : List Byte := leBytes 4 (lefld r 0 4 ||| 1) ++ (r.drop 4).take 12 ++ leBytes 2 version ++ r.drop 18

theorem define_bad (h : b.profileOk r = false) : b.define n r = b.status F.VRD_CMD_STATUS 2 := if_pos (by rw [h]; rfl)

theorem define_unfit (h : b.profileOk r = true) (hf : b.profFits n r = false) : b.define n r = b.status F.VRD_CMD_STATUS 4 :=
  (if_neg (by rw [h]; decide)).trans (if_pos (by
    rw [show b.pinsFit (b.fget F.MDL_CTRL_FREE_MIN) (((b.profNow n).map sloesOf).getD []) (sloesOf r) = false from hf]; rfl))

theorem define_stands (h : b.profileOk r = true) (hf : b.profFits n r = true) :
    let c := (b.profDrop n).foldl (fun c m => c.unpin m) ((sloesOf r).foldl (fun c m => c.pin m) b)
    b.define n r = (((c.atBoundary 20 n 0 0 (profRecord r (b.profVersion n))).profEvent n (b.profVersion n) 1).status F.VRD_CMD_STATUS 0).cfgEvent
      0x0E08 1 n (profRecord r (b.profVersion n)) := by
  have version : b.profVersion n = ((match b.profNow n with
      | some o => lefld o 16 2
      | none => b.prof n 16 2) + 1) % 65536 := by
    unfold Block.profVersion
    cases b.profNow n <;> rfl
  intro c
  rw [version]
  exact (if_neg (by rw [h]; decide)).trans (if_neg (by
    rw [show b.pinsFit (b.fget F.MDL_CTRL_FREE_MIN) (((b.profNow n).map sloesOf).getD []) (sloesOf r) = true from hf]; decide))

theorem undefine_absent (h : b.profNow n = none) : b.undefine n = b.status F.VRD_CMD_STATUS 3 := by
  unfold Block.undefine
  rw [h]

/-- A defined profile undefined: its define that waits given up, its ACTIVE bit cleared, its pins gone. -/
def Block.profCleared (b : Block) (p : Nat) (r : List Byte) : Block :=
  let c := { b with ob := { b.ob with acts := b.ob.acts.filter (fun a => !(a.what == 20 && a.a == p)) } }
  let a := c.fget F.VRD_PROF_BASE_BASE + 512 * p
  (sloesOf r).foldl (fun c m => c.unpin m) ((c.wr0 a (leBytes 4 (lefld r 0 4 / 2 * 2))).wr0 (a + 16) (leBytes 2 (lefld r 16 2)))

theorem undefine_there (h : b.profNow n = some r) :
    b.undefine n = (((b.profCleared n r).profEvent n (lefld r 16 2) 2).status F.VRD_CMD_STATUS 0).cfgEvent 0x0E08 2 n [] := by
  unfold Block.undefine
  rw [h]
  rfl

end

end

/-- Settles O46: a load, an unload by what is loaded, a release, and a profile by its record and its pins. -/
theorem objectCommands : Obligations.ObjectCommands := by
  intro s src n ha
  refine ⟨fun hn h => ?_, fun hn h => ?_, fun hn h0 h => ?_, fun hn h0 h => ?_, fun h => ?_, fun h => ?_,
    fun hn h0 h => ?_, fun hn h0 h => ?_, fun h => ?_, fun h => ?_,
    fun hn h => ?_, fun hn h => ?_, fun hn h => ?_, fun hn h => ?_, fun hn h => ?_, fun hn h => ?_, fun hn h => ?_, fun hn h => ?_⟩
  · have hd := does_run (show exec (.tokSlotLoad src n) s = execTokSlotLoad src n s from rfl) ha
    rw [tokSlotCmd_command (.inl rfl) hn h, if_pos rfl] at hd
    exact hd
  · have hd := does_run (show exec (.tokSlotUnload src n) s = execTokSlotUnload src n s from rfl) ha
    rw [tokSlotCmd_command (.inr rfl) hn h, if_neg (by decide)] at hd
    refine ⟨fun ht => ?_, fun ht => ?_⟩
    · rw [startUnload_there ht] at hd
      exact hd
    · rw [startUnload_absent ht] at hd
      exact hd
  · have hd := does_run (show exec (.grammarLoad src n) s = execGrammarLoad src n s from rfl) ha
    rw [grmCmd_command (.inl rfl) hn (accepts_nonzero h0 h), if_neg h0, if_pos rfl] at hd
    exact hd
  · have hd := does_run (show exec (.grammarUnload src n) s = execGrammarUnload src n s from rfl) ha
    rw [grmCmd_command (.inr rfl) hn (accepts_nonzero h0 h), if_neg h0, if_neg (by decide)] at hd
    refine ⟨fun ht => ?_, fun ht => ?_⟩
    · rw [startUnload_there ht] at hd
      exact hd
    · rw [startUnload_absent ht] at hd
      exact hd
  · have hd := does_run (show exec (.grammarLoad src 0) s = execGrammarLoad src 0 s from rfl) ha
    rw [grmCmd_command (.inl rfl) (by decide) h, if_pos rfl] at hd
    exact hd
  · have hd := does_run (show exec (.grammarUnload src 0) s = execGrammarUnload src 0 s from rfl) ha
    rw [grmCmd_command (.inr rfl) (by decide) h, if_pos rfl] at hd
    exact hd
  · have hd := does_run (show exec (.stopsetLoad src n) s = execStopsetLoad src n s from rfl) ha
    rw [stpCmd_command (.inl rfl) hn (accepts_nonzero h0 h), if_neg h0, if_pos rfl] at hd
    exact hd
  · have hd := does_run (show exec (.stopsetUnload src n) s = execStopsetUnload src n s from rfl) ha
    rw [stpCmd_command (.inr rfl) hn (accepts_nonzero h0 h), if_neg h0, if_neg (by decide)] at hd
    refine ⟨fun ht => ?_, fun ht => ?_⟩
    · rw [startUnload_there ht] at hd
      exact hd
    · rw [startUnload_absent ht] at hd
      exact hd
  · have hd := does_run (show exec (.stopsetLoad src 0) s = execStopsetLoad src 0 s from rfl) ha
    rw [stpCmd_command (.inl rfl) (by decide) h, if_pos rfl] at hd
    exact hd
  · have hd := does_run (show exec (.stopsetUnload src 0) s = execStopsetUnload src 0 s from rfl) ha
    rw [stpCmd_command (.inr rfl) (by decide) h, if_pos rfl] at hd
    exact hd
  · have hd := does_run (show exec (.ensembleLoad src n) s = execEnsembleLoad src n s from rfl) ha
    rw [orcCmd_command (by decide) hn h, if_pos rfl] at hd
    exact hd
  · have hd := does_run (show exec (.ensembleUnload src n) s = execEnsembleUnload src n s from rfl) ha
    rw [orcCmd_command (by decide) hn h, if_neg (by decide), if_pos rfl] at hd
    refine ⟨fun ht => ?_, fun ht => ?_⟩
    · rw [startUnload_there ht] at hd
      exact hd
    · rw [startUnload_absent ht] at hd
      exact hd
  · have hd := does_run (show exec (.matcherSetLoad src n) s = execMatcherSetLoad src n s from rfl) ha
    rw [matCmd_command (by decide) hn h, if_pos rfl] at hd
    exact hd
  · have hd := does_run (show exec (.matcherSetUnload src n) s = execMatcherSetUnload src n s from rfl) ha
    rw [matCmd_command (by decide) hn h, if_neg (by decide), if_pos rfl] at hd
    refine ⟨fun ht => ?_, fun ht => ?_⟩
    · rw [startUnload_there ht] at hd
      exact hd
    · rw [startUnload_absent ht] at hd
      exact hd
  · have hd := does_run (show exec (.threadGroupRelease src n) s = execThreadGroupRelease src n s from rfl) ha
    rw [orcCmd_command (by decide) hn h, if_neg (by decide), if_neg (by decide)] at hd
    exact hd
  · have hd := does_run (show exec (.matcherRelease src n) s = execMatcherRelease src n s from rfl) ha
    rw [matCmd_command (by decide) hn h, if_neg (by decide), if_neg (by decide)] at hd
    exact hd
  · have hd := does_run (show exec (.profileDefine src n) s = execProfileDefine src n s from rfl) ha
    rw [vrdCmd_command (.inl rfl) hn h, if_neg (by decide)] at hd
    refine ⟨fun hr => ?_, fun hr hf => ?_, fun hr hf => ?_⟩
    · rw [define_bad (r := Block.profArg _) hr] at hd
      exact hd
    · rw [define_unfit (r := Block.profArg _) hr hf] at hd
      exact hd
    · rw [define_stands (r := Block.profArg _) hr hf] at hd
      exact hd
  · have hd := does_run (show exec (.profileUndefine src n) s = execProfileUndefine src n s from rfl) ha
    rw [vrdCmd_command (.inr rfl) hn h, if_pos rfl] at hd
    refine ⟨fun hr => ?_, fun r hr => ?_⟩
    · rw [undefine_absent hr] at hd
      exact hd
    · rw [undefine_there hr] at hd
      exact hd

end Sys2Proof.Machine
end

section
/-! PROOF. The commands of the model store (R274 to R278, R283, R284, R289, R292, R293), and the start of a load (R276, R277). -/
namespace Sys2Proof.Machine
open Sys2Proof

section
variable {b : Block} {src : RegSrc} {n : Nat}

/-! The two command registers. -/

theorem mdlWord {op : Nat} (hop : op < 8) (hn : n < 8192) : wfld (wput [(F.MDL_CMD_NUMBER, n), (F.MDL_CMD_OP, op)]) F.MDL_CMD_NUMBER = n ∧
    wfld (wput [(F.MDL_CMD_NUMBER, n), (F.MDL_CMD_OP, op)]) F.MDL_CMD_OP = op :=
  wfld_wput 0x0B38 n op 0 13 16 3 (by decide) (by decide) hn hop

/-- What a command of MDL_CMD does once it stands. -/
def Block.modelOp (b : Block) (n op : Nat) : Block :=
  match op with
  | 1 => b.modelRegister n
  | 2 => b.fetchObj false n
  | 3 => b.modelUnload n
  | 4 => b.modelPin n
  | _ => b.modelUnpin n

theorem mdlCmd_command {op : Nat} (hop : op ≠ 0 ∧ op < 8) (hn : n < 8192)
    (h : b.accepts src 0x0B38 (wput [(F.MDL_CMD_NUMBER, n), (F.MDL_CMD_OP, op)]) (op == 3 && b.modelBusy n)) :
    b.mdlCmd src (wput [(F.MDL_CMD_NUMBER, n), (F.MDL_CMD_OP, op)]) =
      (b.written src 0x0B38 (wput [(F.MDL_CMD_NUMBER, n), (F.MDL_CMD_OP, op)])).modelOp n op := by
  obtain ⟨p, o⟩ := mdlWord (n := n) hop.2 hn
  unfold Block.mdlCmd Block.modelOp
  dsimp only
  rw [p, o]
  exact regWrite_command h (show opFld 0x0B38 = some F.MDL_CMD_OP by decide) (by rw [o]; exact hop.1) _

theorem adpWord {op : Nat} (hop : op < 4) (hn : n < 262144) : wfld (wput [(F.MDL_ADP_CMD_NUMBER, n), (F.MDL_ADP_CMD_OP, op)]) F.MDL_ADP_CMD_NUMBER = n ∧
    wfld (wput [(F.MDL_ADP_CMD_NUMBER, n), (F.MDL_ADP_CMD_OP, op)]) F.MDL_ADP_CMD_OP = op :=
  wfld_wput 0x0B50 n op 0 18 18 2 (by decide) (by decide) hn hop

/-- What a command of MDL_ADP_CMD does once it stands. -/
def Block.adapterOp (b : Block) (n op : Nat) : Block :=
  match op with
  | 1 => b.adapterRegister n
  | 2 => b.adapterUnregister n
  | _ => b.fetchObj true n

theorem adpCmd_command {op : Nat} (hop : op ≠ 0 ∧ op < 4) (hn : n < 262144)
    (h : b.accepts src 0x0B50 (wput [(F.MDL_ADP_CMD_NUMBER, n), (F.MDL_ADP_CMD_OP, op)]) (op == 2 && b.live.any (fun e => (b.adapters e).contains n))) :
    b.adpCmd src (wput [(F.MDL_ADP_CMD_NUMBER, n), (F.MDL_ADP_CMD_OP, op)]) =
      (b.written src 0x0B50 (wput [(F.MDL_ADP_CMD_NUMBER, n), (F.MDL_ADP_CMD_OP, op)])).adapterOp n op := by
  obtain ⟨p, o⟩ := adpWord (n := n) hop.2 hn
  unfold Block.adpCmd Block.adapterOp
  dsimp only
  rw [p, o]
  exact regWrite_command h (show opFld 0x0B50 = some F.MDL_ADP_CMD_OP by decide) (by rw [o]; exact hop.1) _

/-! Registrations. -/

/-- The record at MDL_ARG, its two conditions a conjunction. -/
def Block.mdlArg (b : Block) : List Byte :=
  if b.fget F.MDL_ARG_BASE % 64 = 0 ∧ b.readable (b.fget F.MDL_ARG_BASE) 128 = true then b.rd0 (b.fget F.MDL_ARG_BASE) 128 else []

theorem argRecord_eq : b.argRecord = b.mdlArg := by
  unfold Block.argRecord Block.mdlArg
  dsimp only
  simp only [Bool.and_eq_true, decide_eq_true_eq]

/-- Where a record's object is, by whether it is kept COLD. -/
def Block.SourceFits (b : Block) (a kind : Nat) : Prop :=
  if kind = 1 then gaSpace a = 5 ∨ gaSpace a = 6 else gaSpace a = 0 ∧ gaNode a = b.node

theorem sourceFits_iff (a kind : Nat) : b.sourceFits a (kind == 1) = true ↔ b.SourceFits a kind := by
  unfold Block.sourceFits Block.SourceFits
  by_cases h : kind = 1
  · rw [if_pos (beq_iff_eq.2 h), if_pos h, Bool.or_eq_true, beq_iff_eq, beq_iff_eq]
  · rw [if_neg (fun e => h (beq_iff_eq.1 e)), if_neg h, Bool.and_eq_true, beq_iff_eq, beq_iff_eq]

theorem placeNew_cold {ad cold : Bool} (h : cold = true) : b.placeNew ad n cold = (b.setObjState ad n 1).mdlEnd ad 0 := if_pos h

theorem placeNew_warm {ad cold : Bool} (h : ¬ cold = true) : b.placeNew ad n cold = ((b.setObjState ad n 2).waitLoad ad n).startLoad ad n := if_neg h

/-- A model's record that may be registered. -/
def Block.ModelRecordOk (b : Block) (r : List Byte) : Prop :=
  r ≠ [] ∧ lefld r 16 1 ≤ 1 ∧ allZero ((r.drop 17).take 47) = true ∧ allZero (r.drop 112) = true ∧ b.SourceFits (lefld r 0 8) (lefld r 16 1)

theorem modelRecordOk_iff {r : List Byte} :
    ¬ (r.isEmpty || decide (1 < lefld r 16 1) || !allZero ((r.drop 17).take 47) || !allZero (r.drop 112) || !b.sourceFits (lefld r 0 8) (lefld r 16 1 == 1)) = true ↔
      b.ModelRecordOk r := by
  unfold Block.ModelRecordOk
  rw [← sourceFits_iff]
  simp only [Bool.or_eq_true, Bool.not_eq_true', decide_eq_true_eq, List.isEmpty_iff, not_or, Bool.not_eq_false, Nat.not_lt, ne_eq, and_assoc]

/-- The block with a model's record written. -/
def Block.modelKept (b : Block) (n : Nat) (r : List Byte) : Block :=
  let pins := b.heldPins n
  let a := b.wr0 (b.objAddr false n) (leBytes 3 0 ++ leBytes 1 (if lefld r 16 1 = 1 then 2 else 0) ++ leBytes 4 pins ++ r.take 16 ++ zeros 40 ++
    (r.drop 64).take 48 ++ zeros 16)
  let keep := a.st.pinned.filter (· != n)
  let wait := a.st.fillWait.filter (· != (false, n))
  let c := { a with st := { a.st with
    pinned := if pins = 0 then keep else sortNat (n :: keep)
    fillWait := if pins = 0 then wait else wait ++ [(false, n)]
    heads := tdel a.st.heads n } }
  c.cfgEvent 0x0B38 1 n ((r.drop 64).take 48)

theorem modelRegister_taken (h0 : b.objState false n ≠ 0) (h4 : b.objState false n ≠ 4) : b.modelRegister n = b.mdlEnd false 3 := if_pos ⟨h0, h4⟩

theorem modelRegister_bad (h : b.objState false n = 0 ∨ b.objState false n = 4) (hr : ¬ b.ModelRecordOk b.argRecord) :
    b.modelRegister n = b.mdlEnd false 2 :=
  (if_neg (by omega)).trans (if_pos (Decidable.not_not.1 (fun e => hr (modelRecordOk_iff.1 e))))

theorem modelRegister_good (h : b.objState false n = 0 ∨ b.objState false n = 4) (hr : b.ModelRecordOk b.argRecord) :
    b.modelRegister n = (b.modelKept n b.argRecord).placeNew false n (lefld b.argRecord 16 1 == 1) := by
  have flag : 2 * (lefld b.argRecord 16 1 == 1).toNat = if lefld b.argRecord 16 1 = 1 then 2 else 0 := by
    by_cases hc : lefld b.argRecord 16 1 = 1
    · rw [if_pos hc, hc]; rfl
    · rw [if_neg hc, beq_false_of_ne hc]; rfl
  unfold Block.modelKept
  rw [← flag]
  exact (if_neg (by omega)).trans (if_neg (modelRecordOk_iff.2 hr))

/-- An adapter's record that may be registered. -/
def Block.AdapterRecordOk (b : Block) (r : List Byte) : Prop :=
  r ≠ [] ∧ lefld r 15 1 ≤ 1 ∧ allZero ((r.drop 20).take 44) = true ∧ allZero (r.drop 112) = true ∧ b.SourceFits (lefld r 0 8) (lefld r 15 1) ∧
    1 ≤ lefld r 14 1 ∧ lefld r 14 1 ≤ 64 ∧ lefld r 16 4 < 8192 ∧
    (b.objState false (lefld r 16 4) = 1 ∨ b.objState false (lefld r 16 4) = 3) ∧ lefld r 14 1 ≤ b.header (lefld r 16 4) 44 1

theorem adapterRecordOk_iff {r : List Byte} :
    ¬ (r.isEmpty || decide (1 < lefld r 15 1) || !allZero ((r.drop 20).take 44) || !allZero (r.drop 112) || !b.sourceFits (lefld r 0 8) (lefld r 15 1 == 1)
      || !within (lefld r 14 1) 1 64 || decide (8192 ≤ lefld r 16 4)
      || !(b.objState false (lefld r 16 4) == 1 || b.objState false (lefld r 16 4) == 3) || decide (b.header (lefld r 16 4) 44 1 < lefld r 14 1)) = true ↔
      b.AdapterRecordOk r := by
  unfold Block.AdapterRecordOk
  rw [← sourceFits_iff]
  simp only [Bool.or_eq_true, Bool.not_eq_true', decide_eq_true_eq, List.isEmpty_iff, not_or, Bool.not_eq_false, Nat.not_lt, Nat.not_le, ne_eq, and_assoc,
    within_iff, beq_iff_eq]

/-- The block with an adapter's record written. -/
def Block.adapterKept (b : Block) (n : Nat) (r : List Byte) : Block :=
  let a := b.wr0 (b.objAddr true n) ((r.drop 12).take 3 ++ zeros 5 ++ leBytes 4 (lefld r 16 4) ++ zeros 4 ++ r.take 8 ++ zeros 8 ++ (r.drop 8).take 4 ++ zeros 28)
  let c := { a with st := { a.st with adpDigest := tset a.st.adpDigest n ((r.drop 64).take 48) } }
  c.cfgEvent 0x0B50 1 n ((r.drop 64).take 48)

theorem adapterRegister_taken (h0 : b.objState true n ≠ 0) (h4 : b.objState true n ≠ 4) : b.adapterRegister n = b.mdlEnd true 3 := if_pos ⟨h0, h4⟩

theorem adapterRegister_bad (h : b.objState true n = 0 ∨ b.objState true n = 4) (hr : ¬ b.AdapterRecordOk b.argRecord) :
    b.adapterRegister n = b.mdlEnd true 2 :=
  (if_neg (by omega)).trans (if_pos (Decidable.not_not.1 (fun e => hr (adapterRecordOk_iff.1 e))))

theorem adapterRegister_good (h : b.objState true n = 0 ∨ b.objState true n = 4) (hr : b.AdapterRecordOk b.argRecord) :
    b.adapterRegister n = (b.adapterKept n b.argRecord).placeNew true n (lefld b.argRecord 15 1 == 1) :=
  (if_neg (by omega)).trans (if_neg (adapterRecordOk_iff.2 hr))

/-! Fetches. -/

theorem fetchObj_gone {ad : Bool} (h : b.objState ad n = 0 ∨ 3 < b.objState ad n) : b.fetchObj ad n = b.mdlEnd ad 3 := by
  unfold Block.fetchObj
  split
  case h_4 => rfl
  all_goals omega

theorem fetchObj_cold {ad : Bool} (h : b.objState ad n = 1) : b.fetchObj ad n = (b.waitLoad ad n).startLoad ad n := by
  simp only [Block.fetchObj, h]

theorem fetchObj_loading {ad : Bool} (h : b.objState ad n = 2) : b.fetchObj ad n = b.waitLoad ad n := by
  simp only [Block.fetchObj, h]

theorem fetchObj_warm {ad : Bool} (h : b.objState ad n = 3) : b.fetchObj ad n = b.mdlEnd ad 0 := by
  simp only [Block.fetchObj, h]

/-! What leaves the store. -/

/-- The block an object has left. -/
def Block.objGone (b : Block) (ad : Bool) (n : Nat) : Block :=
  let c := (if b.ctx ad n = none then b else b.unhot ad n).freeWarm ad n
  { c with st := { c.st with loads := c.st.loads.filter (fun l => !(l.1 == ad && l.2.1 == n)), fillWait := c.st.fillWait.filter (· != (ad, n)) } }

theorem forget_eq {ad : Bool} : b.forget ad n = b.objGone ad n := by
  unfold Block.forget Block.objGone
  cases b.ctx ad n with
  | none => rfl
  | some x => rfl

theorem modelUnload_absent (h : b.objState false n = 0) : b.modelUnload n = b.mdlEnd false 3 := if_pos h

/-- An unloaded model: back to COLD where it is WARM and kept so, else EMPTY with its record zeroed. -/
def Block.modelOut (b : Block) (n : Nat) : Block :=
  let d := (b.objGone false n).dropStates n
  if b.objState false n = 3 ∧ (b.cat n 3 1).testBit 1 = true then d.setObjState false n 1
  else { (d.wr0 (d.objAddr false n) (zeros 128)) with st := { d.st with heads := tdel d.st.heads n } }

theorem modelUnload_there (h : b.objState false n ≠ 0) : b.modelUnload n = ((b.modelOut n).mdlEnd false 0).cfgEvent 0x0B38 3 n [] := by
  unfold Block.modelOut
  rw [← forget_eq]
  simp only [← beq_iff_eq (a := b.objState false n), ← Bool.and_eq_true]
  exact if_neg h

theorem modelPin_held (h : b.objState false n = 3 ∧ (b.cat n 3 1).testBit 0 = true) : b.modelPin n = b.mdlEnd false 0 :=
  if_pos (by rw [h.2, h.1]; rfl)

theorem modelPin_not_held (h : ¬ (b.objState false n = 3 ∧ (b.cat n 3 1).testBit 0 = true)) : b.modelPin n =
    if !b.pinOk [n] then b.mdlEnd false 4 else ((b.objPut false n 3 1 (b.cat n 3 1 ||| 1)).pin n).mdlEnd false 0 :=
  if_neg (fun e => h (by rwa [Bool.and_eq_true, decide_eq_true_eq] at e))

theorem modelUnpin_free (h : (b.cat n 3 1).testBit 0 = false) : b.modelUnpin n = b.mdlEnd false 3 := if_pos (by rw [h]; rfl)

theorem modelUnpin_held (h : (b.cat n 3 1).testBit 0 = true) :
    b.modelUnpin n = ((b.objPut false n 3 1 (b.cat n 3 1 / 2 * 2)).unpin n).mdlEnd false 0 := if_neg (by rw [h]; decide)

theorem adapterUnregister_absent (h : b.objState true n = 0) : b.adapterUnregister n = b.mdlEnd true 3 := if_pos h

/-- An adapter taken out of the store. -/
def Block.adapterOut (b : Block) (n : Nat) : Block :=
  let d := (b.objGone true n).wr0 (b.objAddr true n) (zeros 64)
  { d with st := { d.st with adpDigest := tdel d.st.adpDigest n } }

theorem adapterUnregister_there (h : b.objState true n ≠ 0) : b.adapterUnregister n = ((b.adapterOut n).mdlEnd true 0).cfgEvent 0x0B50 2 n [] := by
  unfold Block.adapterOut
  rw [← forget_eq]
  exact if_neg h

/-! The start of a load. -/

theorem startLoad_shared {ad : Bool} (h : b.loading ad n ≠ none) : b.startLoad ad n = b := if_pos (Option.isSome_iff_ne_none.2 h)

/-- The object's place among the loads. -/
def Block.otherLoads (b : Block) (ad : Bool) (n : Nat) : List (Bool × Nat × Option Nat) := b.st.loads.filter (fun l => !(l.1 == ad && l.2.1 == n))

theorem startLoad_waits {ad : Bool} (h : b.loading ad n = none) (hw : b.warmRoom (cdiv (b.objBytes ad n) 2097152) = none) :
    b.startLoad ad n = ({ b with st := { b.st with loads := b.otherLoads ad n ++ [(ad, n, none)] } }).count F.MDL_CNT_C_WARM_WAIT := by
  unfold Block.startLoad
  rw [h, hw]
  rfl

theorem warmRoom_fits {units u : Nat} (h : firstFit (b.st.warm.map (fun w => (w.2.2.1, w.2.2.2))) (b.fget F.MDL_WARM_SIZE_UNITS) units = some u) :
    b.warmRoom units = some (u, b) := by
  unfold Block.warmRoom
  dsimp only
  rw [h]

theorem startLoad_starts {ad : Bool} {u : Nat} (h : b.loading ad n = none) (hw : b.warmRoom (cdiv (b.objBytes ad n) 2097152) = some (u, b)) :
    let c := { b with st := { b.st with
      loads := b.otherLoads ad n ++ [(ad, n, some b.clk.timeUs)], warm := b.st.warm ++ [(ad, n, u, cdiv (b.objBytes ad n) 2097152)] } }
    b.startLoad ad n = (c.setObjState ad n 2).objPut ad n 24 8 (c.fget F.MDL_WARM_BASE + u * 2097152) := by
  unfold Block.startLoad
  rw [h, hw]
  rfl

/-! What the commands do, by what they find. -/

section
variable {c : Instr} {s : State}

theorem modelRegister_does (hd : Does c s (b.modelRegister n)) :
    (b.objState false n ≠ 0 → b.objState false n ≠ 4 → Does c s (b.mdlEnd false 3)) ∧
    (b.objState false n = 0 ∨ b.objState false n = 4 →
      (¬ b.ModelRecordOk b.mdlArg → Does c s (b.mdlEnd false 2)) ∧
      (b.ModelRecordOk b.mdlArg →
        (lefld b.mdlArg 16 1 = 1 → Does c s (((b.modelKept n b.mdlArg).setObjState false n 1).mdlEnd false 0)) ∧
        (¬ lefld b.mdlArg 16 1 = 1 → Does c s ((((b.modelKept n b.mdlArg).setObjState false n 2).waitLoad false n).startLoad false n)))) := by
  rw [← argRecord_eq]
  refine ⟨fun h0 h4 => ?_, fun h => ⟨fun hr => ?_, fun hr => ⟨fun hc => ?_, fun hc => ?_⟩⟩⟩
  · rwa [modelRegister_taken h0 h4] at hd
  · rwa [modelRegister_bad h hr] at hd
  · rwa [modelRegister_good h hr, placeNew_cold (beq_iff_eq.2 hc)] at hd
  · rwa [modelRegister_good h hr, placeNew_warm (fun e => hc (beq_iff_eq.1 e))] at hd

theorem adapterRegister_does (hd : Does c s (b.adapterRegister n)) :
    (b.objState true n ≠ 0 → b.objState true n ≠ 4 → Does c s (b.mdlEnd true 3)) ∧
    (b.objState true n = 0 ∨ b.objState true n = 4 →
      (¬ b.AdapterRecordOk b.mdlArg → Does c s (b.mdlEnd true 2)) ∧
      (b.AdapterRecordOk b.mdlArg →
        (lefld b.mdlArg 15 1 = 1 → Does c s (((b.adapterKept n b.mdlArg).setObjState true n 1).mdlEnd true 0)) ∧
        (¬ lefld b.mdlArg 15 1 = 1 → Does c s ((((b.adapterKept n b.mdlArg).setObjState true n 2).waitLoad true n).startLoad true n)))) := by
  rw [← argRecord_eq]
  refine ⟨fun h0 h4 => ?_, fun h => ⟨fun hr => ?_, fun hr => ⟨fun hc => ?_, fun hc => ?_⟩⟩⟩
  · rwa [adapterRegister_taken h0 h4] at hd
  · rwa [adapterRegister_bad h hr] at hd
  · rwa [adapterRegister_good h hr, placeNew_cold (beq_iff_eq.2 hc)] at hd
  · rwa [adapterRegister_good h hr, placeNew_warm (fun e => hc (beq_iff_eq.1 e))] at hd

theorem fetchObj_does {ad : Bool} (hd : Does c s (b.fetchObj ad n)) :
    (b.objState ad n = 0 ∨ 3 < b.objState ad n → Does c s (b.mdlEnd ad 3)) ∧
    (b.objState ad n = 1 → Does c s ((b.waitLoad ad n).startLoad ad n)) ∧
    (b.objState ad n = 2 → Does c s (b.waitLoad ad n)) ∧
    (b.objState ad n = 3 → Does c s (b.mdlEnd ad 0)) := by
  refine ⟨fun h => ?_, fun h => ?_, fun h => ?_, fun h => ?_⟩
  · rwa [fetchObj_gone h] at hd
  · rwa [fetchObj_cold h] at hd
  · rwa [fetchObj_loading h] at hd
  · rwa [fetchObj_warm h] at hd

theorem modelUnload_does (hd : Does c s (b.modelUnload n)) :
    (b.objState false n = 0 → Does c s (b.mdlEnd false 3)) ∧
    (b.objState false n ≠ 0 → Does c s (((b.modelOut n).mdlEnd false 0).cfgEvent 0x0B38 3 n [])) := by
  refine ⟨fun h => ?_, fun h => ?_⟩
  · rwa [modelUnload_absent h] at hd
  · rwa [modelUnload_there h] at hd

theorem modelPin_does (hd : Does c s (b.modelPin n)) :
    (b.objState false n = 3 ∧ (b.cat n 3 1).testBit 0 = true → Does c s (b.mdlEnd false 0)) ∧
    (¬ (b.objState false n = 3 ∧ (b.cat n 3 1).testBit 0 = true) → b.pinOk [n] = false → Does c s (b.mdlEnd false 4)) ∧
    (¬ (b.objState false n = 3 ∧ (b.cat n 3 1).testBit 0 = true) → b.pinOk [n] = true →
      Does c s (((b.objPut false n 3 1 (b.cat n 3 1 ||| 1)).pin n).mdlEnd false 0)) := by
  refine ⟨fun h => ?_, fun h hp => ?_, fun h hp => ?_⟩
  · rwa [modelPin_held h] at hd
  · rwa [modelPin_not_held h, hp, if_pos (by decide)] at hd
  · rwa [modelPin_not_held h, hp, if_neg (by decide)] at hd

theorem modelUnpin_does (hd : Does c s (b.modelUnpin n)) :
    ((b.cat n 3 1).testBit 0 = false → Does c s (b.mdlEnd false 3)) ∧
    ((b.cat n 3 1).testBit 0 = true → Does c s (((b.objPut false n 3 1 (b.cat n 3 1 / 2 * 2)).unpin n).mdlEnd false 0)) := by
  refine ⟨fun h => ?_, fun h => ?_⟩
  · rwa [modelUnpin_free h] at hd
  · rwa [modelUnpin_held h] at hd

theorem adapterUnregister_does (hd : Does c s (b.adapterUnregister n)) :
    (b.objState true n = 0 → Does c s (b.mdlEnd true 3)) ∧
    (b.objState true n ≠ 0 → Does c s (((b.adapterOut n).mdlEnd true 0).cfgEvent 0x0B50 2 n [])) := by
  refine ⟨fun h => ?_, fun h => ?_⟩
  · rwa [adapterUnregister_absent h] at hd
  · rwa [adapterUnregister_there h] at hd

end

end

/-- Settles O45: the commands of the two registers by what stands in the catalogue, and a load by the room of the warm region. -/
theorem modelCommands : Obligations.ModelCommands := by
  intro s src n ha
  refine ⟨fun hn => ⟨fun h => ?_, fun h => ?_, fun h => ?_, fun h => ?_, fun h => ?_⟩, fun hn => ⟨fun h => ?_, fun h => ?_, fun h => ?_⟩,
    fun b ad => ⟨startLoad_shared, fun hl => ⟨startLoad_waits hl, fun u hu => startLoad_starts hl (warmRoom_fits hu)⟩⟩⟩
  · have hd := does_run (show exec (.modelRegister src n) s = execModelRegister src n s from rfl) ha
    rw [mdlCmd_command (by decide) hn h] at hd
    exact modelRegister_does hd
  · have hd := does_run (show exec (.modelFetch src n) s = execModelFetch src n s from rfl) ha
    rw [mdlCmd_command (by decide) hn h] at hd
    exact fetchObj_does hd
  · have hd := does_run (show exec (.modelUnload src n) s = execModelUnload src n s from rfl) ha
    rw [mdlCmd_command (by decide) hn h] at hd
    exact modelUnload_does hd
  · have hd := does_run (show exec (.modelPin src n) s = execModelPin src n s from rfl) ha
    rw [mdlCmd_command (by decide) hn h] at hd
    exact modelPin_does hd
  · have hd := does_run (show exec (.modelUnpin src n) s = execModelUnpin src n s from rfl) ha
    rw [mdlCmd_command (by decide) hn h] at hd
    exact modelUnpin_does hd
  · have hd := does_run (show exec (.adapterRegister src n) s = execAdapterRegister src n s from rfl) ha
    rw [adpCmd_command (by decide) hn h] at hd
    exact adapterRegister_does hd
  · have hd := does_run (show exec (.adapterUnregister src n) s = execAdapterUnregister src n s from rfl) ha
    rw [adpCmd_command (by decide) hn h] at hd
    exact adapterUnregister_does hd
  · have hd := does_run (show exec (.adapterFetch src n) s = execAdapterFetch src n s from rfl) ha
    rw [adpCmd_command (by decide) hn h] at hd
    exact fetchObj_does hd

end Sys2Proof.Machine
end
